-- ==== Sys2Proof/Word.lean ====
section
/-! DEFINITION. The words of the station link and the small families of like things that the manual
names: one value for each lane, cassette position, throat, bin and service area. -/

namespace Sys2Proof

/-- One byte of the station link (10, section 10.1). -/
abbrev Byte := BitVec 8

/-- A two-byte field of the station link. -/
abbrev Half := BitVec 16

/-- A four-byte field of the station link. -/
abbrev Quad := BitVec 32

/-- A record handle: generation in the high byte, slot number in the low byte (00, Handles). -/
abbrev Handle := BitVec 16

/-- A set of alarm zones as the link's 16-bit mask: bit n for zone Zn (10, section 10.6). -/
abbrev ZoneSet := BitVec 16

/-- A gauge or loop sample code of 12 bits, 0 to 4095 (00, Quantities; R137). -/
abbrev Sample := BitVec 12

/-- A zone, or the loop channel that feeds it: Z0 to Z15 (08, section 8.1). -/
abbrev ZoneId := Fin 16

/-- One value for each of the lanes L1 to L4. -/
structure PerLane (α : Type) where
  l1 : α
  l2 : α
  l3 : α
  l4 : α
deriving DecidableEq, Repr

/-- One value for each of the cassette positions C1 to C5. -/
structure PerPos (α : Type) where
  c1 : α
  c2 : α
  c3 : α
  c4 : α
  c5 : α
deriving DecidableEq, Repr

/-- One value for each of the throats T1 and T2. -/
structure PerThroat (α : Type) where
  t1 : α
  t2 : α
deriving DecidableEq, Repr

/-- One value for each of the service areas. -/
structure PerArea (α : Type) where
  dispenser : α
  reject : α
  capture : α
  wall : α
deriving DecidableEq, Repr

end Sys2Proof
end

