-- ==== Sys2Proof/Syntax.lean ====
section
/-! DEFINITION. The commands of the part: one constructor of `Instr` for each row of the table of
operations and events, in the table's order. A request row carries the AUTH byte and the OPERATOR as
sent and the fields of its BODY at their widths on the link (10, section 10.4); an event row carries
what the event brings from the wall side. -/

namespace Sys2Proof

/-- The lanes (00, Places in the wall). -/
inductive Lane where | l1 | l2 | l3 | l4
deriving DecidableEq, Repr

/-- The cassette positions (00, Places in the wall). -/
inductive CassettePos where | c1 | c2 | c3 | c4 | c5
deriving DecidableEq, Repr

/-- The envelope throats (00, Places in the wall). -/
inductive Throat where | t1 | t2
deriving DecidableEq, Repr

/-- The envelope bins (00, Places in the wall). -/
inductive BinId where | b1 | b2
deriving DecidableEq, Repr

/-- The service areas (00, Places in the wall). -/
inductive Area where | dispenser | reject | capture | wall
deriving DecidableEq, Repr

/-- The two transports. -/
inductive Transport where | note | envelope
deriving DecidableEq, Repr

/-- The two position switches of a drawer (05, section 5.1). -/
inductive DrawerSwitch where | home | out
deriving DecidableEq, Repr

/-- The loop classes (08, section 8.1.1); `none` is that of the forcing zones. -/
inductive LoopClass where
  | none | short | normal | tripped | openLoop | unscanned | undetermined
deriving DecidableEq, Repr

/-- The wall-side inputs as last reported. A switch is `true` while closed, the tray sensor while
OCCUPIED, the throat sensor while PRESENT, `stackerEmpty` while the stacker reads empty, `warning`
while the power-warning input is active. -/
structure Pins where
  home : PerLane Bool
  out : PerLane Bool
  tray : PerLane Bool
  throat : PerThroat Bool
  presence : PerPos Bool
  stackerEmpty : Bool
  warning : Bool
deriving DecidableEq, Repr

/-- What the GMU measured of an item (R33, R35, R36, R34): length `ls` in samples, thickness `t` in
micrometres, skew in samples, and whether either track has a short body. -/
structure Measure where
  ls : Nat
  t : Nat
  skew : Nat
  short : Bool
deriving DecidableEq, Repr

/-- The commands, one for each row of the table of operations and events. -/
inductive Instr where
  | powerOn (supplyHeld checkAgrees : Bool) (inputs : Pins)
  | powerWarning
  | powerWarningEnd
  | noteRestartLeaderStart
  | envelopeRestartLeaderStart
  | lineBreak
  | frameGapTimeout
  | badFrame
  | requestOverflow
  | unknownRequest (auth : Byte) (op : Half) (code : Byte)
  | identify (auth : Byte) (op : Half)
  | readEvents (auth : Byte) (op : Half)
  | readSetting (auth : Byte) (op : Half) (id index : Byte)
  | readRecord (auth : Byte) (op : Half) (h : Handle)
  | findByLocation (auth : Byte) (op : Half) (area position : Byte)
  | findEnvelope (auth : Byte) (op : Half) (number : Quad)
  | listLane (auth : Byte) (op : Half) (lane : Byte)
  | readTotals (auth : Byte) (op : Half)
  | readDrawer (auth : Byte) (op : Half) (lane : Byte)
  | readTransportNote (auth : Byte) (op : Half)
  | readTransportEnvelope (auth : Byte) (op : Half)
  | readAlarms (auth : Byte) (op : Half)
  | quote (auth : Byte) (op : Half) (lane : Byte) (amount : Quad)
  | commit (auth : Byte) (op : Half) (lane tag : Byte)
  | dispenseAmount (auth : Byte) (op : Half) (lane : Byte) (amount : Quad)
  | dispenseMix (auth : Byte) (op : Half) (lane n1 n2 n3 n4 n5 : Byte)
  | cancelBundle (auth : Byte) (op : Half) (h : Handle)
  | noteLeaderEnd (empty : Bool)
  | encoderPulse (t : Transport) (a b : Sample)
  | itemEnd (t : Transport) (m : Measure)
  | noteLengthLimit
  | notePresenceLimit
  | pickFailure
  | diverterExit
  | stackerEmpty
  | stackerDumpTimeout
  | stackerWaitExpiry
  | bundleArrival (lane : Lane)
  | chuteTimeout
  | diverterExitTimeout
  | noteEncoderStall
  | clearTransportNote (auth : Byte) (op : Half)
  | clearTransportEnvelope (auth : Byte) (op : Half)
  | presenceSwitchOpen (p : CassettePos)
  | presenceSwitchClose (p : CassettePos)
  | presentDrawer (auth : Byte) (op : Half) (lane : Byte)
  | retractDrawer (auth : Byte) (op : Half) (lane : Byte)
  | drawerArriveOut (lane : Lane)
  | drawerArriveHome (lane : Lane)
  | drawerMotionTimeout (lane : Lane)
  | takeTimerExpiry (lane : Lane)
  | traySensorChange (lane : Lane) (occupied : Bool)
  | drawerSwitchChange (lane : Lane) (switch : DrawerSwitch) (closed : Bool)
  | declareTransit (auth : Byte) (op : Half) (lane : Byte) (tag : Quad)
  | resolveRetract (auth : Byte) (op : Half) (h : Handle)
  | acceptDeposit (auth : Byte) (op : Half) (h : Handle) (tag : Quad)
  | resumeLane (auth : Byte) (op : Half) (lane : Byte)
  | laneReset (auth : Byte) (op : Half) (lane : Byte)
  | throatSensorChange (throat : Throat) (here : Bool)
  | envelopeLeaderEnd
  | intakeTimeout
  | envelopeLengthLimit (thickness skew : Nat)
  | envelopePresenceLimit
  | gatePassage
  | imprinterReport (printed : Bool)
  | binEntry (bin : BinId)
  | forwardTimeout
  | returnTimeout
  | returnWaitExpiry (throat : Throat)
  | recaptureTimeout
  | envelopeEncoderStall
  | claimEnvelope (auth : Byte) (op : Half) (h : Handle)
  | releaseClaim (auth : Byte) (op : Half) (h : Handle)
  | loadCassette (auth : Byte) (op : Half) (position : Byte) (denomination : Quad)
      (count thickness length : Half)
  | unloadCassette (auth : Byte) (op : Half) (position : Byte)
  | reconcile (auth : Byte) (op : Half) (position : Byte) (counted : Half)
  | emptyRejectVault (auth : Byte) (op : Half)
  | reconcileRv (auth : Byte) (op : Half) (counted : Half)
  | collectBin (auth : Byte) (op : Half) (bin : Byte)
  | insertBin (auth : Byte) (op : Half) (bin : Byte)
  | scanCycleStart
  | loopClassChange (channel : ZoneId) (cls : LoopClass)
  | blankingTailExpiry (zone : ZoneId)
  | restoreZone (auth : Byte) (op : Half) (zone : Byte)
  | setZoneEnable (auth : Byte) (op : Half) (mask : Half)
  | clearZoneEnable (auth : Byte) (op : Half) (mask : Half)
  | setDelegation (auth : Byte) (op : Half) (zone set : Byte)
  | setZoneModeTest (auth : Byte) (op : Half) (zone : Byte)
  | setZoneModeArmed (auth : Byte) (op : Half) (zone : Byte)
  | injectTrip (auth : Byte) (op : Half) (zone : Byte)
  | openGrant (auth : Byte) (op : Half) (area : Byte)
  | confirmGrant (auth : Byte) (op : Half) (area : Byte)
  | closeGrant (auth : Byte) (op : Half) (area : Byte)
  | proposalLapse (area : Area)
  | grantExpiry (area : Area)
  | writeSetting (auth : Byte) (op : Half) (id index : Byte) (value : Half)
  | loopConversion (code : Sample)
  | byteReceived (b : Byte) (stop : Bool)
  | responseSent
deriving DecidableEq, Repr

end Sys2Proof
end

