-- ==== Sys2Proof/Decode.lean ====
section
/-! DEFINITION. The decoder of table words. No row of the table of operations and events has bits
(every row's "fields" is empty and none has "fixed"), so no word spells a command; a request's bytes
are read from the station link by the frame receiver (Machine/Link.lean). -/

namespace Sys2Proof

/-- The command that a word spells by the table's bits: none, since the table gives no row any. -/
def decodeTableWord (_nbits _w : Nat) : Option Instr := none

end Sys2Proof
end

