-- ==== Sys2Proof/Config.lean ====
section
/-! DEFINITION. What the part fixes: the limits that the manual states as constants, and the free values
that the model keeps (the widths of the numbers and the codes of the names for which 10 gives none). -/

namespace Sys2Proof.Config

/-- Encoder pulses of a leader (R66, R109). -/
abbrev leaderPulses : Nat := 64
/-- Pick limit, ms (04, section 4.1.1). -/
abbrev pickLimit : Nat := 400
/-- Diverter-exit limit, ms (04, section 4.1.1). -/
abbrev exitLimit : Nat := 300
/-- Encoder-stall limit of either transport, ms (04, section 4.1.1; 06, section 6.1.1). -/
abbrev stallLimit : Nat := 100
/-- Stacker-dump limit, ms (04, section 4.1.1). -/
abbrev dumpLimit : Nat := 3000
/-- Chute limit, ms (04, section 4.1.1). -/
abbrev chuteLimit : Nat := 2000
/-- Motion limit of a drawer, ms (05, section 5.1.1). -/
abbrev motionLimit : Nat := 4000
/-- Intake limit, ms (06, section 6.1.1). -/
abbrev intakeLimit : Nat := 2000
/-- Forward limit, ms (06, section 6.1.1). -/
abbrev forwardLimit : Nat := 3000
/-- Return limit, ms (06, section 6.1.1). -/
abbrev returnLimit : Nat := 3000
/-- Recapture limit, ms (06, section 6.1.1). -/
abbrev recaptureLimit : Nat := 3000
/-- Return wait, ms (R115). -/
abbrev returnWait : Nat := 30000
/-- Tail of a forcing zone's blanking window, ms (R142). -/
abbrev forcingTail : Nat := 200
/-- Tail of the vibration zone's blanking window, ms (R142). -/
abbrev vibrationTail : Nat := 500
/-- Life of a grant's proposal, ms (R159). -/
abbrev proposalLife : Nat := 60000
/-- The gap timer runs out at the first millisecond beyond 20 (R163: more than 20 ms). -/
abbrev gapLimit : Nat := 21
/-- Codes in a full baseline window (R29). -/
abbrev windowSize : Nat := 16
/-- Consecutive below-threshold samples that confirm a trailing edge (R31). -/
abbrev confirmSamples : Nat := 4
/-- Samples left out of the body at each end of an item (R34). -/
abbrev bodyMargin : Nat := 8
/-- The shortest body count that is not a short body (R34). -/
abbrev shortBody : Nat := 16
/-- Claims the part allows at once (R20). -/
abbrev claimLimit : Nat := 32
/-- Handles that FIND_BY_LOCATION returns at most (R23). -/
abbrev findLimit : Nat := 100
/-- Requests that may wait behind the one being answered (R165). -/
abbrev waitingLimit : Nat := 2

/-- FREE VALUE (log entry 9). The width of a number for which 10 gives none, as one less than its bytes: a
function of the request's CODE and of the figure's place among those of the answer. Nothing in the model
reads it back. -/
opaque figureWidth : (code place : Nat) → Fin 4

/-- FREE VALUE (log entry 9). The code of a state or condition for which 10 gives none: a function of the
request's CODE, of the figure's place among those of the answer and of the name, numbered as its table
lists it. Nothing in the model reads it back. -/
opaque nameCode : (code place name : Nat) → Byte

end Sys2Proof.Config
end

