-- ==== Sys2Proof/WellFormed.lean ====
section
/-! DEFINITION. Which commands name an event or request that the part can meet. Operands whose type
already holds their range need no check. -/

namespace Sys2Proof

/-- Channels 4 to 7 are not wired to loops (08, section 8.1). -/
def isLoopChannel (z : ZoneId) : Bool := z.val < 4 || 8 ≤ z.val

/-- A class that conversions can settle: a band of R137. -/
def isBandClass (c : LoopClass) : Bool :=
  c = .short || c = .normal || c = .tripped || c = .openLoop

/-- Zones whose blanking window has a tail: Z4 to Z7 and Z12 (R142). -/
def hasTail (z : ZoneId) : Bool := (4 ≤ z.val && z.val < 8) || z.val = 12

/-- The request codes of 10, section 10.4. -/
def requestCodes : List Nat :=
  [0x01, 0x02, 0x03, 0x04, 0x05, 0x06, 0x07, 0x08, 0x09, 0x0A, 0x0B,
   0x20, 0x21, 0x22, 0x23, 0x30, 0x31, 0x32, 0x33, 0x34, 0x35, 0x36, 0x40, 0x41,
   0x50, 0x51, 0x52, 0x53, 0x54, 0x55, 0x56, 0x57,
   0x60, 0x61, 0x62, 0x63, 0x64, 0x65, 0x68, 0x69, 0x6A, 0x70]

/-- The largest thickness a pair of tracks can measure (R35). -/
def maxThickness : Nat := 16316

/-- The length limit of a transport in samples (R32). -/
def lengthLimit : Transport → Nat
  | .note => 700
  | .envelope => 640

/-- A measurement an item of the transport can have at its end: R33 to R35 bound the length and the
thickness, and R34 reports a short body's thickness as 0. -/
def Measure.wf (t : Transport) (m : Measure) : Bool :=
  decide (m.ls ≤ lengthLimit t) && decide (m.t ≤ maxThickness) && (!m.short || m.t = 0)

/-- The commands that name an event or request of the part. -/
def Instr.wf : Instr → Bool
  | .unknownRequest _ _ code => !requestCodes.contains code.toNat
  | .itemEnd t m => m.wf t
  | .envelopeLengthLimit thickness _ => decide (thickness ≤ maxThickness)
  | .loopClassChange channel cls => isLoopChannel channel && isBandClass cls
  | .blankingTailExpiry zone => hasTail zone
  | _ => true

end Sys2Proof
end

