-- ==== Sys2Proof/Machine/State.lean ====
section
/-! DEFINITION. Every piece of state the manual gives the part, as plain data, block by block; the
reasons a step can stop; and the part right after reset. -/

namespace Sys2Proof.Machine

/-! ## Timers -/

/-- A timer of the Timebase: stopped, running with its time left in milliseconds, or stopped with its
time left kept (a pause, a lock or a power warning; R82, R100, R104). -/
inductive Timer where
  | stopped
  | running (left : Nat)
  | frozen (left : Nat)
deriving DecidableEq, Repr

/-! ## Custody Table -/

/-- The doubt causes (01, section 1.4), in the order of 10, section 10.6. -/
inductive DoubtCause where
  | jam | door | pickFail | power | missing | overdrawn | overflow
deriving DecidableEq, Repr

/-- A count quality; the doubt cause is present exactly while it is DOUBTFUL (01, section 1.2.1). -/
inductive Quality where
  | exact
  | estimated
  | doubtful (cause : DoubtCause)
deriving DecidableEq, Repr

/-- Balance state of a stock (R17). -/
inductive Balance where | initial | clean | dirty
deriving DecidableEq, Repr

/-- A STOCK record (01, section 1.3.1); `remaining` and `available` are computed. Thickness bounds are
in micrometres, length bounds and `lRef` in half-millimetres (R40, R41). -/
structure Stock where
  pos : CassettePos
  denom : Nat
  loaded : Nat
  pickedOut : Nat
  paidOut : Nat
  handed : Nat
  rejected : Nat
  inBundles : Nat
  reserved : Nat
  declThickness : Nat
  declLength : Nat
  tRef : Nat
  lRef : Nat
  tLow : Nat
  tHigh : Nat
  lLow : Nat
  lHigh : Nat
  balance : Balance
  lowMark : Bool
  quality : Quality
deriving DecidableEq, Repr

/-- The reject vault's CONTAINER record (01, section 1.3.2). -/
structure Vault where
  count : Nat
  capacity : Nat
  quality : Quality
deriving DecidableEq, Repr

/-- Bin roles (R114). -/
inductive BinRole where | active | standby | full
deriving DecidableEq, Repr

/-- A bin's CONTAINER record (01, section 1.3.2); heights in micrometres. -/
structure Bin where
  bin : BinId
  count : Nat
  height : Nat
  capacity : Nat
  heightLimit : Nat
  role : BinRole
  quality : Quality
deriving DecidableEq, Repr

/-- States of a BUNDLE record (01, section 1.3.3). -/
inductive BundleState where
  | queued | picking | stacked | routing | delivered | presented | retracted
deriving DecidableEq, Repr

/-- One part of a bundle's plan (01, section 1.3.3). -/
structure Part where
  stock : Handle
  target : Nat
  stacked : Nat
deriving DecidableEq, Repr

/-- A BUNDLE record (01, section 1.3.3); its location and quality are computed (R11, R16). -/
structure Bundle where
  lane : Lane
  amount : Nat
  sequence : Nat
  parts : List Part
  rejects : Nat
  state : BundleState
deriving DecidableEq, Repr

/-- The direction and state of a TRANSIT record (01, section 1.3.4): LOADED, PRESENTED and RETURNED
are OUT only, AT_TELLER is IN only. -/
inductive TransitState where
  | loaded | presented | returned | atTeller
deriving DecidableEq, Repr

/-- Directions of a transit. -/
inductive Direction where | out | inward
deriving DecidableEq, Repr

/-- A TRANSIT record (01, section 1.3.4). -/
structure Transit where
  lane : Lane
  direction : Direction
  tag : Nat
  state : TransitState
  quality : Quality
deriving DecidableEq, Repr

/-- Where an ENVELOPE record stands (R13): in a bin, naming its record, or COLLECTED. -/
inductive EnvelopePlace where
  | inBin (container : Handle) (bin : BinId)
  | collected
deriving DecidableEq, Repr

/-- An ENVELOPE record (01, section 1.3.5). -/
structure Envelope where
  number : Nat
  throat : Throat
  place : EnvelopePlace
  length : Nat
  thickness : Nat
  imprinted : Bool
  irregular : Bool
  claimed : Bool
  quality : Quality
deriving DecidableEq, Repr

/-- A live record (01, section 1.2.1). -/
inductive Record where
  | stock (r : Stock)
  | vault (r : Vault)
  | bin (r : Bin)
  | bundle (r : Bundle)
  | transit (r : Transit)
  | envelope (r : Envelope)
deriving DecidableEq, Repr

/-- A slot: its generation and, while it is live, its record (R1). -/
structure Slot where
  gen : Byte
  record : Option Record
deriving DecidableEq, Repr

/-- Why a bundle failed (01, section 1.7.1), in the order of 10, section 10.6. -/
inductive FailReason where
  | empty | rejectLimit | jam | door | stackerTimeout | power
deriving DecidableEq, Repr

/-- How a bundle ended; the reason is present exactly for FAILED (01, section 1.7.1). -/
inductive Ending where
  | taken | handed | cancelled
  | failed (reason : FailReason)
deriving DecidableEq, Repr

/-- A lane's last-outcome record (R25). -/
structure LastOutcome where
  handle : Handle
  ending : Ending
  amount : Nat
  notes : Nat
  quality : Quality
deriving DecidableEq, Repr

/-- The Custody Table: slots, hold sets (R18), last-outcome records (R25). -/
structure Ct where
  slots : Vector Slot 256
  holdDispenser : ZoneSet
  holdReject : ZoneSet
  holdCapture : ZoneSet
  holdLane : PerLane ZoneSet
  last : PerLane (Option LastOutcome)
deriving DecidableEq, Repr

/-! ## Dispense Planner -/

/-- One part of a quote: a stock and a count above 0 (03, section 3.5.1). -/
structure QuotePart where
  stock : Handle
  count : Nat
deriving DecidableEq, Repr

/-- An entry of the quote table (03, section 3.5.1). -/
structure Quote where
  tag : Nat
  lane : Lane
  amount : Nat
  parts : List QuotePart
  valid : Bool
  newer : Bool
deriving DecidableEq, Repr

/-- The Dispense Planner (03, section 3.1.1). -/
structure Dpl where
  quotes : Vector (Option Quote) 8
  nextTag : Nat
  queue : List Handle
  sequence : Nat
  rvBlocked : Bool
deriving DecidableEq, Repr

/-! ## Note Transport Controller -/

/-- Transport states of the NTC (04, section 4.1.1). -/
inductive NoteState where
  | idle | leader | picking | stackedWait | routing | diverting | jammed | paused
deriving DecidableEq, Repr

/-- Branches of the diverter (04, section 4.1). -/
inductive Branch where | stack | reject
deriving DecidableEq, Repr

/-- An item between its start at the gauges and its diverter exit: the stock of its pick, when it has
one, whether its counts have been made, and whether its end has been signalled (R67). -/
structure PathItem where
  stock : Option Handle
  counted : Bool
  ended : Bool
deriving DecidableEq, Repr

/-- A leader (R66, R81, R109, R118): whether it has started, the pulses passed with no item present,
whether an item was seen, and whether the stacker dump at its end is running. `started` is false of a
restart leader alone, and only until it first runs (R65, R105, R175); the leader of a bundle, of a throat
or of a clear that a pause or a power warning holds up has it set, and no run of the GMU in progress. -/
structure Leader where
  started : Bool
  pulses : Nat
  itemSeen : Bool
  dumping : Bool
deriving DecidableEq, Repr

/-- The Note Transport Controller (04, section 4.1.1). `lastPick` is the stock of the bundle's last
pick command (R67). `waitPast` is how far a STACKER_WAIT written anew lies below the time that the wait had
taken, in milliseconds (10, section 10.9; log entry 31). -/
structure Ntc where
  state : NoteState
  saved : Option NoteState
  current : Option Handle
  pendingEnd : Option Ending
  pick : Option Handle
  lastPick : Option Handle
  path : List PathItem
  leader : Leader
  stackerCount : Nat
  pickFails : PerPos Nat
  diverter : Branch
  motor : Bool
  dump : Bool
  gate : Option Lane
  pickTimer : Timer
  exitTimer : Timer
  stallTimer : Timer
  waitTimer : Timer
  waitPast : Nat
  dumpTimer : Timer
  chuteTimer : Timer
deriving DecidableEq, Repr

/-! ## Gauge Measurement Unit -/

/-- One track of an item: its leading edge, the below-threshold samples in a row since, its trailing
edge once confirmed, and its differences since the leading edge, newest first (R30, R31). -/
structure TrackItem where
  lead : Option Nat
  below : Nat
  trail : Option Nat
  diffs : List Nat
deriving DecidableEq, Repr

/-- The stock an item was started on, with the references as they stood then (R30). -/
structure ItemStock where
  stock : Handle
  tRef : Nat
  lRef : Nat
deriving DecidableEq, Repr

/-- An item under the gauges (R30 to R32). -/
structure GaugeItem where
  start : Nat
  a : TrackItem
  b : TrackItem
  stock : Option ItemStock
  classified : Bool
deriving DecidableEq, Repr

/-- The GMU's state for one transport: the run, the sample index, the two baseline windows (oldest
first) and the item (R27 to R32). -/
structure Gauge where
  run : Bool
  measuring : Bool
  index : Nat
  winA : List Nat
  winB : List Nat
  item : Option GaugeItem
deriving DecidableEq, Repr

/-- The Gauge Measurement Unit. -/
structure Gmu where
  note : Gauge
  envelope : Gauge
deriving DecidableEq, Repr

/-! ## Lane Drawer Controllers -/

/-- Drawer states (05, section 5.1.1). -/
inductive DrawerState where
  | home | extending | out | retracting | stopped | jammed
deriving DecidableEq, Repr

/-- The two motions of a drawer. -/
inductive Motion where | extending | retracting
deriving DecidableEq, Repr

/-- The context saved at the beginning of a lock (R100). -/
structure SavedContext where
  state : DrawerState
  direction : Option Motion
  consignment : Option Handle
  takeRunning : Bool
deriving DecidableEq, Repr

/-- A Lane Drawer Controller (05, section 5.1.1), with its two outputs: `motor` tells whether the drawer motor is
driven (R86), in the direction of the drawer state, and `solenoid` whether the lock solenoid is engaged (05,
section 5.1; R85, R100, R102). `restartHoming` marks that the next arrival HOME ends a restart homing (R177). -/
structure Ldc where
  state : DrawerState
  halted : Option Motion
  motor : Bool
  solenoid : Bool
  motion : Timer
  take : Timer
  locks : ZoneSet
  saved : Option SavedContext
  restartHoming : Bool
deriving DecidableEq, Repr

/-! ## Envelope Capture Controller -/

/-- Throat states (06, section 6.1.1). -/
inductive ThroatState where
  | closed | opened | waiting | intake | returning | returnWait
deriving DecidableEq, Repr

/-- A throat (06, section 6.1.1). -/
structure ThroatUnit where
  state : ThroatState
  shutterOpen : Bool
  wait : Timer
  overdue : Bool
  kept : Option Measure
deriving DecidableEq, Repr

/-- Envelope transport states (06, section 6.1.1). -/
inductive EnvState where
  | idle | leader | measuring | forward | reversing | recapture | jammed | paused
deriving DecidableEq, Repr

/-- Why an envelope is returned (R42). -/
inductive ReturnReason where | length | thick | skew
deriving DecidableEq, Repr

/-- An envelope's class (R42). -/
inductive EnvClass where
  | accept
  | handBack (reason : ReturnReason)
deriving DecidableEq, Repr

/-- The current envelope (06, section 6.1.1). `recapture` tells an overdue throat's service from an
intake, `printing` that the imprinter was commanded, `sensorAtFeed` the throat sensor at the start of
the feed (R116). The gate has been passed exactly when the capture number is present (R112). -/
structure CurrentEnv where
  throat : Throat
  recapture : Bool
  cls : Option EnvClass
  meas : Option Measure
  dest : Option BinId
  number : Option Nat
  printing : Bool
  imprinted : Bool
  sensorAtFeed : Bool
  itemStarted : Bool
  itemEnded : Bool
deriving DecidableEq, Repr

/-- What the throat feeds are doing (06, section 6.1). -/
inductive Feed where | stopped | inward | reverse
deriving DecidableEq, Repr

/-- The Envelope Capture Controller (06, section 6.1.1). -/
structure Ecc where
  throats : PerThroat ThroatUnit
  state : EnvState
  saved : Option EnvState
  leader : Leader
  current : Option CurrentEnv
  lastServed : Throat
  nextNumber : Nat
  inFlight : Bool
  selector : BinId
  motor : Bool
  feed : Feed
  intakeTimer : Timer
  forwardTimer : Timer
  returnTimer : Timer
  recaptureTimer : Timer
  stallTimer : Timer
deriving DecidableEq, Repr

/-! ## Alarm Zone Unit -/

/-- A deferred trip; a forcing zone's keeps the switch and the position of the latest event (R143). -/
inductive Deferred where
  | clear
  | loop
  | forcing (switch : DrawerSwitch) (closed : Bool)
deriving DecidableEq, Repr

/-- Zone modes (08, section 8.1.1). -/
inductive ZoneMode where | armed | test
deriving DecidableEq, Repr

/-- A delegation: the set of destinations (R150). -/
structure Delegation where
  console : Bool
  panel : Bool
  central : Bool
deriving DecidableEq, Repr

/-- A zone (08, section 8.1.1); `candidate` and `count` are its loop's debounce (R137). -/
structure Zone where
  cls : LoopClass
  candidate : LoopClass
  count : Nat
  deferred : Deferred
  pending : Bool
  repeated : Bool
  trouble : Bool
  injected : Bool
  restoreNeeded : Bool
  mode : ZoneMode
  enable : Bool
  delegation : Delegation
deriving DecidableEq, Repr

/-- A blanking window with a tail (R142). -/
structure Window where
  opened : Bool
  tail : Timer
deriving DecidableEq, Repr

/-- States of a service grant (09, section 9.5). -/
inductive GrantState where | closed | proposed | opened
deriving DecidableEq, Repr

/-- A service grant (09, section 9.5). -/
structure Grant where
  state : GrantState
  proposer : Option Nat
  confirmer : Option Nat
  timer : Timer
deriving DecidableEq, Repr

/-- The Alarm Zone Unit: zones, scan cycle with the number of its conversions made (R136), the windows
of the forcing zones and of the vibration zone (R142), and the grants (R158). -/
structure Azu where
  zones : Vector Zone 16
  cycle : List ZoneId
  converted : Nat
  forcing : PerLane Window
  vibration : Window
  grants : PerArea Grant
deriving DecidableEq, Repr

/-! ## Settings -/

/-- A setting that may hold a pending value (R44, R172). -/
structure Held where
  value : Nat
  pending : Option Nat
deriving DecidableEq, Repr

/-- The settings of 10, section 10.9. -/
structure Settings where
  fittedLanes : Held
  bundleLimit : Nat
  pickRetry : Nat
  rejectLimit : Nat
  stackerWait : Nat
  takeTimeout : Nat
  autoPresent : PerLane Nat
  countView : PerLane Nat
  lowMark : Nat
  rvCapacity : Nat
  captureEnable : Nat
  imprint : Nat
  binCapacity : Nat
  binHeightLimit : Nat
  grantDuration : Nat
  scanStart : Nat
  scanEnd : Nat
  thresholdNote : Held
  thresholdEnv : Held
  gainNoteA : Held
  gainNoteB : Held
  gainEnvA : Held
  gainEnvB : Held
  skewNote : Held
  skewEnv : Held
  lengthTolerance : Held
  envLengthMin : Nat
  envLengthMax : Nat
  envThicknessMax : Nat
deriving DecidableEq, Repr

/-! ## Answers -/

/-- The STATUS of a response (10, section 10.5). -/
inductive Status where
  | ok | accepted | badRequest | authority | noLane | noRecord | busy | state | held | doubt
  | staleQuote | noPlan | grantRequired | doorOpen | full
deriving DecidableEq, Repr

/-- Reasons of NO_PLAN (10, section 10.5). -/
inductive NoPlanReason where | overLimit | noCombination | shortStock
deriving DecidableEq, Repr

/-- A record image as the SLP builds it (R168): the record with the quality of R16, the hold causes of
R18, the presence mark (R126), the available count shown, and whether it is the reduced image (R134). -/
structure Image where
  handle : Handle
  record : Record
  quality : Quality
  holds : ZoneSet
  presence : Bool
  available : Nat
  reduced : Bool
deriving DecidableEq, Repr

/-- What READ_TOTALS shows of one stock (R26), its low-mark flag among it (R132; log entry 40). -/
structure StockTotal where
  denom : Nat
  remaining : Nat
  value : Nat
  quality : Quality
  balance : Balance
  lowMark : Bool
deriving DecidableEq, Repr

/-- What READ_TOTALS shows (R26). -/
structure Totals where
  reduced : Bool
  balanceOpen : Bool
  stocks : PerPos (Option StockTotal)
  total : Nat
  quality : Quality
  vault : Option Vault
  bin1 : Option Bin
  bin2 : Option Bin
  claimed : Nat
deriving DecidableEq, Repr

/-- What READ_DRAWER shows (R87). -/
structure DrawerView where
  state : DrawerState
  halted : Option Motion
  home : Bool
  out : Bool
  tray : Bool
  take : Timer
  locks : ZoneSet
  saved : Option SavedContext
  consignment : Option Handle
deriving DecidableEq, Repr

/-- What READ_TRANSPORT (note) shows (R65). -/
structure NoteView where
  state : NoteState
  saved : Option NoteState
  current : Option Handle
  pendingEnd : Option Ending
  part : Option Nat
  stackerCount : Nat
  pickFails : PerPos Nat
deriving DecidableEq, Repr

/-- What READ_TRANSPORT (envelope) shows (R105). -/
structure EnvView where
  state : EnvState
  saved : Option EnvState
  throats : PerThroat ThroatUnit
  lastServed : Throat
  current : Option CurrentEnv
  nextNumber : Nat
  bin1 : Option (Handle × BinRole)
  bin2 : Option (Handle × BinRole)
deriving DecidableEq, Repr

/-- The outputs of the AZU (R151, R152). -/
structure Outputs where
  holdup : Bool
  intrusion : Bool
  trouble : Bool
  test : Bool
  panel : Bool
deriving DecidableEq, Repr

/-- The top zone with the basis it was chosen on: `true` for pending, `false` for trouble (R154). -/
structure TopZone where
  zone : ZoneId
  forPending : Bool
deriving DecidableEq, Repr

/-- What READ_ALARMS shows (R154); a zone the reader may not see is absent. -/
structure AlarmView where
  zones : List (Option Zone)
  outputs : Outputs
  holdDispenser : ZoneSet
  holdReject : ZoneSet
  holdCapture : ZoneSet
  holdLane : PerLane ZoneSet
  grants : PerArea Grant
  top : Option TopZone
deriving DecidableEq, Repr

/-- What the BODY of a response says: the answer of a request taken or the detail of a refusal. -/
inductive Answer where
  | empty
  | identify (fittedLanes : Nat)
  | events (l1 l2 l3 l4 : Byte) (wall : Half)
  | setting (value : Nat) (pending : Option Nat)
  | image (img : Image)
  | handles (first : List Handle) (total : Nat) (more : Bool)
  | found (h : Handle) (count : Nat)
  | lane (bundle transit : Option Image) (last : Option LastOutcome)
  | totals (t : Totals)
  | drawer (v : DrawerView)
  | noteTransport (v : NoteView)
  | envTransport (v : EnvView)
  | alarms (v : AlarmView)
  | quote (tag : Nat) (lane : Lane) (amount : Nat) (parts : List (CassettePos × Nat × Nat))
      (total : Nat) (quality : Quality)
  | handle (h : Handle)
  | dispensed (h : Handle) (parts : List (CassettePos × Nat × Nat))
  | released (notes : List (Handle × Nat))
  | claims (count : Nat)
  | loaded (h : Handle) (count thickness length tLow tHigh lLow lHigh : Nat)
  | closing (h : Handle) (final : Stock)
  | reconciled (before after : Stock)
  | vaultCount (before after : Vault)
  | vaultEmptied (old : Option Vault) (h : Handle) (capacity : Nat)
  | collected (bin : Bin) (lowest highest : Option Nat) (retired moved : Nat)
  | inserted (h : Handle) (role : BinRole) (capacity heightLimit : Nat)
  | zone (z : Zone)
  | enables (mask : ZoneSet)
  | delegation (d : Delegation)
  | grant (area : Area) (timer : Timer)
  | stored (id index : Byte) (value : Nat) (held : Bool)
  | zonesPending (mask : ZoneSet)
  | loopClass (c : LoopClass)
  | position (p : CassettePos)
  | noPlan (reason : NoPlanReason) (pos : Option CassettePos) (greedy : Nat)
  | doorOpen (zone : ZoneId) (c : LoopClass)
deriving DecidableEq, Repr

/-- A response (10, section 10.2): the CODE echoed, the STATUS and the answer. -/
structure Response where
  code : Nat
  status : Status
  answer : Answer
deriving DecidableEq, Repr

/-! ## Station Link Port -/

/-- The frame receiver (R163): the phase with the bytes taken so far, in the order received. -/
inductive Receiver where
  | hunt
  | count
  | collect (length : Nat) (bytes : List Byte)
  | check (length : Nat) (bytes : List Byte) (low : Option Byte)
deriving DecidableEq, Repr

/-- A request received whole: the bytes from AUTH through BODY (10, section 10.2). -/
abbrev RawRequest := List Byte

/-- The Station Link Port (10, sections 10.1 and 10.8). `response` is the response being built or
sent; `waiting` the requests received whole that wait behind it, oldest first (R165). -/
structure Slp where
  receiver : Receiver
  gap : Timer
  waiting : List RawRequest
  response : Option Response
  laneFlags : PerLane Byte
  wallFlags : Half
deriving DecidableEq, Repr

/-! ## The part -/

/-- The part: its blocks, its settings, the backup-valid state (R174), the millisecond count, the
wall-side inputs as last reported, and the model's queue of commands. -/
structure State where
  ct : Ct
  dpl : Dpl
  ntc : Ntc
  gmu : Gmu
  ldc : PerLane Ldc
  ecc : Ecc
  azu : Azu
  slp : Slp
  set : Settings
  retained : Bool
  ms : Nat
  pins : Pins
  pending : List Instr
deriving DecidableEq, Repr

/-- Why a step stops the model: only a command that names no event or request of the part. -/
inductive Fault where
  /-- Raised by `exec` for a command outside `Instr.wf`, which the part cannot meet (log entry 8).
  Safe: nothing is claimed of such a command. -/
  | illFormed (mnemonic : String)
deriving DecidableEq, Repr

/-- Why the model answers nothing for a command. -/
inductive Refusal where
  /-- Raised by an arm of `exec` that has no meaning yet; no arm of this model answers it. Safe. -/
  | notModelled (mnemonic : String)
deriving DecidableEq, Repr

/-! ## Reset -/

/-- The defaults of the settings (10, section 10.9; R178). -/
def Settings.default : Settings where
  fittedLanes := ⟨4, none⟩
  bundleLimit := 40
  pickRetry := 3
  rejectLimit := 10
  stackerWait := 60
  takeTimeout := 40
  autoPresent := ⟨0, 0, 0, 0⟩
  countView := ⟨0, 0, 0, 0⟩
  lowMark := 50
  rvCapacity := 1000
  captureEnable := 1
  imprint := 1
  binCapacity := 80
  binHeightLimit := 350
  grantDuration := 15
  scanStart := 0
  scanEnd := 15
  thresholdNote := ⟨60, none⟩
  thresholdEnv := ⟨40, none⟩
  gainNoteA := ⟨32, none⟩
  gainNoteB := ⟨32, none⟩
  gainEnvA := ⟨255, none⟩
  gainEnvB := ⟨255, none⟩
  skewNote := ⟨6, none⟩
  skewEnv := ⟨20, none⟩
  lengthTolerance := ⟨10, none⟩
  envLengthMin := 120
  envLengthMax := 250
  envThicknessMax := 10000

/-- The Custody Table with the backup lost (R1, R18, R25). -/
def Ct.lost : Ct where
  slots := Vector.replicate 256 ⟨1, none⟩
  holdDispenser := 0
  holdReject := 0
  holdCapture := 0
  holdLane := ⟨0, 0, 0, 0⟩
  last := ⟨none, none, none, none⟩

/-- The Dispense Planner with the backup lost (R46). -/
def Dpl.lost : Dpl where
  quotes := Vector.replicate 8 none
  nextTag := 1
  queue := []
  sequence := 0
  rvBlocked := false

/-- A leader that has just started. -/
def Leader.fresh : Leader := ⟨true, 0, false, false⟩

/-- The NTC with its restart leader running (R65). -/
def Ntc.atReset : Ntc where
  state := .leader
  saved := none
  current := none
  pendingEnd := none
  pick := none
  lastPick := none
  path := []
  leader := Leader.fresh
  stackerCount := 0
  pickFails := ⟨0, 0, 0, 0, 0⟩
  diverter := .reject
  motor := true
  dump := false
  gate := none
  pickTimer := .stopped
  exitTimer := .stopped
  stallTimer := .running Config.stallLimit
  waitTimer := .stopped
  waitPast := 0
  dumpTimer := .stopped
  chuteTimer := .stopped

/-- A gauge at the start of a run (R28). -/
def Gauge.runStart : Gauge := ⟨true, true, 0, [], [], none⟩

/-- A drawer at home and unlocked, its motor at rest and its lock solenoid released (R85, R178). -/
def Ldc.atReset : Ldc := ⟨.home, none, false, false, .stopped, .stopped, 0, none, false⟩

/-- A closed throat (R105). -/
def ThroatUnit.shut : ThroatUnit := ⟨.closed, false, .stopped, false, none⟩

/-- The ECC with its restart leader running and the backup lost (R105, R178). -/
def Ecc.atReset : Ecc where
  throats := ⟨ThroatUnit.shut, ThroatUnit.shut⟩
  state := .leader
  saved := none
  leader := Leader.fresh
  current := none
  lastServed := .t2
  nextNumber := 1
  inFlight := false
  selector := .b1
  motor := true
  feed := .stopped
  intakeTimer := .stopped
  forwardTimer := .stopped
  returnTimer := .stopped
  recaptureTimer := .stopped
  stallTimer := .running Config.stallLimit

/-- The default delegation of a zone (R150). -/
def Delegation.default (holdup : Bool) : Delegation := ⟨!holdup, true, true⟩

/-- A zone with the backup lost (R135); `cls` is its loop class and, with the debounce count 0, the candidate
too (log entry 51), `holdup` whether it is a hold-up zone. -/
def Zone.lost (cls : LoopClass) (holdup : Bool) : Zone :=
  ⟨cls, cls, 0, .clear, false, false, false, false, false, .armed, true, Delegation.default holdup⟩

/-- The zone table with the backup lost (R135, R150). -/
def Azu.lostZones : Vector Zone 16 :=
  #v[Zone.lost .undetermined true, Zone.lost .undetermined true, Zone.lost .undetermined true,
     Zone.lost .undetermined true, Zone.lost .none false, Zone.lost .none false,
     Zone.lost .none false, Zone.lost .none false, Zone.lost .undetermined false,
     Zone.lost .undetermined false, Zone.lost .undetermined false, Zone.lost .undetermined false,
     Zone.lost .undetermined false, Zone.lost .undetermined false, Zone.lost .undetermined true,
     Zone.lost .undetermined false]

/-- A grant at power-on (R158). -/
def Grant.shut : Grant := ⟨.closed, none, none, .stopped⟩

/-- The AZU with the backup lost; the vibration window is open, both restart leaders running. -/
def Azu.atReset : Azu where
  zones := Azu.lostZones
  cycle := [0, 1, 2, 3, 8, 9, 10, 11, 12, 13, 14, 15]
  converted := 0
  forcing := ⟨⟨false, .stopped⟩, ⟨false, .stopped⟩, ⟨false, .stopped⟩, ⟨false, .stopped⟩⟩
  vibration := ⟨true, .stopped⟩
  grants := ⟨Grant.shut, Grant.shut, Grant.shut, Grant.shut⟩

/-- The SLP at power-on, before any flag is set (R163, R171). -/
def Slp.atPowerOn : Slp where
  receiver := .hunt
  gap := .stopped
  waiting := []
  response := none
  laneFlags := ⟨0, 0, 0, 0⟩
  wallFlags := 0

/-- The inputs at reset (log entry 3): drawers home, trays and throats EMPTY, cassettes seated, stacker
empty, no power warning. -/
def Pins.atReset : Pins where
  home := ⟨true, true, true, true⟩
  out := ⟨false, false, false, false⟩
  tray := ⟨false, false, false, false⟩
  throat := ⟨false, false⟩
  presence := ⟨true, true, true, true, true⟩
  stackerEmpty := true
  warning := false

/-- The part right after reset: a power-on with the backup lost (R178) and the inputs of log entry 3;
BACKUP_LOST, wall flag bit 9, is the one flag set (R171, R178). -/
def State.reset : State where
  ct := Ct.lost
  dpl := Dpl.lost
  ntc := Ntc.atReset
  gmu := ⟨Gauge.runStart, Gauge.runStart⟩
  ldc := ⟨Ldc.atReset, Ldc.atReset, Ldc.atReset, Ldc.atReset⟩
  ecc := Ecc.atReset
  azu := Azu.atReset
  slp := { Slp.atPowerOn with wallFlags := 0x200 }
  set := Settings.default
  retained := false
  ms := 0
  pins := Pins.atReset
  pending := []

end Sys2Proof.Machine
end

