-- ==== Sys2Proof/Machine/Ops.lean ====
section
/-! DEFINITION. The named operations that every block uses: reading and writing one of a family,
timers, handles, the computed figures of records, and the primitive changes of the custody table. -/

namespace Sys2Proof

/-- The value of one lane. -/
def PerLane.get {α : Type} (p : PerLane α) : Lane → α
  | .l1 => p.l1
  | .l2 => p.l2
  | .l3 => p.l3
  | .l4 => p.l4

/-- Replace the value of one lane. -/
def PerLane.put {α : Type} (p : PerLane α) (l : Lane) (v : α) : PerLane α :=
  match l with
  | .l1 => { p with l1 := v }
  | .l2 => { p with l2 := v }
  | .l3 => { p with l3 := v }
  | .l4 => { p with l4 := v }

/-- The value of one cassette position. -/
def PerPos.get {α : Type} (p : PerPos α) : CassettePos → α
  | .c1 => p.c1
  | .c2 => p.c2
  | .c3 => p.c3
  | .c4 => p.c4
  | .c5 => p.c5

/-- Replace the value of one cassette position. -/
def PerPos.put {α : Type} (p : PerPos α) (c : CassettePos) (v : α) : PerPos α :=
  match c with
  | .c1 => { p with c1 := v }
  | .c2 => { p with c2 := v }
  | .c3 => { p with c3 := v }
  | .c4 => { p with c4 := v }
  | .c5 => { p with c5 := v }

/-- The value of one throat. -/
def PerThroat.get {α : Type} (p : PerThroat α) : Throat → α
  | .t1 => p.t1
  | .t2 => p.t2

/-- Replace the value of one throat. -/
def PerThroat.put {α : Type} (p : PerThroat α) (t : Throat) (v : α) : PerThroat α :=
  match t with
  | .t1 => { p with t1 := v }
  | .t2 => { p with t2 := v }

/-- The value of one service area. -/
def PerArea.get {α : Type} (p : PerArea α) : Area → α
  | .dispenser => p.dispenser
  | .reject => p.reject
  | .capture => p.capture
  | .wall => p.wall

/-- Replace the value of one service area. -/
def PerArea.put {α : Type} (p : PerArea α) (a : Area) (v : α) : PerArea α :=
  match a with
  | .dispenser => { p with dispenser := v }
  | .reject => { p with reject := v }
  | .capture => { p with capture := v }
  | .wall => { p with wall := v }

/-- The lanes in order. -/
def Lane.all : List Lane := [.l1, .l2, .l3, .l4]

/-- The lane's number on the link, 1 to 4 (10, section 10.4). -/
def Lane.num : Lane → Nat
  | .l1 => 1
  | .l2 => 2
  | .l3 => 3
  | .l4 => 4

/-- The lane's forcing zone: Z4 for L1 to Z7 for L4 (R141). -/
def Lane.forcingZone : Lane → ZoneId
  | .l1 => 4
  | .l2 => 5
  | .l3 => 6
  | .l4 => 7

/-- The cassette positions in order. -/
def CassettePos.all : List CassettePos := [.c1, .c2, .c3, .c4, .c5]

/-- The position's number on the link, 1 to 5 (10, section 10.4). -/
def CassettePos.num : CassettePos → Nat
  | .c1 => 1
  | .c2 => 2
  | .c3 => 3
  | .c4 => 4
  | .c5 => 5

/-- The other throat. -/
def Throat.other : Throat → Throat
  | .t1 => .t2
  | .t2 => .t1

/-- The other bin. -/
def BinId.other : BinId → BinId
  | .b1 => .b2
  | .b2 => .b1

/-- The zones in order. -/
def allZones : List ZoneId := [0, 1, 2, 3, 4, 5, 6, 7, 8, 9, 10, 11, 12, 13, 14, 15]

/-- The zones of a mask in ascending order. -/
def zonesOf (m : ZoneSet) : List ZoneId := allZones.filter fun z => m.getLsbD z.val

/-- The mask of one zone. -/
def zoneBit (z : ZoneId) : ZoneSet := BitVec.ofNat 16 (2 ^ z.val)

namespace Machine

/-! ## Timers -/

/-- Whether a timer is running. -/
def Timer.isRunning : Timer → Bool
  | .running _ => true
  | _ => false

/-- Stop a running timer and keep its time left. -/
def Timer.freeze : Timer → Timer
  | .running n => .frozen n
  | t => t

/-- Go on from the time kept. -/
def Timer.thaw : Timer → Timer
  | .frozen n => .running n
  | t => t

/-- A millisecond passes. -/
def Timer.tick : Timer → Timer
  | .running n => .running (n - 1)
  | t => t

/-- A running timer with no time left has run out. -/
def Timer.isDue : Timer → Bool
  | .running 0 => true
  | _ => false

/-- The time left in milliseconds, 0 when stopped. -/
def Timer.left : Timer → Nat
  | .stopped => 0
  | .running n => n
  | .frozen n => n

/-! ## Blocks of the state -/

/-- Change the Custody Table. -/
def State.onCt (s : State) (f : Ct → Ct) : State := { s with ct := f s.ct }
/-- Change the Dispense Planner. -/
def State.onDpl (s : State) (f : Dpl → Dpl) : State := { s with dpl := f s.dpl }
/-- Change the Note Transport Controller. -/
def State.onNtc (s : State) (f : Ntc → Ntc) : State := { s with ntc := f s.ntc }
/-- Change the Gauge Measurement Unit. -/
def State.onGmu (s : State) (f : Gmu → Gmu) : State := { s with gmu := f s.gmu }
/-- Change one lane's drawer controller. -/
def State.onLdc (s : State) (l : Lane) (f : Ldc → Ldc) : State :=
  { s with ldc := s.ldc.put l (f (s.ldc.get l)) }
/-- Change the Envelope Capture Controller. -/
def State.onEcc (s : State) (f : Ecc → Ecc) : State := { s with ecc := f s.ecc }
/-- Change the Alarm Zone Unit. -/
def State.onAzu (s : State) (f : Azu → Azu) : State := { s with azu := f s.azu }
/-- Change the Station Link Port. -/
def State.onSlp (s : State) (f : Slp → Slp) : State := { s with slp := f s.slp }
/-- Change the settings. -/
def State.onSet (s : State) (f : Settings → Settings) : State := { s with set := f s.set }
/-- Change the wall-side inputs. -/
def State.onPins (s : State) (f : Pins → Pins) : State := { s with pins := f s.pins }

/-! ## Lanes and zones -/

/-- Whether a lane is fitted: at most FITTED_LANES (R85, R169). -/
def State.fitted (s : State) (l : Lane) : Bool := decide (l.num ≤ s.set.fittedLanes.value)

/-- A lane is locked while its lock causes are not empty (05, section 5.1.1). -/
def State.locked (s : State) (l : Lane) : Bool := (s.ldc.get l).locks != 0

/-- A zone is in force while pending, enabled and ARMED (R144). -/
def Zone.inForce (z : Zone) : Bool := z.pending && z.enable && z.mode = .armed

/-- Whether a zone is in force. -/
def State.zoneInForce (s : State) (z : ZoneId) : Bool := (s.azu.zones[z]).inForce

/-- A pause is in force while the vibration zone Z12 is (R144). -/
def State.pauseInForce (s : State) : Bool := s.zoneInForce 12

/-- Whether a grant is OPEN. -/
def State.grantOpen (s : State) (a : Area) : Bool := (s.azu.grants.get a).state = .opened

/-! ## Qualities -/

/-- EXACT, then ESTIMATED, then DOUBTFUL (00, Quality order). -/
def Quality.rank : Quality → Nat
  | .exact => 0
  | .estimated => 1
  | .doubtful _ => 2

/-- The worse of two grades; a record that is already DOUBTFUL keeps its first cause (R14). -/
def Quality.worse (q r : Quality) : Quality := if q.rank < r.rank then r else q

/-- Whether a quality is DOUBTFUL. -/
def Quality.isDoubtful : Quality → Bool
  | .doubtful _ => true
  | _ => false

/-! ## Stock figures -/

/-- loaded less picked_out, and not less than 0 (01, section 1.3.1). -/
def Stock.remaining (r : Stock) : Nat := r.loaded - r.pickedOut

/-- remaining less reserved, and not less than 0 (R47). -/
def Stock.available (r : Stock) : Nat := r.remaining - r.reserved

/-- Move notes from in_bundles to rejected (R8). -/
def Stock.toRejected (r : Stock) (k : Nat) : Stock :=
  { r with inBundles := r.inBundles - k, rejected := r.rejected + min k r.inBundles }

/-- Move notes from in_bundles to paid_out (R8, R93). -/
def Stock.toPaid (r : Stock) (k : Nat) : Stock :=
  { r with inBundles := r.inBundles - k, paidOut := r.paidOut + min k r.inBundles }

/-- Move notes from in_bundles to handed (R8, R97). -/
def Stock.toHanded (r : Stock) (k : Nat) : Stock :=
  { r with inBundles := r.inBundles - k, handed := r.handed + min k r.inBundles }

/-- Lower the reservation. -/
def Stock.release (r : Stock) (k : Nat) : Stock := { r with reserved := r.reserved - k }

/-- Raise the reservation. -/
def Stock.reserve (r : Stock) (k : Nat) : Stock := { r with reserved := r.reserved + k }

/-- Make the quality the worse of its present one and a grade (R14). -/
def Stock.worsen (r : Stock) (q : Quality) : Stock := { r with quality := r.quality.worse q }

/-- The tallies are in balance (R8). -/
def Stock.balanced (r : Stock) : Bool :=
  r.pickedOut = r.paidOut + r.handed + r.rejected + r.inBundles

/-- Whether a change of a stock is reported to the Dispense Planner: remaining, reserved or quality
(R9; a change of hold causes is reported with the hold sets, and a RECONCILE whatever it alters, R52). -/
def Stock.reportedChange (old new : Stock) : Bool :=
  old.remaining != new.remaining || old.reserved != new.reserved || old.quality != new.quality

/-- Evaluate the low-mark flag in a change that alters remaining (R132). -/
def Stock.evalLow (old new : Stock) (mark : Nat) : Stock :=
  if old.remaining = new.remaining then { new with lowMark := old.lowMark }
  else { new with lowMark := decide (new.remaining ≤ mark) }

/-! ## Bundles -/

/-- The notes stacked for a bundle. -/
def Bundle.stackedSum (b : Bundle) : Nat := (b.parts.map (·.stacked)).sum

/-- A bundle's total target (R57). -/
def Bundle.targetSum (b : Bundle) : Nat := (b.parts.map (·.target)).sum

/-- Whether a plan part names the stock. -/
def Bundle.names (b : Bundle) (h : Handle) : Bool := b.parts.any (·.stock = h)

/-- A bundle draws on a stock while a part naming it is not complete (R72). -/
def Bundle.drawsOn (b : Bundle) (h : Handle) : Bool :=
  b.parts.any fun p => p.stock = h && decide (p.stacked < p.target)

/-- Every part's stacked count equals its target (R69). -/
def Bundle.complete (b : Bundle) : Bool := b.parts.all fun p => p.stacked = p.target

/-- The current part: the first whose stacked count is below its target (R67). -/
def Bundle.currentPart (b : Bundle) : Option Part := b.parts.find? fun p => p.stacked < p.target

/-- The tray's outbound consignments among bundles (05, section 5.1). -/
def Bundle.outbound (b : Bundle) : Bool := b.state = .delivered || b.state = .presented

/-- The tray's consignments among bundles (R12). -/
def Bundle.inTray (b : Bundle) : Bool := b.outbound || b.state = .retracted

/-- The tray's outbound consignments among transits (05, section 5.1). -/
def Transit.outbound (t : Transit) : Bool :=
  t.direction = .out && (t.state = .loaded || t.state = .presented)

/-! ## Places -/

/-- A location: an area and a position within it (00, Custody areas). -/
inductive Location where
  | cassette (p : CassettePos)
  | transport
  | stacker
  | vault
  | bin (b : BinId)
  | chute (l : Lane)
  | tray (l : Lane)
  | teller (l : Lane)
  | collected
deriving DecidableEq, Repr

/-- A bundle's location follows its state (R11). -/
def Bundle.location (b : Bundle) : Location :=
  match b.state with
  | .queued => .transport
  | .picking | .stacked => .stacker
  | .routing => .chute b.lane
  | .delivered | .presented => .tray b.lane
  | .retracted => .teller b.lane

/-- Where a record is located (01, section 1.2.2). -/
def Record.location : Record → Location
  | .stock r => .cassette r.pos
  | .vault _ => .vault
  | .bin r => .bin r.bin
  | .bundle r => r.location
  | .transit r => if r.state = .atTeller then .teller r.lane else .tray r.lane
  | .envelope r =>
    match r.place with
    | .inBin _ b => .bin b
    | .collected => .collected

/-- The hold set of the area a record is located in, together with its owner lane's (R18). -/
def Ct.holdsOf (ct : Ct) : Record → ZoneSet
  | .stock _ => ct.holdDispenser
  | .vault _ => ct.holdReject
  | .bin _ => ct.holdCapture
  | .bundle r =>
    match r.state with
    | .queued | .picking | .stacked => ct.holdDispenser ||| ct.holdLane.get r.lane
    | _ => ct.holdLane.get r.lane
  | .transit r => ct.holdLane.get r.lane
  | .envelope r =>
    match r.place with
    | .inBin _ _ => ct.holdCapture
    | .collected => 0

/-! ## Handles and slots -/

/-- The handle of a slot's generation and number (00, Handles). -/
def handleOf (gen : Byte) (slot : Nat) : Handle := gen ++ BitVec.ofNat 8 slot

/-- The generation byte of a handle. -/
def handleGen (h : Handle) : Byte := h.extractLsb' 8 8

/-- The slot number of a handle. -/
def handleSlot (h : Handle) : Nat := (h.extractLsb' 0 8).toNat

/-- The generation after a retirement: 255 steps to 1 (R3). -/
def nextGen (g : Byte) : Byte := if g = 255 then 1 else g + 1

/-- The live record that a handle names: none when its generation byte is 0, its slot is free or the
generations differ (R4). -/
def Ct.find (ct : Ct) (h : Handle) : Option Record :=
  match ct.slots[handleSlot h]? with
  | some sl => if sl.gen = handleGen h ∧ handleGen h ≠ 0 then sl.record else none
  | none => none

/-- The live records with their handles, in ascending slot order. -/
def Ct.live (ct : Ct) : List (Handle × Record) :=
  ct.slots.toList.zipIdx.filterMap fun (sl, i) => sl.record.map fun r => (handleOf sl.gen i, r)

/-- Replace the record that a handle names. -/
def Ct.write (ct : Ct) (h : Handle) (r : Record) : Ct :=
  match ct.find h with
  | none => ct
  | some _ => { ct with slots := ct.slots.setIfInBounds (handleSlot h) ⟨handleGen h, some r⟩ }

/-- Change every live record. -/
def Ct.mapRecords (ct : Ct) (f : Record → Record) : Ct :=
  { ct with slots := ct.slots.map fun sl => { sl with record := sl.record.map f } }

/-- The free slot with the lowest number (R2). -/
def Ct.freeSlot (ct : Ct) : Option Nat := ct.slots.toList.findIdx? (·.record.isNone)

/-- Make a new record in the lowest free slot and give its handle (R2). The table cannot fill (01,
section 1.1); in a state that no run reaches, with no free slot, nothing is made and the handle is
0, which names no record (log entry 13). -/
def Ct.create (ct : Ct) (r : Record) : Ct × Handle :=
  match ct.freeSlot with
  | none => (ct, 0)
  | some i =>
    match ct.slots[i]? with
    | none => (ct, 0)
    | some sl => ({ ct with slots := ct.slots.setIfInBounds i ⟨sl.gen, some r⟩ }, handleOf sl.gen i)

/-- Retire a record: its slot becomes free and its generation steps (R3). -/
def Ct.retire (ct : Ct) (h : Handle) : Ct :=
  match ct.find h with
  | none => ct
  | some _ =>
    { ct with slots := ct.slots.setIfInBounds (handleSlot h) ⟨nextGen (handleGen h), none⟩ }

/-! ## Lookups -/

/-- The live stock a handle names. -/
def Ct.stock? (ct : Ct) (h : Handle) : Option Stock :=
  match ct.find h with
  | some (.stock r) => some r
  | _ => none

/-- The live bundle a handle names. -/
def Ct.bundle? (ct : Ct) (h : Handle) : Option Bundle :=
  match ct.find h with
  | some (.bundle r) => some r
  | _ => none

/-- The live transit a handle names. -/
def Ct.transit? (ct : Ct) (h : Handle) : Option Transit :=
  match ct.find h with
  | some (.transit r) => some r
  | _ => none

/-- The live stock at a cassette position. -/
def Ct.stockAt (ct : Ct) (p : CassettePos) : Option (Handle × Stock) :=
  ct.live.findSome? fun (h, r) =>
    match r with
    | .stock st => if st.pos = p then some (h, st) else none
    | _ => none

/-- The live reject vault record. -/
def Ct.vault? (ct : Ct) : Option (Handle × Vault) :=
  ct.live.findSome? fun (h, r) =>
    match r with
    | .vault v => some (h, v)
    | _ => none

/-- The live record of a bin. -/
def Ct.binAt (ct : Ct) (b : BinId) : Option (Handle × Bin) :=
  ct.live.findSome? fun (h, r) =>
    match r with
    | .bin v => if v.bin = b then some (h, v) else none
    | _ => none

/-- The live bundle of a lane (R12). -/
def Ct.bundleOf (ct : Ct) (l : Lane) : Option (Handle × Bundle) :=
  ct.live.findSome? fun (h, r) =>
    match r with
    | .bundle v => if v.lane = l then some (h, v) else none
    | _ => none

/-- The live transit of a lane (R12). -/
def Ct.transitOf (ct : Ct) (l : Lane) : Option (Handle × Transit) :=
  ct.live.findSome? fun (h, r) =>
    match r with
    | .transit v => if v.lane = l then some (h, v) else none
    | _ => none

/-- The tray's consignment: a bundle in DELIVERED, PRESENTED or RETRACTED, or a transit (R12). -/
inductive Consignment where
  | bundle (h : Handle) (b : Bundle)
  | transit (h : Handle) (t : Transit)
deriving DecidableEq, Repr

/-- The handle of a consignment. -/
def Consignment.handle : Consignment → Handle
  | .bundle h _ => h
  | .transit h _ => h

/-- Whether a consignment is outbound (05, section 5.1). -/
def Consignment.outbound : Consignment → Bool
  | .bundle _ b => b.outbound
  | .transit _ t => t.outbound

/-- The consignment of a lane's tray (R12). Where a bundle delivered on a deposit leaves two candidates, it is
the bundle (log entry 50). -/
def Ct.consignment (ct : Ct) (l : Lane) : Option Consignment :=
  match ct.bundleOf l with
  | some (h, b) => if b.inTray then some (.bundle h b) else
      (ct.transitOf l).map fun (k, t) => .transit k t
  | none => (ct.transitOf l).map fun (k, t) => .transit k t

/-- The live bin whose role is ACTIVE. -/
def Ct.activeBin (ct : Ct) : Option (Handle × Bin) :=
  ct.live.findSome? fun (h, r) =>
    match r with
    | .bin v => if v.role = .active then some (h, v) else none
    | _ => none

/-- The live ENVELOPE records. -/
def Ct.envelopes (ct : Ct) : List (Handle × Envelope) :=
  ct.live.filterMap fun (h, r) =>
    match r with
    | .envelope e => some (h, e)
    | _ => none

/-- The live stocks. -/
def Ct.stocks (ct : Ct) : List (Handle × Stock) :=
  ct.live.filterMap fun (h, r) =>
    match r with
    | .stock e => some (h, e)
    | _ => none

/-- The live bundles. -/
def Ct.bundles (ct : Ct) : List (Handle × Bundle) :=
  ct.live.filterMap fun (h, r) =>
    match r with
    | .bundle e => some (h, e)
    | _ => none

/-- A bundle's quality: the worst of the stocks its plan names (R16). -/
def Ct.bundleQuality (ct : Ct) (b : Bundle) : Quality :=
  b.parts.foldl (fun q p =>
    match ct.stock? p.stock with
    | some st => q.worse st.quality
    | none => q) .exact

/-- The quality shown for a record (R16). -/
def Ct.shownQuality (ct : Ct) : Record → Quality
  | .stock r => r.quality
  | .vault r => r.quality
  | .bin r => r.quality
  | .bundle r => ct.bundleQuality r
  | .transit r => r.quality
  | .envelope r =>
    match r.place with
    | .collected => r.quality
    | .inBin _ b =>
      match ct.binAt b with
      | some (_, v) => r.quality.worse v.quality
      | none => r.quality

/-- The reject vault's space: capacity less note count, 0 with no live record (R10, R57). -/
def Ct.vaultSpace (ct : Ct) : Nat :=
  match ct.vault? with
  | some (_, v) => v.capacity - v.count
  | none => 0

end Machine

end Sys2Proof
end

