-- ==== Sys2Proof/Machine/Flags.lean ====
section
/-! DEFINITION. The event flags of the Station Link Port and the ATTN line (10, section 10.8). -/

namespace Sys2Proof.Machine

/-- The lane flags (10, section 10.8). -/
inductive LaneFlag where
  | bundleStacked | bundleDelivered | bundleDone | drawerHome | drawerOut | transitChange
  | laneLocked | drawerJam
deriving DecidableEq, Repr

/-- A lane flag's bit. -/
def LaneFlag.mask : LaneFlag → Byte
  | .bundleStacked => 0x01
  | .bundleDelivered => 0x02
  | .bundleDone => 0x04
  | .drawerHome => 0x08
  | .drawerOut => 0x10
  | .transitChange => 0x20
  | .laneLocked => 0x40
  | .drawerJam => 0x80

/-- The wall flags (10, section 10.8). -/
inductive WallFlag where
  | transportJam | stockLow | stockDoubt | rvFull | binSwitch | binFull | envelopeCaptured
  | grantChange | alarmChange | backupLost
deriving DecidableEq, Repr

/-- A wall flag's bit. -/
def WallFlag.mask : WallFlag → Half
  | .transportJam => 0x001
  | .stockLow => 0x002
  | .stockDoubt => 0x004
  | .rvFull => 0x008
  | .binSwitch => 0x010
  | .binFull => 0x020
  | .envelopeCaptured => 0x040
  | .grantChange => 0x080
  | .alarmChange => 0x100
  | .backupLost => 0x200

/-- Set a lane flag; a lane above FITTED_LANES has no flags (R169). -/
def State.setLaneFlag (s : State) (l : Lane) (f : LaneFlag) : State :=
  if s.fitted l then
    s.onSlp fun p => { p with laneFlags := p.laneFlags.put l (p.laneFlags.get l ||| f.mask) }
  else s

/-- Set a wall flag (R169). -/
def State.setWallFlag (s : State) (f : WallFlag) : State :=
  s.onSlp fun p => { p with wallFlags := p.wallFlags ||| f.mask }

/-- Clear the eight flags of a lane (R171). -/
def State.clearLaneFlags (s : State) (l : Lane) : State :=
  s.onSlp fun p => { p with laneFlags := p.laneFlags.put l 0 }

/-- Whether a lane flag is set. -/
def State.laneFlag (s : State) (l : Lane) (f : LaneFlag) : Bool :=
  (s.slp.laneFlags.get l &&& f.mask) != 0

/-- Whether a wall flag is set. -/
def State.wallFlag (s : State) (f : WallFlag) : Bool := (s.slp.wallFlags &&& f.mask) != 0

/-- ATTN is active while at least one flag is set (R169). -/
def State.attn (s : State) : Bool :=
  s.slp.wallFlags != 0 || Lane.all.any fun l => s.slp.laneFlags.get l != 0

end Sys2Proof.Machine
end

