-- ==== Sys2Proof/Machine/Custody.lean ====
section
/-! DEFINITION. Changes of custody records with the reports that belong to the same change: low mark and
doubt flags (R15, R132), quotes made INVALID (R52), QUEUED bundles cancelled (R62), last-outcome records
(R25). -/

namespace Sys2Proof.Machine

/-- Every quote naming the stock becomes INVALID (R52). -/
def State.invalidateQuotes (s : State) (h : Handle) : State :=
  s.onDpl fun d => { d with
    quotes := d.quotes.map fun q => q.map fun e =>
      if e.parts.any (·.stock = h) then { e with valid := false } else e }

/-- Every quote becomes INVALID: a change of the hold causes of every stock (R52, R156). -/
def State.invalidateAllQuotes (s : State) : State :=
  s.onDpl fun d => { d with quotes := d.quotes.map fun q => q.map fun e => { e with valid := false } }

/-- Write a live stock's record with the reports of the change: the low-mark flag is evaluated (R132),
quotes become INVALID (R9, R52), STOCK_LOW and STOCK_DOUBT are set (R15). -/
def State.putStock (s : State) (h : Handle) (new : Stock) : State :=
  match s.ct.stock? h with
  | none => s
  | some old =>
    let new := Stock.evalLow old new s.set.lowMark
    let s := s.onCt fun ct => ct.write h (.stock new)
    let s := if old.reportedChange new then s.invalidateQuotes h else s
    let s := if !old.lowMark && new.lowMark then s.setWallFlag .stockLow else s
    if !old.quality.isDoubtful && new.quality.isDoubtful then s.setWallFlag .stockDoubt else s

/-- Change a live stock without cancelling anything: for changes that cannot make it DOUBTFUL. -/
def State.tallyStock (s : State) (h : Handle) (f : Stock → Stock) : State :=
  match s.ct.stock? h with
  | none => s
  | some old => s.putStock h (f old)

/-- Retire a bundle: the lane's last-outcome record is written in the same change, before the slot is
freed, with the stacked notes for TAKEN and HANDED and 0 otherwise (R25, R3); BUNDLE_DONE is set after
it. -/
def State.retireBundle (s : State) (h : Handle) (e : Ending) : State :=
  match s.ct.bundle? h with
  | none => s
  | some b =>
    let notes := match e with
      | .taken | .handed => b.stackedSum
      | _ => 0
    let out : LastOutcome := ⟨h, e, b.amount, notes, s.ct.bundleQuality b⟩
    let s := s.onCt fun ct => { ct with last := ct.last.put b.lane (some out) }
    let s := s.onCt fun ct => ct.retire h
    s.setLaneFlag b.lane .bundleDone

/-- Release what is left of the reservations of a plan's parts: target less stacked (R61, R74). -/
def State.releaseParts (s : State) (parts : List Part) : State :=
  parts.foldl (fun s p => s.tallyStock p.stock fun st => st.release (p.target - p.stacked)) s

/-- Cancel a QUEUED bundle (R61). -/
def State.cancelQueued (s : State) (h : Handle) : State :=
  match s.ct.bundle? h with
  | none => s
  | some b =>
    let s := s.onDpl fun d => { d with queue := d.queue.filter (· != h) }
    let s := s.releaseParts b.parts
    s.retireBundle h .cancelled

/-- Cancel the QUEUED bundles with a plan part naming the stock, in commit order (R62). -/
def State.cancelDrawing (s : State) (h : Handle) : State :=
  s.dpl.queue.foldl (fun s k =>
    match s.ct.bundle? k with
    | some b => if b.names h then s.cancelQueued k else s
    | none => s) s

/-- Change a live stock; when it becomes DOUBTFUL, the QUEUED bundles naming it are cancelled in the same
change (R9, R62). -/
def State.changeStock (s : State) (h : Handle) (f : Stock → Stock) : State :=
  match s.ct.stock? h with
  | none => s
  | some old =>
    let s' := s.putStock h (f old)
    if !old.quality.isDoubtful && (f old).quality.isDoubtful then s'.cancelDrawing h else s'

/-- A stock becomes DOUBTFUL; an already DOUBTFUL one keeps its first cause (R14). -/
def State.doubtStock (s : State) (h : Handle) (c : DoubtCause) : State :=
  s.changeStock h fun st => st.worsen (.doubtful c)

/-- Every stock named in a plan, closed parts included, becomes DOUBTFUL (R80, R83, R84, R176). -/
def State.doubtPlan (s : State) (b : Bundle) (c : DoubtCause) : State :=
  b.parts.foldl (fun s p => s.doubtStock p.stock c) s

/-- Change the live reject vault record. -/
def State.onVault (s : State) (f : Vault → Vault) : State :=
  match s.ct.vault? with
  | none => s
  | some (h, v) => s.onCt fun ct => ct.write h (.vault (f v))

/-- Make the live reject vault record's quality the worse of its own and a grade (R14). -/
def State.worsenVault (s : State) (q : Quality) : State :=
  s.onVault fun v => { v with quality := v.quality.worse q }

/-- Raise the reject vault's note count: the quality worsens with that of the count, and a count above
the capacity makes the record DOUBTFUL(OVERFLOW) (R10, R14). -/
def Vault.add (v : Vault) (n : Nat) (q : Quality) : Vault :=
  let v := { v with count := v.count + n, quality := v.quality.worse q }
  if v.capacity < v.count then { v with quality := v.quality.worse (.doubtful .overflow) } else v

/-- Notes enter the reject vault (R10). -/
def State.addVault (s : State) (n : Nat) (q : Quality) : State := s.onVault fun v => v.add n q

/-- Change the live record of a bin. -/
def State.onBin (s : State) (b : BinId) (f : Bin → Bin) : State :=
  match s.ct.binAt b with
  | none => s
  | some (h, v) => s.onCt fun ct => ct.write h (.bin (f v))

/-- A bin's live record becomes DOUBTFUL, keeping a first cause (R14). -/
def State.doubtBin (s : State) (b : BinId) (c : DoubtCause) : State :=
  s.onBin b fun v => { v with quality := v.quality.worse (.doubtful c) }

/-- The live bin record with role ACTIVE becomes DOUBTFUL, when there is one (R117). -/
def State.doubtActiveBin (s : State) (c : DoubtCause) : State :=
  match s.ct.activeBin with
  | none => s
  | some (_, v) => s.doubtBin v.bin c

/-- Change a live bundle's record. -/
def State.onBundle (s : State) (h : Handle) (f : Bundle → Bundle) : State :=
  match s.ct.bundle? h with
  | none => s
  | some b => s.onCt fun ct => ct.write h (.bundle (f b))

/-- Set a bundle's state; its location follows (R11). -/
def State.setBundleState (s : State) (h : Handle) (st : BundleState) : State :=
  s.onBundle h fun b => { b with state := st }

/-- Set a transit's state; TRANSIT_CHANGE is set after it (R90, R94, R95). -/
def State.setTransitState (s : State) (h : Handle) (st : TransitState) : State :=
  match s.ct.transit? h with
  | none => s
  | some t =>
    (s.onCt fun ct => ct.write h (.transit { t with state := st })).setLaneFlag t.lane .transitChange

/-- Retire a transit; TRANSIT_CHANGE is set after it (R93, R97, R98). -/
def State.retireTransit (s : State) (h : Handle) : State :=
  match s.ct.transit? h with
  | none => s
  | some t => (s.onCt fun ct => ct.retire h).setLaneFlag t.lane .transitChange

/-- Create a record and give its handle (R2). -/
def State.createRecord (s : State) (r : Record) : State × Handle :=
  let c := s.ct.create r
  (s.onCt fun _ => c.1, c.2)

/-- Move each part's stacked notes between the tallies of its stock. -/
def State.moveStacked (s : State) (parts : List Part) (move : Stock → Nat → Stock) : State :=
  parts.foldl (fun s p => s.tallyStock p.stock fun st => move st p.stacked) s

/-- A bundle is taken by its customer: the stacked notes move from in_bundles to paid_out and the bundle
is retired TAKEN (R93). -/
def State.takeBundle (s : State) (h : Handle) (b : Bundle) : State :=
  (s.moveStacked b.parts Stock.toPaid).retireBundle h .taken

/-- The figures of a bundle that ends in the transport: each part's stacked notes move from in_bundles
to rejected, its stock's reservation falls by target less stacked, and the reject vault's count rises
by the stacked notes, counted EXACT (R74). -/
def State.rejectStacked (s : State) (b : Bundle) : State :=
  ((s.moveStacked b.parts Stock.toRejected).releaseParts b.parts).addVault b.stackedSum .exact

end Sys2Proof.Machine
end

