-- ==== Sys2Proof/Machine/Drives.lean ====
section
/-! DEFINITION. The motors, with the blanking windows that their starts and ends open and close (R142)
and the encoder-stall limits that run while a transport motor runs (R80, R117). -/

namespace Sys2Proof.Machine

/-- A cause begins or is present: the window opens, and a tail that was running stops (R142). -/
def Window.cause (_ : Window) : Window := ⟨true, .stopped⟩

/-- The last cause has ended: the tail of an open window starts, unless it is already running (R142). -/
def Window.ended (w : Window) (tail : Nat) : Window :=
  if w.opened && !w.tail.isRunning then ⟨true, .running tail⟩ else w

/-- A window as its causes leave it. -/
def Window.follow (w : Window) (cause : Bool) (tail : Nat) : Window :=
  if cause then w.cause else w.ended tail

/-- The causes of the vibration zone's window: a transport motor, the stacker dump or an open chute gate
(R142). -/
def State.vibrationCause (s : State) : Bool :=
  s.ntc.motor || s.ntc.dump || s.ntc.gate.isSome || s.ecc.motor

/-- The vibration zone's window follows its causes (R142). -/
def State.followVibration (s : State) : State :=
  s.onAzu fun z => { z with vibration := z.vibration.follow s.vibrationCause Config.vibrationTail }

/-- Start the note transport's motor; its encoder-stall limit runs (R80). -/
def State.startNoteMotor (s : State) : State :=
  (s.onNtc fun n => { n with motor := true, stallTimer := .running Config.stallLimit }).followVibration

/-- Stop the note transport's motor; its encoder-stall limit stops (R80). -/
def State.stopNoteMotor (s : State) : State :=
  (s.onNtc fun n => { n with motor := false, stallTimer := .stopped }).followVibration

/-- The note transport's motor runs again after a pause, its encoder-stall limit from its time left (R82). -/
def State.rerunNoteMotor (s : State) : State :=
  (s.onNtc fun n => { n with motor := true, stallTimer := n.stallTimer.thaw }).followVibration

/-- Start the stacker dump under its limit (R75). -/
def State.startDump (s : State) : State :=
  (s.onNtc fun n => { n with dump := true, dumpTimer := .running Config.dumpLimit }).followVibration

/-- Stop the stacker dump and its limit (R75, R80). -/
def State.stopDump (s : State) : State :=
  (s.onNtc fun n => { n with dump := false, dumpTimer := .stopped }).followVibration

/-- Open a lane's chute gate and start the chute limit (R77). -/
def State.openGate (s : State) (l : Lane) : State :=
  (s.onNtc fun n => { n with gate := some l, chuteTimer := .running Config.chuteLimit }).followVibration

/-- Close the chute gate and stop the chute limit (R78, R80). -/
def State.closeGate (s : State) : State :=
  (s.onNtc fun n => { n with gate := none, chuteTimer := .stopped }).followVibration

/-- Start the envelope transport's motor; its encoder-stall limit runs (R117). -/
def State.startEnvMotor (s : State) : State :=
  (s.onEcc fun e => { e with motor := true, stallTimer := .running Config.stallLimit }).followVibration

/-- Stop the envelope transport's motor and the feeds; its encoder-stall limit stops (R117). -/
def State.stopEnvMotor (s : State) : State :=
  (s.onEcc fun e => { e with motor := false, feed := .stopped, stallTimer := .stopped }).followVibration

/-- The envelope transport's motor runs again after a pause, its encoder-stall limit from its time left
(R119). -/
def State.rerunEnvMotor (s : State) : State :=
  (s.onEcc fun e => { e with motor := true, stallTimer := e.stallTimer.thaw }).followVibration

/-- A lane's forcing window follows its drawer's motor drive (R86, R142). -/
def State.followForcing (s : State) (l : Lane) : State :=
  s.onAzu fun z => { z with
    forcing := z.forcing.put l ((z.forcing.get l).follow (s.ldc.get l).motor Config.forcingTail) }

/-- Drive a lane's drawer motor under a new motion limit (R86). -/
def State.driveDrawer (s : State) (l : Lane) : State :=
  (s.onLdc l fun d => { d with motor := true, motion := .running Config.motionLimit }).followForcing l

/-- Stop a lane's drawer motor; the motion limit stops (R86). -/
def State.stopDrawer (s : State) (l : Lane) : State :=
  (s.onLdc l fun d => { d with motor := false, motion := .stopped }).followForcing l

/-- Whether a zone's blanking window is open: the forcing zones and the vibration zone by their own
windows, Z8 to Z11, Z13 and Z15 while their grant is OPEN, the hold-up zones never (R142). -/
def State.blanked (s : State) (z : ZoneId) : Bool :=
  match z.val with
  | 4 => s.azu.forcing.l1.opened
  | 5 => s.azu.forcing.l2.opened
  | 6 => s.azu.forcing.l3.opened
  | 7 => s.azu.forcing.l4.opened
  | 8 => s.grantOpen .dispenser
  | 9 => s.grantOpen .reject
  | 10 => s.grantOpen .capture
  | 11 => s.grantOpen .capture
  | 12 => s.azu.vibration.opened
  | 13 => s.grantOpen .wall
  | 15 => s.grantOpen .wall
  | _ => false

end Sys2Proof.Machine
end

