-- ==== Sys2Proof/Machine/Gauge.lean ====
section
/-! DEFINITION. The Gauge Measurement Unit (02): runs, baselines, edges, measurements, the classes of
notes and envelopes, and reference learning. -/

namespace Sys2Proof.Machine

/-! ## Runs -/

/-- The gauge of a transport. -/
def Gmu.get (g : Gmu) : Transport → Gauge
  | .note => g.note
  | .envelope => g.envelope

/-- Replace the gauge of a transport. -/
def Gmu.put (g : Gmu) (t : Transport) (v : Gauge) : Gmu :=
  match t with
  | .note => { g with note := v }
  | .envelope => { g with envelope := v }

/-- A pending value becomes the value in effect (R44). -/
def Held.apply (h : Held) : Held := ⟨h.pending.getD h.value, none⟩

/-- The pending gauge settings of a transport take effect (R44). -/
def Settings.applyGauge (s : Settings) : Transport → Settings
  | .note => { s with
      thresholdNote := s.thresholdNote.apply
      gainNoteA := s.gainNoteA.apply
      gainNoteB := s.gainNoteB.apply
      skewNote := s.skewNote.apply
      lengthTolerance := s.lengthTolerance.apply }
  | .envelope => { s with
      thresholdEnv := s.thresholdEnv.apply
      gainEnvA := s.gainEnvA.apply
      gainEnvB := s.gainEnvB.apply
      skewEnv := s.skewEnv.apply }

/-- A run starts: windows empty, no item, sample index 0 (R28). -/
def State.runStart (s : State) (t : Transport) : State :=
  s.onGmu fun g => g.put t Gauge.runStart

/-- A run ends, if one is in progress: the item is abandoned and the transport's pending gauge settings
take effect (R28, R44). -/
def State.runEnd (s : State) (t : Transport) : State :=
  if (s.gmu.get t).run then
    (s.onGmu fun g => g.put t { g.get t with run := false, item := none }).onSet
      fun c => c.applyGauge t
  else s

/-- The controller takes a transport into or out of measuring travel (R27). -/
def State.setMeasuring (s : State) (t : Transport) (m : Bool) : State :=
  s.onGmu fun g => g.put t { g.get t with measuring := m }

/-- Whether a pulse of the transport would be sampled: its motor runs, in a run and in measuring travel (R27). -/
def State.sampling (s : State) (t : Transport) : Bool :=
  (match t with
    | .note => s.ntc.motor
    | .envelope => s.ecc.motor) && (s.gmu.get t).run && (s.gmu.get t).measuring

/-- The item whose samples the gauges are taking. An item held while none is taken, in PAUSED or in a reversal,
neither ends nor reaches a limit (R27; log entry 6). -/
def State.sampledItem (s : State) (t : Transport) : Option GaugeItem :=
  if s.sampling t then (s.gmu.get t).item else none

/-! ## Baseline and edges -/

/-- The baseline of a window: the mean of its codes, rounded down (R29). -/
def baseline (w : List Nat) : Nat := w.sum / w.length

/-- A gap sample enters a window; the oldest leaves a full one (R29). -/
def pushGap (w : List Nat) (code : Nat) : List Nat :=
  if w.length < Config.windowSize then w ++ [code] else w.drop 1 ++ [code]

/-- A code's difference from a window's baseline, 0 below it (R30). -/
def difference (code : Nat) (w : List Nat) : Nat := code - baseline w

/-- A track with no leading edge yet. -/
def TrackItem.empty : TrackItem := ⟨none, 0, none, []⟩

/-- One sample of an item on one track: the leading edge is the first difference at or above the
threshold (R30); the trailing edge is the first of four below it in a row (R31). -/
def TrackItem.sample (tr : TrackItem) (threshold index d : Nat) : TrackItem :=
  match tr.lead, tr.trail with
  | none, _ => if threshold ≤ d then ⟨some index, 0, none, [d]⟩ else tr
  | some _, some _ => tr
  | some l, none =>
    let below := if d < threshold then tr.below + 1 else 0
    ⟨some l, below,
      if below = Config.confirmSamples then some (index + 1 - Config.confirmSamples) else none,
      d :: tr.diffs⟩

/-- A track no longer holds the item: it has no leading edge, or has confirmed its trailing edge (R31). -/
def TrackItem.clear (tr : TrackItem) : Bool := tr.lead.isNone || tr.trail.isSome

/-- Every track that found a leading edge has confirmed its trailing edge (R31). -/
def GaugeItem.ended (it : GaugeItem) : Bool := it.a.clear && it.b.clear

/-! ## Measurement -/

/-- A track's length: its measurement end less its leading edge, 0 with no leading edge (R33); `limit`
is the measurement end of a track that has not found its trailing edge (R32). -/
def TrackItem.length (tr : TrackItem) (limit : Nat) : Nat :=
  match tr.lead with
  | none => 0
  | some l => tr.trail.getD limit - l

/-- A body count below 16 is a short body (R34). -/
def isShort (length : Nat) : Bool := length < 2 * Config.bodyMargin + Config.shortBody

/-- meanDiff: the mean of the body's differences, rounded down (R34). -/
def TrackItem.meanDiff (tr : TrackItem) (length : Nat) : Nat :=
  let body := (tr.diffs.reverse.drop Config.bodyMargin).take (length - 2 * Config.bodyMargin)
  body.sum / (length - 2 * Config.bodyMargin)

/-- A track's thickness in micrometres (R35). -/
def trackThickness (meanDiff gain : Nat) : Nat := meanDiff * gain / 64

/-- The item's skew: the difference of the leading edges without sign, 0 with one of them missing
(R36). -/
def GaugeItem.skew (it : GaugeItem) : Nat :=
  match it.a.lead, it.b.lead with
  | some x, some y => max x y - min x y
  | _, _ => 0

/-- What the GMU measures of an item whose measurement ends at `limit` on the tracks without a trailing
edge (R33 to R36). Ls is the greater track length at the length limit too (log entry 70). -/
def GaugeItem.measure (it : GaugeItem) (limit gainA gainB : Nat) : Measure :=
  let la := it.a.length limit
  let lb := it.b.length limit
  let short := isShort la || isShort lb
  let t := if short then 0 else
    (trackThickness (it.a.meanDiff la) gainA + trackThickness (it.b.meanDiff lb) gainB) / 2
  ⟨max la lb, t, it.skew, short⟩

/-! ## One pulse -/

/-- What a sample makes the GMU signal to the transport's controller (R30 to R32). -/
inductive GaugeSignal where
  | started
  | handover (m : Measure) (atLimit : Bool)
  | ended
  | overstay
deriving DecidableEq, Repr

/-- The gauge settings of one transport in effect, with its two presence limits (R32). -/
structure GaugeSettings where
  threshold : Nat
  gainA : Nat
  gainB : Nat
  lengthLimit : Nat
  presenceLimit : Nat
deriving DecidableEq, Repr

/-- The settings in effect for a transport (R32, R44). -/
def Settings.gauge (s : Settings) : Transport → GaugeSettings
  | .note => ⟨s.thresholdNote.value, s.gainNoteA.value, s.gainNoteB.value, 700, 1000⟩
  | .envelope => ⟨s.thresholdEnv.value, s.gainEnvA.value, s.gainEnvB.value, 640, 900⟩

/-- The sample is taken of the item in progress (R30 to R32). An item that carries no class (`classes`
false: a note started with no pick, R30) is handed over for nothing. An end confirmed at the sample of
a limit comes before it. -/
def Gauge.itemSample (g : Gauge) (c : GaugeSettings) (it : GaugeItem) (a b : Nat) (classes : Bool) :
    Gauge × List GaugeSignal :=
  let it := { it with
    a := it.a.sample c.threshold g.index (difference a g.winA)
    b := it.b.sample c.threshold g.index (difference b g.winB) }
  if it.ended then
    ({ g with index := g.index + 1, item := none },
      (if classes && !it.classified then [.handover (it.measure g.index c.gainA c.gainB) false] else [])
        ++ [.ended])
  else if g.index - it.start = c.lengthLimit && !it.classified then
    ({ g with index := g.index + 1, item := some { it with classified := true } },
      if classes then [.handover (it.measure g.index c.gainA c.gainB) true] else [])
  else
    ({ g with index := g.index + 1, item := some it },
      if g.index - it.start = c.presenceLimit then [.overstay] else [])

/-- The sample is taken with no item present: a leading edge on either track starts an item, which
takes the stock of the outstanding pick; otherwise, and for the first sample of a run, it is a gap
sample (R29, R30). -/
def Gauge.gapSample (g : Gauge) (c : GaugeSettings) (a b : Nat) (stock : Option ItemStock) :
    Gauge × List GaugeSignal :=
  let da := difference a g.winA
  let db := difference b g.winB
  if g.winA.isEmpty || (da < c.threshold && db < c.threshold) then
    ({ g with index := g.index + 1, winA := pushGap g.winA a, winB := pushGap g.winB b }, [])
  else
    ({ g with
        index := g.index + 1
        item := some ⟨g.index, TrackItem.empty.sample c.threshold g.index da,
          TrackItem.empty.sample c.threshold g.index db, stock, false⟩ }, [.started])

/-- One encoder pulse in measuring travel clocks one sample of both tracks (R27); a note item carries a
class only when it was started on a pick (R30). -/
def Gauge.pulse (g : Gauge) (t : Transport) (c : GaugeSettings) (a b : Nat)
    (stock : Option ItemStock) : Gauge × List GaugeSignal :=
  if g.run && g.measuring then
    match g.item with
    | some it => g.itemSample c it a b (t = .envelope || it.stock.isSome)
    | none => g.gapSample c a b stock
  else (g, [])

/-! ## Classes of notes -/

/-- The classes of a note (R37). -/
inductive NoteClass where | long | short | skew | double | thin | good
deriving DecidableEq, Repr

/-- The tests of R37 in order. -/
def classifyNote (m : Measure) (atLimit : Bool) (tRef lRef ltol skewLimit : Nat) : NoteClass :=
  if atLimit || lRef + ltol < m.ls then .long
  else if m.ls + ltol < lRef || m.short then .short
  else if skewLimit < m.skew then .skew
  else if 13 * tRef ≤ 8 * m.t then .double
  else if 8 * m.t < 5 * tRef then .thin
  else .good

/-- x over ref rounded to the nearest whole number, halves up, held between 2 and 4 (R38). -/
def estimate (x ref : Nat) : Nat := max 2 (min 4 ((2 * x + ref) / (2 * ref)))

/-- The counted notes of a class (R37, R38). -/
def countedNotes (c : NoteClass) (m : Measure) (tRef lRef : Nat) : Nat :=
  match c with
  | .long => estimate m.ls lRef
  | .double => estimate m.t tRef
  | _ => 1

/-- The quality of the count (R37). -/
def countQuality : NoteClass → Quality
  | .skew | .good => .exact
  | _ => .estimated

/-- Hold a value within bounds. -/
def clampTo (lo hi : Nat) (x : Int) : Nat := (max (lo : Int) (min (hi : Int) x)).toNat

/-- The thickness reference after a GOOD note: a step of (T - T_ref + 8) / 16, rounded down, within
the learning bounds (R40). -/
def learnThickness (st : Stock) (tRef t : Nat) : Nat :=
  clampTo st.tLow st.tHigh ((tRef : Int) + ((t : Int) - (tRef : Int) + 8) / 16)

/-- The length reference after a GOOD note: a step of (Ls - L_ref + 16) / 32, rounded down, within the
learning bounds (R41). -/
def learnLength (st : Stock) (lRef ls : Nat) : Nat :=
  clampTo st.lLow st.lHigh ((lRef : Int) + ((ls : Int) - (lRef : Int) + 16) / 32)

/-- The references that a GOOD note leaves its stock; a DOUBTFUL stock does not learn (R40, R41). -/
def Stock.learn (st : Stock) (ref : ItemStock) (m : Measure) : Stock :=
  if st.quality.isDoubtful then st
  else { st with tRef := learnThickness st ref.tRef m.t, lRef := learnLength st ref.lRef m.ls }

/-! ## Classes of envelopes -/

/-- The tests of R42 in order, against the limits in effect (R45). -/
def classifyEnvelope (s : Settings) (m : Measure) (atLimit : Bool) : EnvClass :=
  if atLimit || m.short || m.ls / 2 < s.envLengthMin || s.envLengthMax < m.ls / 2 then
    .handBack .length
  else if s.envThicknessMax < m.t then .handBack .thick
  else if s.skewEnv.value < m.skew then .handBack .skew
  else .accept

end Sys2Proof.Machine
end

