-- ==== Sys2Proof/Machine/Planner.lean ====
section
/-! DEFINITION. The Dispense Planner (03): candidates and plans, the quote table, commits, and the
present queue with the handing of a bundle to the note transport. -/

namespace Sys2Proof.Machine

/-! ## Plans by amount -/

/-- A candidate for a plan by amount, with its figures taken once (R47). -/
structure Candidate where
  handle : Handle
  pos : CassettePos
  denom : Nat
  available : Nat
deriving DecidableEq, Repr

/-- The candidate at a position: a live stock, not DOUBTFUL and not held (R47). -/
def State.candidateAt (s : State) (p : CassettePos) : Option Candidate :=
  match s.ct.stockAt p with
  | none => none
  | some (h, st) =>
    if st.quality.isDoubtful || s.ct.holdDispenser != 0 then none
    else some ⟨h, p, st.denom, st.available⟩

/-- Put a candidate before those of no higher denomination. -/
def insertCandidate (c : Candidate) : List Candidate → List Candidate
  | [] => [c]
  | d :: ds => if d.denom ≤ c.denom then c :: d :: ds else d :: insertCandidate c ds

/-- Candidate order: by denomination from highest to lowest, equal ones from C1 to C5 (R47). -/
def State.candidates (s : State) : List Candidate :=
  (CassettePos.all.filterMap s.candidateAt).foldr insertCandidate []

/-- Try counts from the largest downward to 0 and give the first success. -/
def tryDown {α : Type} (f : Nat → Option α) : Nat → Option α
  | 0 => f 0
  | k + 1 =>
    match f (k + 1) with
    | some r => some r
    | none => tryDown f k

/-- The depth-first search: one count for each candidate, paying the amount with at most `notes` notes
(R48). -/
def searchPlan : List Candidate → (amount notes : Nat) → Option (List Nat)
  | [], amount, _ => if amount = 0 then some [] else none
  | c :: cs, amount, notes =>
    tryDown (fun k => (searchPlan cs (amount - k * c.denom) (notes - k)).map (k :: ·))
      (min c.available (min (amount / c.denom) notes))

/-- The plan's parts: the candidates with a count above 0, in candidate order (R48). -/
def planParts (cs : List Candidate) (counts : List Nat) : List QuotePart :=
  ((cs.zip counts).filter fun p => 0 < p.2).map fun p => ⟨p.1.handle, p.2⟩

/-- The greedy maximum (R49). -/
def greedyMaximum : List Candidate → (notes : Nat) → Nat
  | [], _ => 0
  | c :: cs, notes => min c.available notes * c.denom + greedyMaximum cs (notes - min c.available notes)

/-- A refusal: its STATUS and its detail. -/
structure Refuse where
  status : Status
  detail : Answer
deriving DecidableEq, Repr

/-- A plan by amount, or its refusal (R48, R49). -/
def State.planAmount (s : State) (amount : Nat) : Except Refuse (List QuotePart) :=
  if amount = 0 ∨ 9999999 < amount then .error ⟨.badRequest, .empty⟩
  else
    match searchPlan s.candidates amount s.set.bundleLimit with
    | some counts => .ok (planParts s.candidates counts)
    | none =>
      let g := greedyMaximum s.candidates s.set.bundleLimit
      .error ⟨.noPlan, .noPlan (if g < amount then .overLimit else .noCombination) none g⟩

/-! ## Plans by mix -/

/-- The check of one position of a mix (R50). -/
def State.checkMixAt (s : State) (p : CassettePos) (n : Nat) : Except Refuse QuotePart :=
  match s.ct.stockAt p with
  | none => .error ⟨.noPlan, .noPlan .shortStock (some p) 0⟩
  | some (h, st) =>
    if st.quality.isDoubtful then .error ⟨.doubt, .position p⟩
    else if s.ct.holdDispenser != 0 then .error ⟨.held, .position p⟩
    else if st.available < n then .error ⟨.noPlan, .noPlan .shortStock (some p) 0⟩
    else .ok ⟨h, n⟩

/-- The positions with counts above 0, checked in order; the first failure is reported (R50). -/
def State.checkMix (s : State) : List (CassettePos × Nat) → Except Refuse (List QuotePart)
  | [] => .ok []
  | (p, n) :: rest =>
    if n = 0 then s.checkMix rest
    else
      match s.checkMixAt p n with
      | .error r => .error r
      | .ok part =>
        match s.checkMix rest with
        | .error r => .error r
        | .ok parts => .ok (part :: parts)

/-- The counts of a mix by position. -/
def mixList (m : PerPos Nat) : List (CassettePos × Nat) := CassettePos.all.map fun p => (p, m.get p)

/-- A plan by mix, or its refusal (R50). -/
def State.planMix (s : State) (m : PerPos Nat) : Except Refuse (List QuotePart) :=
  let l := mixList m
  if l.any (fun x => 50 < x.2) || l.all (fun x => x.2 = 0) then .error ⟨.badRequest, .empty⟩
  else
    match s.checkMix l with
    | .error r => .error r
    | .ok parts =>
      if s.set.bundleLimit < (parts.map (·.count)).sum then
        .error ⟨.noPlan, .noPlan .overLimit none 0⟩
      else .ok parts

/-- The amount of a plan: each count times its stock's denomination (R50). -/
def State.planAmountOf (s : State) (parts : List QuotePart) : Nat :=
  (parts.map fun p =>
    match s.ct.stock? p.stock with
    | some st => p.count * st.denom
    | none => 0).sum

/-- A plan's quality: the worst of its stocks (R51, R16). -/
def State.planQuality (s : State) (parts : List QuotePart) : Quality :=
  parts.foldl (fun q p =>
    match s.ct.stock? p.stock with
    | some st => q.worse st.quality
    | none => q) .exact

/-- A plan's parts as a response lists them: position, denomination and count (R51). -/
def State.planFigures (s : State) (parts : List QuotePart) : List (CassettePos × Nat × Nat) :=
  parts.filterMap fun p => (s.ct.stock? p.stock).map fun st => (st.pos, st.denom, p.count)

/-! ## The quote table -/

/-- The tag after a tag: 255 steps to 1, never to 0 (R51). -/
def stepTag (t : Nat) : Nat := if 255 ≤ t then 1 else t + 1

/-- The next tag that no live entry holds (R51); 8 entries can hold at most 8. -/
def nextTagFrom (live : List Nat) : (fuel t : Nat) → Nat
  | 0, t => stepTag t
  | k + 1, t => if live.contains (stepTag t) then nextTagFrom live k (stepTag t) else stepTag t

/-- The live entries of the quote table. -/
def Dpl.liveQuotes (d : Dpl) : List Quote := d.quotes.toList.filterMap id

/-- The live entry carrying a tag. -/
def Dpl.quoteTagged (d : Dpl) (tag : Nat) : Option Quote := d.liveQuotes.find? (·.tag = tag)

/-- The entry a new quote of a lane is filled in: a free one, of which R51 does not say which and the model
takes the first (log entry 49), or the lane's OLDER one when it already holds two (R51). -/
def Dpl.entryFor (d : Dpl) (l : Lane) : Nat :=
  if (d.liveQuotes.filter (·.lane = l)).length < 2 then
    d.quotes.toList.findIdx (·.isNone)
  else
    d.quotes.toList.findIdx fun q =>
      match q with
      | some e => e.lane = l && !e.newer
      | none => false

/-- Store a new VALID and NEWER quote; the lane's other becomes OLDER and the next tag steps (R51). -/
def Dpl.addQuote (d : Dpl) (l : Lane) (amount : Nat) (parts : List QuotePart) : Dpl :=
  let older := d.quotes.map fun q => q.map fun e => if e.lane = l then { e with newer := false } else e
  let quotes := older.setIfInBounds (d.entryFor l) (some ⟨d.nextTag, l, amount, parts, true, true⟩)
  let tags := (quotes.toList.filterMap id).map (·.tag)
  { d with quotes := quotes, nextTag := nextTagFrom tags 8 d.nextTag }

/-- Free the entry carrying a tag; the lane's other quote becomes NEWER (R53). -/
def Dpl.freeQuote (d : Dpl) (l : Lane) (tag : Nat) : Dpl :=
  { d with quotes := d.quotes.map fun q =>
      match q with
      | none => none
      | some e =>
        if e.tag = tag then none else some (if e.lane = l then { e with newer := true } else e) }

/-! ## The present queue and the note transport's leader -/

/-- A leader of the note transport starts: motor, diverter to the reject branch, run start (R66, R81). -/
def State.startNoteLeader (s : State) : State :=
  ((s.onNtc fun n => { n with
      state := .leader, saved := none, diverter := .reject, leader := Leader.fresh }).startNoteMotor).runStart
    .note

/-- The NTC enters LEADER and runs it. While a pause is in force it enters PAUSED with LEADER saved, and the
leader runs at the lift (R82); under a power warning nothing moves, and the warning's end ends the leader
(R84). -/
def State.enterNoteLeader (s : State) : State :=
  if s.pauseInForce then
    s.onNtc fun n => { n with
      state := .paused, saved := some .leader, diverter := .reject, leader := Leader.fresh }
  else if s.pins.warning then
    s.onNtc fun n => { n with
      state := .leader, saved := none, diverter := .reject, leader := Leader.fresh }
  else s.startNoteLeader

/-- The conditions of R57 but for the reject vault's space. -/
def State.mayStart (s : State) (b : Bundle) : Bool :=
  !s.locked b.lane && !s.grantOpen .dispenser && s.ct.holdDispenser = 0 && s.ct.holdReject = 0
    && !s.pins.warning

/-- The reject vault's space is at least the total target plus REJECT_LIMIT (R57). -/
def State.spaceFor (s : State) (b : Bundle) : Bool :=
  decide (b.targetSum + s.set.rejectLimit ≤ s.ct.vaultSpace)

/-- Whether a queue entry meets a condition on its bundle. -/
def State.entryMeets (s : State) (p : Bundle → Bool) (h : Handle) : Bool :=
  match s.ct.bundle? h with
  | some b => p b
  | none => false

/-- The note transport takes a bundle from the queue: PICKING, and the NTC leaves IDLE (R57, R66). -/
def State.takeFromQueue (s : State) (h : Handle) : State :=
  let s := s.onDpl fun d => { d with queue := d.queue.filter (· != h), rvBlocked := false }
  let s := s.setBundleState h .picking
  let s := s.onNtc fun n => { n with
    current := some h, pendingEnd := none, pick := none, lastPick := none, path := [] }
  s.enterNoteLeader

/-- The DPL examines the queue while the NTC is IDLE and hands the oldest qualifying entry (R57, R58);
the RV-blocked mark and RV_FULL follow R59. -/
def State.examineQueue (s : State) : State :=
  if s.ntc.state = .idle then
    match s.dpl.queue.find? (s.entryMeets fun b => s.mayStart b && s.spaceFor b) with
    | some h => s.takeFromQueue h
    | none =>
      if s.dpl.queue.any (s.entryMeets s.mayStart) then
        let s' := s.onDpl fun d => { d with rvBlocked := true }
        if s.dpl.rvBlocked then s' else s'.setWallFlag .rvFull
      else s.onDpl fun d => { d with rvBlocked := false }
  else s

/-- The NTC enters IDLE and the DPL examines the queue (R58). -/
def State.enterNoteIdle (s : State) : State :=
  (s.onNtc fun n => { n with state := .idle, saved := none }).examineQueue

/-! ## Commits -/

/-- The sequence number after one: 65,535 steps to 0 (R54). -/
def stepSequence (n : Nat) : Nat := if 65535 ≤ n then 0 else n + 1

/-- Commit a plan: the BUNDLE record, the reservations, the queue entry and the sequence number, in one
change (R53, R54). -/
def State.commitPlan (s : State) (l : Lane) (amount : Nat) (parts : List QuotePart) : State × Handle :=
  let bundle : Bundle :=
    ⟨l, amount, s.dpl.sequence, parts.map fun p => ⟨p.stock, p.count, 0⟩, 0, .queued⟩
  let c := s.createRecord (.bundle bundle)
  let s := parts.foldl (fun s p => s.tallyStock p.stock fun st => st.reserve p.count) c.1
  (s.onDpl fun d => { d with sequence := stepSequence d.sequence, queue := d.queue ++ [c.2] }, c.2)

end Sys2Proof.Machine
end

