-- ==== Sys2Proof/Machine/NoteTransport.lean ====
section
/-! DEFINITION. The Note Transport Controller (04): leaders, picks, hand-overs, endings, routing, jams,
pauses, door stops and power warnings. -/

namespace Sys2Proof.Machine

/-! ## The bundle in the transport -/

/-- The state the NTC is in, or the one a pause interrupted (R82). -/
def Ntc.phase (n : Ntc) : NoteState :=
  match n.state with
  | .paused => n.saved.getD .paused
  | st => st

/-- The bundle the NTC is working on, with its record. -/
def State.currentBundle (s : State) : Option (Handle × Bundle) :=
  match s.ntc.current with
  | none => none
  | some h => (s.ct.bundle? h).map fun b => (h, b)

/-- The index in the plan of the part being picked, the first that is short of its notes, from 0 here and from 1
on the link (R65, R67; log entry 61). -/
def State.currentPartIndex (s : State) : Option Nat :=
  match s.currentBundle with
  | some (_, b) => b.parts.findIdx? fun p => p.stacked < p.target
  | none => none

/-- Nothing of a pick is in the transport: no pick outstanding and no item in the path. -/
def Ntc.pathClear (n : Ntc) : Bool := n.pick.isNone && n.path.isEmpty

/-- Motor, picker and dump stop, the run ends, and the picks, items and limits of the work go with it
(R74, R80). -/
def State.haltNote (s : State) : State :=
  (((s.stopNoteMotor).stopDump).runEnd .note).onNtc fun n => { n with
    pick := none, path := [], pickTimer := .stopped, exitTimer := .stopped, waitTimer := .stopped }

/-- Command a pick from the current part's cassette and start the pick limit (R67). -/
def State.commandPick (s : State) : State :=
  match s.currentBundle with
  | none => s
  | some (_, b) =>
    match b.currentPart with
    | none => s
    | some p => s.onNtc fun n => { n with
        pick := some p.stock, lastPick := some p.stock, pickTimer := .running Config.pickLimit }

/-! ## Endings -/

/-- The NTC enters DIVERTING and starts the dump (R75); in PAUSED the saved state becomes DIVERTING and
the motion waits (R82); a power warning keeps the dump from starting (R84). -/
def State.enterDiverting (s : State) : State :=
  if s.ntc.state = .paused then s.onNtc fun n => { n with saved := some .diverting }
  else
    let s := s.onNtc fun n => { n with state := .diverting, saved := none }
    if s.pins.warning then s else s.startDump

/-- The bundle ends in the transport, CANCELLED or FAILED with reason EMPTY, REJECT_LIMIT or
STACKER_TIMEOUT (R74). -/
def State.endBundle (s : State) (e : Ending) : State :=
  match s.currentBundle with
  | none => s
  | some (h, b) =>
    let s := (s.rejectStacked b).retireBundle h e
    let s := s.onNtc fun n => { n with current := none, pendingEnd := none, lastPick := none }
    let s := s.haltNote
    if 0 < s.ntc.stackerCount then s.enterDiverting else s.enterNoteIdle

/-- An ending is decided: kept as pending when none is set, and carried out at once when no item is in
the path and no pick is outstanding (R72, R76). -/
def State.decideEnding (s : State) (e : Ending) : State :=
  match s.ntc.pendingEnd with
  | some _ => s
  | none =>
    if s.ntc.pathClear then s.endBundle e else s.onNtc fun n => { n with pendingEnd := some e }

/-- A cancel that CANCEL_BUNDLE passes to the NTC: it changes nothing while a pending ending is set, an
ending being kept as first decided (R76). -/
def State.cancelInTransport (s : State) : State :=
  if s.ntc.pendingEnd.isSome then s
  else
    match s.ntc.phase with
    | .leader => s.endBundle .cancelled
    | .picking => s.decideEnding .cancelled
    | .stackedWait => s.endBundle .cancelled
    | _ => s

/-- Stocks have become DOUBTFUL in one change; a PICKING bundle that draws on one of them takes the pending
ending FAILED/EMPTY (R72). -/
def State.doubtsDrawn (s : State) (hs : List Handle) : State :=
  match s.currentBundle with
  | none => s
  | some (_, b) =>
    if b.state = .picking && hs.any b.drawsOn then s.decideEnding (.failed .empty) else s

/-- A stock that the PICKING bundle draws on becomes DOUBTFUL with cause OVERDRAWN or MISSING: the
pending ending FAILED/EMPTY (R72). -/
def State.doubtDrawn (s : State) (h : Handle) : State := s.doubtsDrawn [h]

/-- A stock becomes DOUBTFUL outside the NTC's own work, and the PICKING bundle drawing on it is dealt
with in the same change (R9, R62, R72). -/
def State.doubtStockInUse (s : State) (h : Handle) (c : DoubtCause) : State :=
  match s.ct.stock? h with
  | none => s
  | some st =>
    let s' := s.doubtStock h c
    if st.quality.isDoubtful then s' else s'.doubtDrawn h

/-! ## Readiness and routing -/

/-- A lane is ready: drawer HOME, tray EMPTY, no live transit, not locked (R77). -/
def State.laneReady (s : State) (l : Lane) : Bool :=
  (s.ldc.get l).state = .home && !s.pins.tray.get l && (s.ct.transitOf l).isNone && !s.locked l

/-- The bundle is routed into its lane's chute (R77). -/
def State.route (s : State) (h : Handle) (l : Lane) : State :=
  let s := s.setBundleState h .routing
  let s := s.onNtc fun n => { n with state := .routing, stackerCount := 0, waitTimer := .stopped }
  (s.onPins fun p => { p with stackerEmpty := true }).openGate l

/-- The readiness check in STACKED_WAIT (R77); a power warning opens no chute gate (R84). -/
def State.checkReady (s : State) : State :=
  if s.ntc.state = .stackedWait && !s.pins.warning then
    match s.currentBundle with
    | some (h, b) => if s.laneReady b.lane then s.route h b.lane else s
    | none => s
  else s

/-- The bundle is complete and the last item has left the path: STACKED (R69). -/
def State.completeBundle (s : State) : State :=
  match s.currentBundle with
  | none => s
  | some (h, b) =>
    let s := s.haltNote
    let s := s.setBundleState h .stacked
    let s := s.onNtc fun n => { n with
      state := .stackedWait, waitTimer := .running (s.set.stackerWait * 1000), waitPast := 0 }
    (s.setLaneFlag b.lane .bundleStacked).checkReady

/-- What follows when no pick is outstanding and the path is clear in PICKING: the pending ending, the
completion, or the next pick (R67, R69, R74); in PAUSED and under a power warning only an ending is
carried out, and motion waits (R82, R84). -/
def State.pickingOn (s : State) : State :=
  if s.ntc.phase = .picking && s.ntc.pathClear then
    match s.ntc.pendingEnd with
    | some e => s.endBundle e
    | none =>
      if s.ntc.state = .paused || s.pins.warning then s
      else
        match s.currentBundle with
        | none => s
        | some (_, b) => if b.complete then s.completeBundle else s.commandPick
  else s

/-! ## Count changes at a hand-over -/

/-- The stock's change for a counted item: picked_out and in_bundles rise, balance DIRTY, the quality
worsens with the count's, and picked_out above loaded is OVERDRAWN (R68). A GOOD note lowers the
reservation by one; any other item's notes move on to rejected. -/
def Stock.countItem (st : Stock) (good : Bool) (n : Nat) (q : Quality) : Stock :=
  let st := { st with
    pickedOut := st.pickedOut + n, inBundles := st.inBundles + n, balance := .dirty }
  let st := if good then st.release 1 else st.toRejected n
  let st := st.worsen q
  if st.loaded < st.pickedOut then st.worsen (.doubtful .overdrawn) else st

/-- Raise the stacked count of the current part by one. -/
def Bundle.stackOne (b : Bundle) : Bundle :=
  match b.parts.findIdx? fun p => p.stacked < p.target with
  | none => b
  | some i => { b with parts := b.parts.modify i fun p => { p with stacked := p.stacked + 1 } }

/-- The reject limit is met: the pending ending FAILED/REJECT_LIMIT, unless one is set (R73). -/
def State.checkRejectLimit (s : State) : State :=
  match s.currentBundle with
  | none => s
  | some (_, b) =>
    if s.set.rejectLimit ≤ b.rejects && s.ntc.pendingEnd.isNone then
      s.onNtc fun n => { n with pendingEnd := some (.failed .rejectLimit) }
    else s

/-- One change of counts for an item of the current bundle, with the checks of R73 and then R72 (R68);
`learn` applies the GMU's new references. -/
def State.countItem (s : State) (h : Handle) (good : Bool) (n : Nat) (q : Quality)
    (learn : Stock → Stock) : State :=
  match s.ct.stock? h with
  | none => s
  | some old =>
    let k := s.ntc.current.getD 0
    let s := s.changeStock h fun st => (learn st).countItem good n q
    let s :=
      if good then
        let s := s.onBundle k Bundle.stackOne
        let s := s.onNtc fun m => { m with stackerCount := m.stackerCount + 1, diverter := .stack }
        s.onPins fun p => { p with stackerEmpty := false }
      else
        let s := (s.addVault n q).onBundle k fun b => { b with rejects := b.rejects + 1 }
        (s.onNtc fun m => { m with diverter := .reject }).checkRejectLimit
    match s.ct.stock? h with
    | some new => if !old.quality.isDoubtful && new.quality.isDoubtful then s.doubtDrawn h else s
    | none => s

/-! ## Signals of the GMU -/

/-- The last item that a condition holds of, changed. -/
def changeLast (p : PathItem → Bool) (f : PathItem → PathItem) (l : List PathItem) : List PathItem :=
  match l.reverse.findIdx? p with
  | none => l
  | some i => (l.reverse.modify i f).reverse

/-- An item joins the path. -/
def State.joinPath (s : State) (it : PathItem) : State :=
  s.onNtc fun n => { n with path := n.path ++ [it] }

/-- An item starts (R66, R67, R81): in a leader it is unexpected and let pass to the reject branch, and the
leader's pulses start anew (of a clear or restart: model's choice, log entry 76); in
PICKING it is the outstanding pick's, or, with none outstanding, an unexpected item of picking charged
as one ESTIMATED note; one before the bundle's first pick command has no stock to be charged to, and is charged to
none (log entry 57). -/
def State.noteItemStart (s : State) : State :=
  match s.ntc.state with
  | .leader =>
    let s := s.joinPath ⟨none, true, false⟩
    let s := s.onNtc fun n => { n with leader := { n.leader with pulses := 0, itemSeen := true } }
    if s.ntc.current.isSome then s.worsenVault (.doubtful .jam) else s
  | .picking =>
    match s.ntc.pick with
    | some h =>
      let s := s.joinPath ⟨some h, false, false⟩
      let s := s.onNtc fun n => { n with pick := none, pickTimer := .stopped }
      match s.ct.stock? h with
      | some st => s.onNtc fun n => { n with pickFails := n.pickFails.put st.pos 0 }
      | none => s
    | none =>
      let s := s.joinPath ⟨s.ntc.lastPick, true, false⟩
      match s.ntc.lastPick with
      | some h => s.countItem h false 1 .estimated id
      | none => s
  | _ => s

/-- The hand-over of a classified note (R39, R68). -/
def State.noteHandover (s : State) (ref : ItemStock) (m : Measure) (atLimit : Bool) : State :=
  let c := classifyNote m atLimit ref.tRef ref.lRef s.set.lengthTolerance.value s.set.skewNote.value
  let s := s.onNtc fun n => { n with
    path := changeLast (fun p => !p.counted) (fun p => { p with counted := true }) n.path }
  if c = .good then s.countItem ref.stock true 1 .exact fun st => st.learn ref m
  else s.countItem ref.stock false (countedNotes c m ref.tRef ref.lRef) (countQuality c) id

/-- An item's end: the diverter-exit limit starts (R67), and a leader's 64 pulses start anew (R66; of a clear or
restart: model's choice, log entry 76). -/
def State.noteItemEnd (s : State) : State :=
  s.onNtc fun n => { n with
    path := changeLast (fun p => !p.ended) (fun p => { p with ended := true }) n.path
    exitTimer := .running Config.exitLimit
    leader := { n.leader with pulses := 0 } }

/-! ## Jams, door stops and failures -/

/-- The items that started on a pick and were not handed over (R80). -/
def Ntc.uncounted (n : Ntc) : List Handle :=
  (n.path.filter fun p => !p.counted).filterMap (·.stock)

/-- An item not handed over is charged as one note to picked_out and rejected, balance DIRTY (R80). -/
def Stock.chargeLost (st : Stock) : Stock :=
  { st with pickedOut := st.pickedOut + 1, rejected := st.rejected + 1, balance := .dirty }

/-- The current bundle fails in the transport: its stacked notes and the item not handed over are charged
to the vault, its plan's stocks become DOUBTFUL, and it is retired (R80, R83, R84). `vault` tells whether
the reject vault becomes DOUBTFUL when no notes were charged. -/
def State.failBundle (s : State) (h : Handle) (b : Bundle) (c : DoubtCause) (r : FailReason)
    (vault : Bool) : State :=
  let lost := s.ntc.uncounted
  let s := (s.moveStacked b.parts Stock.toRejected).releaseParts b.parts
  let s := lost.foldl (fun s k => s.tallyStock k Stock.chargeLost) s
  let n := b.stackedSum + lost.length
  let s := s.addVault n .exact
  let s := s.doubtPlan b c
  let s := if vault || 0 < n then s.worsenVault (.doubtful c) else s
  s.retireBundle h (.failed r)

/-- The NTC stops and enters JAMMED, failing any current bundle; TRANSPORT_JAM is set after the change
(R80, R83, R84). With no current bundle, the reject vault alone becomes DOUBTFUL when `vault`. -/
def State.stopTransport (s : State) (c : DoubtCause) (r : FailReason) (vault : Bool) : State :=
  let s := match s.currentBundle with
    | some (h, b) => s.failBundle h b c r vault
    | none => if vault then s.worsenVault (.doubtful c) else s
  let s := (s.haltNote).closeGate
  let s := s.onNtc fun n => { n with
    state := .jammed, saved := none, current := none, pendingEnd := none, lastPick := none }
  s.setWallFlag .transportJam

/-- A jam of the note transport (R80). -/
def State.noteJam (s : State) : State := s.stopTransport .jam .jam true

/-- A restart leader has not begun: the NTC is in LEADER, or in PAUSED with LEADER saved, with the motor
stopped since power-on (R65, R175, R177). -/
def Ntc.restartWaits (n : Ntc) : Bool := n.phase = .leader && !n.leader.started && n.current.isNone

/-- A hold on the DISPENSER or REJECT area takes effect (R83). `already` tells that a hold set of the two was
not empty before it: a restart leader that waits for the holds then is stopped already, and goes on waiting
until both sets are empty (R65, R155; log entry 17). -/
def State.noteDoorStop (s : State) (already : Bool) : State :=
  if already && s.ntc.restartWaits then s
  else
    match s.ntc.phase with
    | .leader | .picking | .stackedWait | .diverting => s.stopTransport .door .door false
    | _ => s

/-! ## The leaders of a clear and of a restart -/

/-- The clear ends (R81): IDLE when no item was seen and the stacker reads empty, JAMMED otherwise;
TRANSPORT_JAM is set after either end. -/
def State.finishClear (s : State) : State :=
  if s.ntc.leader.itemSeen then
    let s := s.worsenVault (.doubtful .jam)
    let s := s.haltNote
    (s.onNtc fun n => { n with state := .jammed, saved := none }).setWallFlag .transportJam
  else
    let s := s.haltNote
    ((s.onNtc fun n => { n with stackerCount := 0 }).setWallFlag .transportJam).enterNoteIdle

/-- The leader ends (R66, R81). Before a stacker dump at the end of a clear's or a restart's leader the motor
stops and the run ends: R81 does not say whether they go on through the dump (log entry 43). -/
def State.noteLeaderDone (s : State) : State :=
  match s.ntc.current with
  | some _ =>
    let s := s.onNtc fun n => { n with state := .picking }
    if s.ntc.pendingEnd.isSome then s.pickingOn else s.commandPick
  | none =>
    if s.pins.stackerEmpty then s.finishClear
    else
      let s := ((s.stopNoteMotor).runEnd .note).onNtc fun n => { n with
        leader := { n.leader with dumping := true } }
      s.startDump

/-- The restart leader that waits in LEADER begins once the DISPENSER and REJECT hold sets are empty and no
power warning is active (R65, R175). -/
def State.startRestartNote (s : State) : State :=
  if s.ntc.state = .leader && s.ntc.restartWaits && s.ct.holdDispenser = 0 && s.ct.holdReject = 0 && !s.pins.warning then
    s.enterNoteLeader
  else s

/-! ## Pause and power warning -/

/-- Motor, picker and dump stop and every running timer keeps its time left (R82, R84). -/
def State.suspendNote (s : State) : State :=
  (s.onNtc fun n => { n with
    motor := false, dump := false, stallTimer := n.stallTimer.freeze
    pickTimer := n.pickTimer.freeze, exitTimer := n.exitTimer.freeze
    waitTimer := n.waitTimer.freeze, dumpTimer := n.dumpTimer.freeze }).followVibration

/-- A pause comes into force (R82). -/
def State.pauseNote (s : State) : State :=
  match s.ntc.state with
  | .leader | .picking | .stackedWait | .diverting =>
    (s.onNtc fun n => { n with state := .paused, saved := some n.state }).suspendNote
  | _ => s

/-- The work of a state goes on: what was stopped restarts and each timer goes on from its time left (R82).
A leader whose run is in progress goes on, a restart leader that has not begun waits for its hold sets
(R65), and any other starts. A dump goes on whatever level the stacker was found at in the pause (log entry
71). -/
def State.restartNoteWork (s : State) : State :=
  match s.ntc.state with
  | .leader =>
    if s.ntc.leader.dumping then
      (s.onNtc fun n => { n with
        dump := true, dumpTimer := n.dumpTimer.thaw, exitTimer := n.exitTimer.thaw }).followVibration
    else if s.gmu.note.run then
      (s.onNtc fun n => { n with exitTimer := n.exitTimer.thaw }).rerunNoteMotor
    else if s.ntc.restartWaits then s.startRestartNote
    else s.startNoteLeader
  | .picking =>
    ((s.onNtc fun n => { n with
      pickTimer := n.pickTimer.thaw, exitTimer := n.exitTimer.thaw }).rerunNoteMotor).pickingOn
  | .stackedWait => (s.onNtc fun n => { n with waitTimer := n.waitTimer.thaw }).checkReady
  | .diverting =>
    match s.ntc.dumpTimer with
    | .frozen t =>
      (s.onNtc fun n => { n with dump := true, dumpTimer := .running t }).followVibration
    | _ => s.startDump
  | _ => s

/-- The pause lifts (R82); a power warning keeps the motion from restarting (R84). -/
def State.resumeNote (s : State) : State :=
  match s.ntc.state, s.ntc.saved with
  | .paused, some st =>
    let s := s.onNtc fun n => { n with state := st, saved := none }
    if s.pins.warning then s else s.restartNoteWork
  | _, _ => s

/-- A power warning begins: mechanisms and timers stop, the run ends, the state is kept; PAUSED is left
for the saved state (R84). A restart leader that has not begun is a kept LEADER like any other, which the
warning's end makes JAMMED: R175 has a leader begin there only after a warning that was active at
power-on. -/
def State.warnNote (s : State) : State :=
  let s := s.onNtc fun n => { n with
    state := n.phase, saved := none, leader := { n.leader with started := true }
    chuteTimer := n.chuteTimer.freeze }
  s.suspendNote.runEnd .note

/-- The power warning ends with the supply kept (R84, R175). A restart leader that a warning active at
power-on held back begins. In STACKED_WAIT the wait resumes and the readiness check is made, for which R84
does not say a word (log entry 44). -/
def State.endWarnNote (s : State) : State :=
  let s := s.onNtc fun n => { n with chuteTimer := n.chuteTimer.thaw }
  match s.ntc.phase with
  | .leader =>
    if s.ntc.restartWaits then s.startRestartNote else s.stopTransport .power .power true
  | .picking | .diverting => s.stopTransport .power .power true
  | .stackedWait =>
    if s.ntc.state = .paused then s
    else (s.onNtc fun n => { n with waitTimer := n.waitTimer.thaw }).checkReady
  | .idle => s.examineQueue
  | _ => s

/-! ## Pick failure -/

/-- Substitute for a stock that became DOUBTFUL(PICK_FAIL): the current part is closed and the first
candidate of the same denomination, not named in the plan and with enough available, is appended; with
none, or five parts, the bundle fails with reason EMPTY (R71). -/
def State.substitute (s : State) (h : Handle) (denom : Nat) : State :=
  match s.currentBundle with
  | none => s
  | some (k, b) =>
    match b.parts.find? fun p => p.stock = h && decide (p.stacked < p.target) with
    | none => s.pickingOn
    | some p =>
      let missing := p.target - p.stacked
      match s.candidates.find? fun c =>
        c.denom = denom && !b.names c.handle && decide (missing ≤ c.available) with
      | some c =>
        if b.parts.length < 5 then
          let s := s.onBundle k fun b => { b with
            parts := (b.parts.map fun q => if q.stock = h then { q with target := q.stacked } else q)
              ++ [⟨c.handle, missing, 0⟩] }
          let s := s.tallyStock h fun st => st.release missing
          let s := s.tallyStock c.handle fun st => st.reserve missing
          s.commandPick
        else s.decideEnding (.failed .empty)
      | none => s.decideEnding (.failed .empty)

/-- The pick limit runs out with no item started (R70). -/
def State.failPick (s : State) : State :=
  match s.ntc.state, s.ntc.pick with
  | .picking, some h =>
    let s := s.onNtc fun n => { n with pick := none, pickTimer := .stopped }
    match s.ct.stock? h with
    | none => s.pickingOn
    | some st =>
      let fails := s.ntc.pickFails.get st.pos + 1
      if fails < s.set.pickRetry then
        let s := s.onNtc fun n => { n with pickFails := n.pickFails.put st.pos fails }
        if s.ntc.pendingEnd.isSome then s.pickingOn else s.commandPick
      else
        let s := s.onNtc fun n => { n with pickFails := n.pickFails.put st.pos 0 }
        let s := s.doubtStock h .pickFail
        if s.ntc.pendingEnd.isSome then s.pickingOn else s.substitute h st.denom
  | _, _ => s

/-! ## Diverter and stacker -/

/-- The oldest item leaves the diverter; the limit stops unless a further ended item is still in the
path, and what is due follows (R67). -/
def State.exitDiverter (s : State) : State :=
  match s.ntc.path with
  | [] => s
  | it :: rest =>
    if it.ended then
      let s := s.onNtc fun n => { n with
        path := rest, exitTimer := if rest.any (·.ended) then n.exitTimer else .stopped }
      match s.ntc.phase, s.ntc.pendingEnd with
      | .leader, some e => if s.ntc.pathClear then s.endBundle e else s
      | _, _ => s.pickingOn
    else s

/-- The stacker reads empty (R75, R81). A report that finds the dump stopped by a pause keeps the level alone, and
the dump goes on at the lift (log entry 71). -/
def State.emptyStacker (s : State) : State :=
  let s := s.onPins fun p => { p with stackerEmpty := true }
  if s.ntc.dump then
    let s := s.stopDump
    match s.ntc.state with
    | .diverting => (s.onNtc fun n => { n with stackerCount := 0 }).enterNoteIdle
    | .leader => s.finishClear
    | _ => s
  else s

/-- STACKER_WAIT runs out in STACKED_WAIT (R79). -/
def State.stackerWaitOut (s : State) : State :=
  if s.ntc.state = .stackedWait && s.ntc.waitTimer.isRunning then
    s.endBundle (.failed .stackerTimeout)
  else s

end Sys2Proof.Machine
end

