-- ==== Sys2Proof/Machine/Capture.lean ====
section
/-! DEFINITION. The Envelope Capture Controller (06): throats, the arbiter, intake, capture, bin roles,
returns, recapture, jams, clears, pauses and power warnings. -/

namespace Sys2Proof.Machine

/-! ## Throats and the open condition -/

/-- The throats' open condition (R106). -/
def State.openCondition (s : State) : Bool :=
  s.set.captureEnable = 1 && s.ct.activeBin.isSome && s.ct.holdCapture = 0 && !s.zoneInForce 11
    && s.ecc.state != .jammed && !s.grantOpen .capture && !s.pins.warning

/-- Change one throat. -/
def State.onThroat (s : State) (t : Throat) (f : ThroatUnit → ThroatUnit) : State :=
  s.onEcc fun e => { e with throats := e.throats.put t (f (e.throats.get t)) }

/-- A throat as the open condition leaves it: a CLOSED one opens, an OPEN one closes, and a throat in any
other state keeps its state (R106). -/
def ThroatUnit.offer (u : ThroatUnit) (holds here : Bool) : ThroatUnit :=
  match u.state with
  | .closed =>
    if holds then { u with state := if here then .waiting else .opened, shutterOpen := true } else u
  | .opened => if holds then u else { u with state := .closed, shutterOpen := false }
  | _ => u

/-- The open condition is examined and both throats follow it (R106). -/
def State.examineThroats (s : State) : State :=
  let holds := s.openCondition
  let s := s.onThroat .t1 fun u => u.offer holds s.pins.throat.t1
  s.onThroat .t2 fun u => u.offer holds s.pins.throat.t2

/-- A throat that holds no envelope: OPEN when the open condition holds, and otherwise CLOSED with its
shutter closed (R107, R113). -/
def ThroatUnit.settle (u : ThroatUnit) (holds : Bool) : ThroatUnit :=
  { u with
    state := if holds then .opened else .closed, shutterOpen := holds
    wait := .stopped, overdue := false, kept := none }

/-- A throat settles by the open condition (R107, R113). -/
def State.settleThroat (s : State) (t : Throat) : State :=
  s.onThroat t fun u => u.settle s.openCondition

/-! ## The transport's leader and the arbiter -/

/-- The transport's state, or the one a pause interrupted (R119). -/
def Ecc.phase (e : Ecc) : EnvState :=
  match e.state with
  | .paused => e.saved.getD .paused
  | st => st

/-- A restart leader has not begun: the transport is in LEADER, or in PAUSED with LEADER saved, with the motor
stopped since power-on (R105, R175, R177). -/
def Ecc.restartWaits (e : Ecc) : Bool := e.phase = .leader && !e.leader.started && e.current.isNone

/-- The bin that a leader's selector is set to: the ACTIVE bin, or B1 when no bin is ACTIVE (R109, R118). -/
def State.leaderBin (s : State) : BinId :=
  match s.ct.activeBin with
  | some (_, v) => v.bin
  | none => .b1

/-- A leader of the envelope transport starts: motor, feeds stopped, run start (R109, R118). -/
def State.startEnvLeader (s : State) : State :=
  ((s.onEcc fun e => { e with
      state := .leader, saved := none, feed := .stopped, selector := s.leaderBin
      leader := Leader.fresh }).startEnvMotor).runStart .envelope

/-- The transport enters LEADER and runs it. While a pause is in force it enters PAUSED with LEADER saved, and
the leader runs at the lift (R119); under a power warning nothing moves, and the warning's end ends the
leader (R120). The leader of a throat taken or of a clear counts as begun in both, so a CAPTURE hold or a warning's
end then ends it unrun (R111, R119, R120; log entry 28); a restart leader that a pause holds up does not come here
(`State.startRestartEnv`; log entry 78). -/
def State.enterEnvLeader (s : State) : State :=
  if s.pauseInForce then
    s.onEcc fun e => { e with
      state := .paused, saved := some .leader, feed := .stopped, selector := s.leaderBin
      leader := Leader.fresh }
  else if s.pins.warning then
    s.onEcc fun e => { e with
      state := .leader, saved := none, feed := .stopped, selector := s.leaderBin
      leader := Leader.fresh }
  else s.startEnvLeader

/-- The arbiter takes a throat, for recapture when `recapture`, for intake otherwise (R108); an overdue
throat keeps its measurements until the envelope is captured or returned, and they are the current envelope's
meanwhile (log entry 72). -/
def State.takeThroat (s : State) (t : Throat) (recapture : Bool) : State :=
  let kept := if recapture then (s.ecc.throats.get t).kept else none
  let s := s.onThroat t fun u => { u with state := .intake, wait := .stopped, overdue := false }
  let s := s.onEcc fun e => { e with
    current := some ⟨t, recapture, none, kept, none, none, false, false, false, false, false⟩
    lastServed := t
    inFlight := true }
  s.enterEnvLeader

/-- The throats in the order in which the arbiter prefers them: the last-served one last (R108). -/
def Ecc.order (e : Ecc) : List Throat := [e.lastServed.other, e.lastServed]

/-- The overdue throat that the arbiter would take: only with an ACTIVE bin that is not held (R108). -/
def State.overdueThroat (s : State) : Option Throat :=
  if s.ct.activeBin.isSome && s.ct.holdCapture = 0 then
    s.ecc.order.find? fun t =>
      (s.ecc.throats.get t).state = .returnWait && (s.ecc.throats.get t).overdue
  else none

/-- The WAITING throat that the arbiter would take: only while the open condition holds (R108). -/
def State.waitingThroat (s : State) : Option Throat :=
  if s.openCondition then s.ecc.order.find? fun t => (s.ecc.throats.get t).state = .waiting else none

/-- The arbiter examines the throats (R108). -/
def State.arbitrate (s : State) : State :=
  if s.ecc.state = .idle && !s.pins.warning && s.azu.grants.capture.state = .closed then
    match s.overdueThroat with
    | some t => s.takeThroat t true
    | none =>
      match s.waitingThroat with
      | some t => s.takeThroat t false
      | none => s
  else s

/-- What a change does through the open condition: `before` tells whether it held before the change
(R106, R108). -/
def State.followOpen (s : State) (before : Bool) : State :=
  if before = s.openCondition then s
  else if s.openCondition then s.examineThroats.arbitrate
  else s.examineThroats

/-! ## Ends of the transport's work -/

/-- The run ends and the limits of the work stop; the motor and the feeds stop, the feed of an intake not sooner
(log entry 59). -/
def State.haltEnv (s : State) : State :=
  ((s.stopEnvMotor).runEnd .envelope).onEcc fun e => { e with
    intakeTimer := .stopped, forwardTimer := .stopped
    returnTimer := .stopped, recaptureTimer := .stopped }

/-- The transport enters IDLE: the current envelope is absent and the in-flight mark cleared (R105). -/
def State.enterEnvIdle (s : State) : State :=
  s.onEcc fun e => { e with state := .idle, saved := none, current := none, inFlight := false }

/-- The transport stops into JAMMED: the current envelope is not recorded, the ACTIVE bin becomes
DOUBTFUL, the served throat enters WAITING or CLOSED by its sensor, and TRANSPORT_JAM is set after the
change (R117, R120). -/
def State.stopEnvTransport (s : State) (c : DoubtCause) : State :=
  let before := s.openCondition
  let s := (s.haltEnv).doubtActiveBin c
  let s := match s.ecc.current with
    | none => s
    | some e =>
      if s.pins.throat.get e.throat then
        s.onThroat e.throat fun u => { u with
          state := .waiting, wait := .stopped, overdue := false, kept := none }
      else
        s.onThroat e.throat fun u => { u with
          state := .closed, shutterOpen := false, wait := .stopped, overdue := false, kept := none }
  let s := s.onEcc fun e => { e with
    state := .jammed, saved := none, current := none, inFlight := false }
  (s.followOpen before).setWallFlag .transportJam

/-- A jam of the envelope transport (R117). -/
def State.envJam (s : State) : State := s.stopEnvTransport .jam

/-- A throat taken for recapture goes back to RETURN_WAIT, overdue, with the measurements it kept (R111,
R116, R120), its shutter open (log entry 65). -/
def State.backToOverdue (s : State) (t : Throat) : State :=
  s.onThroat t fun u => { u with
    state := .returnWait, shutterOpen := true, wait := .stopped, overdue := true }

/-- A throat whose envelope was not drawn in goes back to WAITING with its shutter open (R109, R111), also when
R107 closed it in the leader (log entry 65). -/
def State.backToWaiting (s : State) (t : Throat) : State :=
  s.onThroat t fun u => { u with state := .waiting, shutterOpen := true }

/-- The leader of a clear or of a restart ends (R105, R118). -/
def State.finishEnvClear (s : State) : State :=
  if s.ecc.leader.itemSeen then
    let before := s.openCondition
    let s := (s.haltEnv).doubtActiveBin .jam
    let s := s.onEcc fun e => { e with
      state := .jammed, saved := none, current := none, inFlight := false }
    (s.followOpen before).setWallFlag .transportJam
  else
    (((s.haltEnv).enterEnvIdle).setWallFlag .transportJam).examineThroats.arbitrate

/-- A leader ends before its feed has started, at a CAPTURE hold or at the end of a power warning: the served
throat goes back to WAITING or RETURN_WAIT and the transport enters IDLE (R111, R120); with no throat
served, the clear or the restart ends as R118 states (log entry 28). -/
def State.dropLeader (s : State) : State :=
  match s.ecc.current with
  | none => s.finishEnvClear
  | some e =>
    let s := (s.haltEnv).enterEnvIdle
    if e.recapture then s.backToOverdue e.throat else s.backToWaiting e.throat

/-! ## Returns -/

/-- The envelope stands at the mouth: the return (R115). -/
def State.completeReturn (s : State) : State :=
  match s.ecc.current with
  | none => s
  | some e =>
    let s := s.haltEnv
    let s := s.onThroat e.throat fun u => { u with
      state := .returnWait, shutterOpen := true, wait := .running Config.returnWait
      overdue := false, kept := e.meas }
    s.enterEnvIdle.arbitrate

/-- The transport reverses (R115): out of measuring travel, transport and feed in reverse, the return
limit started, the served throat RETURNING with its shutter open; a motor that a pause stopped runs again with
its encoder-stall limit from its time left (R119). A sensor that reads PRESENT ends the return at once. -/
def State.startReverse (s : State) : State :=
  match s.ecc.current with
  | none => s
  | some e =>
    let s := s.setMeasuring .envelope false
    let s := if s.ecc.motor then s else s.rerunEnvMotor
    let s := s.onEcc fun x => { x with
      state := .reversing, saved := none, feed := .reverse
      intakeTimer := .stopped, forwardTimer := .stopped, recaptureTimer := .stopped
      returnTimer := .running Config.returnLimit }
    let s := s.onThroat e.throat fun u => { u with state := .returning, shutterOpen := true }
    if s.pins.throat.get e.throat then s.completeReturn else s

/-- The transport enters REVERSING; a reversal that a pause holds up waits for the lift (R119), and one
that a power warning holds up starts no motion (R120). -/
def State.reverseEnv (s : State) : State :=
  if s.ecc.state = .paused then
    s.onEcc fun e => { e with
      saved := some .reversing, intakeTimer := .stopped, forwardTimer := .stopped
      recaptureTimer := .stopped, returnTimer := .stopped }
  else if s.pins.warning then
    s.onEcc fun e => { e with state := .reversing }
  else s.startReverse

/-! ## The destination -/

/-- Whether a bin is available: live, ACTIVE or STANDBY, not held (R111); `activeOnly` for a recapture
(R116). -/
def State.binAvailable (s : State) (b : BinId) (activeOnly : Bool) : Bool :=
  match s.ct.binAt b with
  | some (_, v) =>
    (v.role = .active || (v.role = .standby && !activeOnly)) && s.ct.holdCapture = 0
  | none => false

/-- The bin of a role that is available. -/
def State.binWithRole (s : State) (r : BinRole) : Option BinId :=
  [BinId.b1, BinId.b2].find? fun b =>
    s.binAvailable b false &&
      match s.ct.binAt b with
      | some (_, v) => v.role = r
      | none => false

/-- The destination: the ACTIVE bin when it is available, otherwise the STANDBY bin, otherwise none
(R111); for a recapture only the ACTIVE bin (R116). -/
def State.chooseBin (s : State) (activeOnly : Bool) : Option BinId :=
  match s.binWithRole .active with
  | some b => some b
  | none => if activeOnly then none else s.binWithRole .standby

/-- The destination as it stands: kept while it is available, and chosen anew otherwise (R111). -/
def State.destination (s : State) (e : CurrentEnv) : Option BinId :=
  match e.dest with
  | some b => if s.binAvailable b e.recapture then some b else s.chooseBin e.recapture
  | none => s.chooseBin e.recapture

/-- Change the current envelope. -/
def State.onCurrent (s : State) (f : CurrentEnv → CurrentEnv) : State :=
  s.onEcc fun e => { e with current := e.current.map f }

/-- The destination is examined before gate passage, when a CAPTURE hold takes effect or a bin's role
changes (R111, R117): an envelope in LEADER goes back to its throat, one in MEASURING is returned, and
one on its way goes to the new choice or is returned. `held` tells that a hold takes effect. -/
def State.recheckDestination (s : State) (held : Bool) : State :=
  match s.ecc.phase, s.ecc.current with
  | .leader, _ => if held && !s.ecc.restartWaits then s.dropLeader else s
  | .measuring, some _ => if held then s.reverseEnv else s
  | .forward, some e =>
    if e.number.isSome then s
    else
      match s.destination e with
      | some b => s.onCurrent fun e => { e with dest := some b }
      | none => s.reverseEnv
  | .recapture, some e =>
    if e.number.isSome then s
    else
      match s.destination e with
      | some b => s.onCurrent fun e => { e with dest := some b }
      | none => s.reverseEnv
  | _, _ => s

/-! ## Signals of the GMU -/

/-- An item of the envelope transport starts (R109, R117, R118). In a leader, of a throat, of a clear or of a
restart, its pulses start anew (of a clear or restart: model's choice, log entry 77). -/
def State.envItemStart (s : State) : State :=
  match s.ecc.state with
  | .leader =>
    let s := s.onEcc fun e => { e with leader := { e.leader with pulses := 0, itemSeen := true } }
    if s.ecc.current.isSome then s.doubtActiveBin .jam else s
  | .measuring =>
    match s.ecc.current with
    | some e =>
      if e.itemEnded then s.envJam
      else
        (s.onCurrent fun e => { e with itemStarted := true }).onEcc fun e => { e with
          intakeTimer := .stopped }
    | none => s
  | .forward => s.envJam
  | _ => s

/-- The hand-over of an envelope's class and measurements (R110, R43). -/
def State.envHandover (s : State) (m : Measure) (atLimit : Bool) : State :=
  if s.ecc.state = .measuring && s.ecc.current.isSome then
    let c := classifyEnvelope s.set m atLimit
    let s := s.onCurrent fun e => { e with cls := some c, meas := some m }
    match c with
    | .handBack _ => s.reverseEnv
    | .accept =>
      match s.chooseBin false with
      | none => s.reverseEnv
      | some b =>
        (s.onCurrent fun e => { e with dest := some b }).onEcc fun e => { e with
          state := .forward, forwardTimer := .running Config.forwardLimit }
  else s

/-- An item's end on the envelope transport (R31, R109). In a leader it is an unexpected item's, not the
envelope's: of an intake's own leader, or of the throat that the arbiter took when the item's hand-over
ended a return (R109, R115). The leader's 64 pulses then start anew from this end: R109 says so for an intake's
leader, and that the leader of a clear (R118) or of a restart (R105) is extended in the same way is the model's
choice (log entry 77). -/
def State.envItemEnd (s : State) : State :=
  (s.onCurrent fun e => { e with itemEnded := e.itemEnded || s.ecc.phase != .leader }).onEcc fun e =>
    { e with leader := { e.leader with pulses := 0 } }

/-! ## Stops of a pause and of a power warning -/

/-- The imprinter's drive: it prints from the command of a gate passage to its report (R112), and is stopped
in PAUSED, until the lift restarts what was stopped (R119), and under a power warning, whose end leaves no
envelope to print (R120); in JAMMED there is none either (R117). Like the relays of R151 this output is a
function of the state. -/
def State.imprinterOn (s : State) : Bool :=
  (s.ecc.current.any (·.printing)) && s.ecc.state != .paused && !s.pins.warning

/-- Motor and feeds stop and every transport timer keeps its time left; with PAUSED or the warning that calls
for this the imprinter stops too (`State.imprinterOn`; R119, R120). -/
def State.suspendEnv (s : State) : State :=
  (s.onEcc fun e => { e with
    motor := false, feed := .stopped, stallTimer := e.stallTimer.freeze
    intakeTimer := e.intakeTimer.freeze, forwardTimer := e.forwardTimer.freeze
    returnTimer := e.returnTimer.freeze, recaptureTimer := e.recaptureTimer.freeze }).followVibration

/-- A pause comes into force (R119). -/
def State.pauseEnv (s : State) : State :=
  match s.ecc.state with
  | .leader | .measuring | .forward | .reversing | .recapture =>
    (s.onEcc fun e => { e with state := .paused, saved := some e.state }).suspendEnv
  | _ => s

/-! ## Leader ends -/

/-- The leader ends (R109, R116, R118): the feed starts into MEASURING or RECAPTURE under its limit, or a
clear or restart ends. -/
def State.envLeaderDone (s : State) : State :=
  match s.ecc.current with
  | none => s.finishEnvClear
  | some c =>
    let s := s.onCurrent fun e => { e with sensorAtFeed := s.pins.throat.get e.throat }
    if c.recapture then
      ((s.setMeasuring .envelope false).onCurrent fun e => { e with
        dest := s.ct.activeBin.map fun (_, v) => v.bin }).onEcc fun e => { e with
          state := .recapture, feed := .inward, recaptureTimer := .running Config.recaptureLimit }
    else
      s.onEcc fun e => { e with
        state := .measuring, feed := .inward, intakeTimer := .running Config.intakeLimit }

/-- A restart leader that waits in LEADER begins once the CAPTURE hold set is empty and no power warning is
active (R105, R175). While a pause is in force, as when a power warning that had ended its PAUSED is over, it
enters PAUSED with LEADER saved (R119, R177) and has still not begun: a CAPTURE hold or a further warning leaves it
waiting, and it begins at the lift (model's choice, log entry 78). -/
def State.startRestartEnv (s : State) : State :=
  if s.ecc.state = .leader && s.ecc.restartWaits && s.ct.holdCapture = 0 && !s.pins.warning then
    if s.pauseInForce then s.pauseEnv else s.enterEnvLeader
  else s

/-! ## Intake, gate and bins -/

/-- The intake limit runs out (R109). -/
def State.intakeOut (s : State) : State :=
  match s.ecc.state, s.ecc.current with
  | .measuring, some e =>
    if s.ecc.intakeTimer.isRunning then
      let s := s.haltEnv
      let s := if s.pins.throat.get e.throat then s.backToWaiting e.throat else s.settleThroat e.throat
      s.enterEnvIdle.arbitrate
    else s
  | _, _ => s

/-- The capture number after a number: 999,999 steps to 1 (R112). -/
def stepNumber (n : Nat) : Nat := if 999999 ≤ n then 1 else n + 1

/-- The gate passage: the selector is set, the next capture number is taken, and the imprinter is
commanded when IMPRINT is on (R112). -/
def State.passGate (s : State) (b : BinId) : State :=
  let n := s.ecc.nextNumber
  (s.onEcc fun e => { e with selector := b, nextNumber := stepNumber n }).onCurrent fun e => { e with
    dest := some b, number := some n, printing := s.set.imprint = 1 }

/-- The gate sensor reports the envelope: its destination is examined once more (R111, R112, R116). Under a power
warning it does the same, and in PAUSED the report changes nothing (log entry 66). -/
def State.gateReport (s : State) : State :=
  match s.ecc.state, s.ecc.current with
  | .forward, some e | .recapture, some e =>
    if e.number.isSome then s
    else
      match s.destination e with
      | some b => s.passGate b
      | none => s.reverseEnv
  | _, _ => s

/-- The imprinter reports (R112). -/
def State.imprinterSays (s : State) (printed : Bool) : State :=
  s.onCurrent fun e => { e with printing := false, imprinted := e.imprinted || (e.printing && printed) }

/-- A bin takes an envelope: its count rises by one and its height by T (R113). -/
def Bin.stack (v : Bin) (t : Nat) : Bin := { v with count := v.count + 1, height := v.height + t }

/-- A count at capacity or a height at the limit fills the bin (R114). -/
def Bin.filled (v : Bin) : Bool := v.capacity ≤ v.count || v.heightLimit ≤ v.height

/-- The other bin, when it is live and STANDBY, becomes ACTIVE and BIN_SWITCH is set; otherwise `none`
tells that no bin is ACTIVE (R114). -/
def State.switchBins (s : State) (b : BinId) : Option State :=
  match s.ct.binAt b.other with
  | some (_, v) =>
    if v.role = .standby then
      some ((s.onBin b.other fun v => { v with role := .active }).setWallFlag .binSwitch)
    else none
  | none => none

/-- The fill of a bin is judged after a stacking (R114). -/
def State.judgeFill (s : State) (b : BinId) : State :=
  match s.ct.binAt b with
  | none => s
  | some (_, v) =>
    if v.filled then
      let s := s.onBin b fun v => { v with role := .full }
      if v.role = .active then (s.switchBins b).getD (s.setWallFlag .binFull) else s
    else s

/-- The ENVELOPE record of the current envelope (R113, R116). -/
def CurrentEnv.record (e : CurrentEnv) (n : Nat) (h : Handle) (b : BinId) : Envelope :=
  let m := e.meas.getD ⟨0, 0, 0, false⟩
  ⟨n, e.throat, .inBin h b, m.ls, m.t, e.imprinted, e.recapture, false, .exact⟩

/-- The envelope is captured (R113): its record is created, the bin's figures rise, the run ends, the
throat settles, and the bin's fill is judged (R114). -/
def State.capture (s : State) (e : CurrentEnv) (n : Nat) (h : Handle) (b : BinId) : State :=
  let before := s.openCondition
  let r := e.record n h b
  let s := (s.createRecord (.envelope r)).1
  let s := s.onBin b fun v => v.stack r.thickness
  let s := (s.haltEnv).settleThroat e.throat
  let s := (s.enterEnvIdle).setWallFlag .envelopeCaptured
  ((s.judgeFill b).followOpen before).arbitrate

/-- A bin-entry sensor reports (R113, R118): the current envelope past the gate, in its destination, is
captured, under a power warning (R120) and in PAUSED (log entry 66) too; anything else is an uncounted item,
which makes the bin's record DOUBTFUL(JAM). -/
def State.binReport (s : State) (b : BinId) : State :=
  match s.ecc.current with
  | some e =>
    match e.number, s.ct.binAt b with
    | some n, some (h, _) => if e.dest = some b then s.capture e n h b else s.doubtBin b .jam
    | _, _ => s.doubtBin b .jam
  | none => s.doubtBin b .jam

/-- The recapture limit runs out (R116): by the throat sensor a removal, a failed feed or a jam. A sensor that
reads PRESENT now is a failed feed whatever it read at the start of the feed (log entry 64). -/
def State.recaptureOut (s : State) : State :=
  match s.ecc.state, s.ecc.current with
  | .recapture, some e =>
    if s.ecc.recaptureTimer.isRunning then
      if s.pins.throat.get e.throat then
        ((s.haltEnv).backToOverdue e.throat).enterEnvIdle.arbitrate
      else if e.sensorAtFeed then s.envJam
      else ((s.haltEnv).settleThroat e.throat).enterEnvIdle.arbitrate
    else s
  | _, _ => s

/-- A return wait runs out: the throat is overdue and the arbiter examines (R115). -/
def State.waitOut (s : State) (t : Throat) : State :=
  let u := s.ecc.throats.get t
  if u.state = .returnWait && u.wait.isRunning then
    (s.onThroat t fun u => { u with wait := .stopped, overdue := true }).arbitrate
  else s

/-- A throat sensor changes (R107). -/
def State.throatChange (s : State) (t : Throat) (here : Bool) : State :=
  if s.pins.throat.get t = here then s
  else
    let s := s.onPins fun p => { p with throat := p.throat.put t here }
    match (s.ecc.throats.get t).state, here with
    | .opened, true => (s.onThroat t fun u => { u with state := .waiting }).arbitrate
    | .waiting, false => s.settleThroat t
    | .returnWait, false => s.settleThroat t
    | .intake, false => s.onThroat t fun u => { u with shutterOpen := false }
    | .returning, true => s.completeReturn
    | _, _ => s

/-! ## The lift of a pause, and power warnings -/

/-- The feed and motor run again and each timer goes on from its time left (R119). -/
def State.restartEnvTravel (s : State) (f : Feed) : State :=
  (s.onEcc fun e => { e with
    feed := f
    intakeTimer := e.intakeTimer.thaw, forwardTimer := e.forwardTimer.thaw
    returnTimer := e.returnTimer.thaw, recaptureTimer := e.recaptureTimer.thaw }).rerunEnvMotor

/-- The work of a state goes on at the lift of a pause (R119): a leader whose run is in progress goes on, a
restart leader that has not begun waits for its hold set (R105), and any other starts. -/
def State.restartEnvWork (s : State) : State :=
  match s.ecc.state with
  | .leader =>
    if s.gmu.envelope.run then s.rerunEnvMotor
    else if s.ecc.restartWaits then s.startRestartEnv
    else s.startEnvLeader
  | .measuring | .forward | .recapture => s.restartEnvTravel .inward
  | .reversing =>
    if s.ecc.returnTimer = .stopped then s.startReverse else s.restartEnvTravel .reverse
  | _ => s

/-- The pause lifts (R119), and the arbiter examines (R108). -/
def State.resumeEnv (s : State) : State :=
  match s.ecc.state, s.ecc.saved with
  | .paused, some st =>
    let s := s.onEcc fun e => { e with state := st, saved := none }
    (if s.pins.warning then s else s.restartEnvWork).arbitrate
  | _, _ => s.arbitrate

/-- A power warning begins: mechanisms and timers stop, the run ends, and the state is kept, PAUSED being
left for the saved one (R120). The caller has recorded the warning; `before` tells whether the open
condition held. -/
def State.warnEnv (s : State) (before : Bool) : State :=
  let s := s.onEcc fun e => { e with state := e.phase, saved := none }
  ((s.suspendEnv).runEnd .envelope).followOpen before

/-- A power warning ends with the supply kept (R120, R175). -/
def State.endWarnEnv (s : State) (before : Bool) : State :=
  let s := match s.ecc.phase with
    | .leader =>
      if s.ecc.restartWaits then s.startRestartEnv else s.dropLeader
    | .measuring | .forward | .reversing | .recapture => s.stopEnvTransport .power
    | _ => s
  (s.followOpen before).arbitrate

end Sys2Proof.Machine
end

