-- ==== Sys2Proof/Machine/Lanes.lean ====
section
/-! DEFINITION. The Lane Drawer Controllers (05): motions, presenting, takes, arrivals, locks, resumes
and power warnings. Forcing events are in Alarms.lean, beside the zones that they trip. -/

namespace Sys2Proof.Machine

/-! ## Motions -/

/-- A motion's drawer state. -/
def Motion.state : Motion → DrawerState
  | .extending => .extending
  | .retracting => .retracting

/-- The LDC reports a change of drawer state, tray state, transit or lock to the NTC, which checks the
readiness of the bundle that waits for the lane (R77, R86). -/
def State.reportLane (s : State) (l : Lane) : State :=
  match s.currentBundle with
  | some (_, b) => if b.lane = l then s.checkReady else s
  | none => s

/-- Start a motion under a new motion limit (R86); under a power warning the drawer is STOPPED with that
motion as its halted motion and waits for the warning's end (R104). The motion starts whatever its end switch
reads: one that is closed already does not end it (log entry 62). -/
def State.startMotion (s : State) (l : Lane) (m : Motion) : State :=
  if s.pins.warning then
    (s.onLdc l fun d => { d with state := .stopped, halted := some m }).stopDrawer l
  else
    (s.onLdc l fun d => { d with state := m.state, halted := none }).driveDrawer l

/-- The take timer starts from TAKE_TIMEOUT (R90, R91); under a power warning it keeps that time (R104). -/
def State.startTake (s : State) (l : Lane) : State :=
  let full := s.set.takeTimeout * 1000
  s.onLdc l fun d => { d with take := if s.pins.warning then .frozen full else .running full }

/-- Stop the take timer (R91). -/
def State.stopTake (s : State) (l : Lane) : State := s.onLdc l fun d => { d with take := .stopped }

/-! ## Takes and the arrivals -/

/-- A consignment is taken (R93). -/
def State.takeConsignment (s : State) : Consignment → State
  | .bundle h b => s.takeBundle h b
  | .transit h _ => s.retireTransit h

/-- A consignment offered to the customer has come back (R94). -/
def State.comeBack (s : State) : Consignment → State
  | .bundle h b => if b.state = .presented then s.setBundleState h .retracted else s
  | .transit h t => if t.state = .presented then s.setTransitState h .returned else s

/-- An outbound consignment is presented at the arrival OUT (R90). -/
def State.presentConsignment (s : State) : Consignment → State
  | .bundle h b => if b.state = .delivered then s.setBundleState h .presented else s
  | .transit h t => if t.outbound && t.state = .loaded then s.setTransitState h .presented else s

/-- The customer's deposit is taken into custody (R94). -/
def State.takeDeposit (s : State) (l : Lane) : State :=
  (s.createRecord (.transit ⟨l, .inward, 0, .atTeller, .exact⟩)).1.setLaneFlag l .transitChange

/-- The live stocks of a plan that are not DOUBTFUL. -/
def State.soundStocks (s : State) (b : Bundle) : List Handle :=
  (b.parts.map (·.stock)).filter fun h =>
    match s.ct.stock? h with
    | some st => !st.quality.isDoubtful
    | none => false

/-- A bundle that a restart homing finds taken (R177), in one change: every stock of its plan becomes
DOUBTFUL(POWER) and the QUEUED bundles naming one are cancelled (R62), the bundle is retired TAKEN, and a
PICKING bundle that draws on a stock doubted here takes its pending ending (R72; log entry 20). -/
def State.takeUnseen (s : State) (b : Bundle) (c : Consignment) : State :=
  ((s.doubtPlan b .power).takeConsignment c).doubtsDrawn (s.soundStocks b)

/-- The judgement of the tray at an arrival HOME (R94); the arrival that ends a restart homing makes the
stocks of a bundle found taken DOUBTFUL(POWER) (R177). -/
def State.judgeHome (s : State) (l : Lane) (restart : Bool) : State :=
  match s.ct.consignment l with
  | some c =>
    if c.outbound then
      if s.pins.tray.get l then s.comeBack c
      else
        match c with
        | .bundle _ b => if restart then s.takeUnseen b c else s.takeConsignment c
        | .transit _ _ => s.takeConsignment c
    else s
  | none => if s.pins.tray.get l then s.takeDeposit l else s

/-- The drawer enters HOME: the motor stops and the tray is judged (R86, R94); `flag` tells whether
DRAWER_HOME is set after it. -/
def State.enterHome (s : State) (l : Lane) (flag : Bool) : State :=
  let restart := (s.ldc.get l).restartHoming
  let s := s.onLdc l fun d => { d with state := .home, halted := none, restartHoming := false }
  let s := (s.stopDrawer l).judgeHome l restart
  let s := if flag then s.setLaneFlag l .drawerHome else s
  s.reportLane l

/-- The drawer enters OUT: the motor stops, an outbound consignment is presented and the take timer
starts; DRAWER_OUT is set after it (R86, R90). -/
def State.enterOut (s : State) (l : Lane) : State :=
  let s := s.onLdc l fun d => { d with state := .out, halted := none, restartHoming := false }
  let s := s.stopDrawer l
  let s := match s.ct.consignment l with
    | some c => s.presentConsignment c
    | none => s
  ((s.startTake l).setLaneFlag l .drawerOut).reportLane l

/-- The drawer is sent home: HOME at once when its home switch is closed, RETRACTING otherwise (R85,
R102, R103). -/
def State.sendHome (s : State) (l : Lane) (flag : Bool) : State :=
  if s.pins.home.get l then s.enterHome l flag else (s.startMotion l .retracting).reportLane l

/-- A presentation starts: the drawer enters EXTENDING (R89). -/
def State.present (s : State) (l : Lane) : State := (s.startMotion l .extending).reportLane l

/-- A retraction starts: the take timer stops and the drawer enters RETRACTING (R91, R92). -/
def State.retract (s : State) (l : Lane) : State :=
  ((s.stopTake l).startMotion l .retracting).reportLane l

/-- The presentation that a delivery starts by itself (R88). -/
def State.autoPresent (s : State) (l : Lane) : State :=
  if s.set.autoPresent.get l = 1 && !s.locked l && !s.pins.warning then s.present l else s

/-- The motion limit runs out (R86). A restart homing that jams so is still to end, at the arrival that a
LANE_RESET or a resume brings (log entry 60). -/
def State.motionOut (s : State) (l : Lane) : State :=
  let d := s.ldc.get l
  if (d.state = .extending || d.state = .retracting) && d.motion.isRunning then
    let s := (s.onLdc l fun d => { d with state := .jammed, halted := none }).stopDrawer l
    (s.setLaneFlag l .drawerJam).reportLane l
  else s

/-- The take timer runs out (R91); a power warning or a lock starts no motion (R101, R104). -/
def State.takeOut (s : State) (l : Lane) : State :=
  let d := s.ldc.get l
  if d.state = .out && d.take.isRunning && !s.pins.warning && !s.locked l then s.retract l else s

/-- The drawer's home switch closes while RETRACTING (R86, R94). -/
def State.arriveHome (s : State) (l : Lane) : State :=
  if (s.ldc.get l).state = .retracting then
    (s.onPins fun p => { p with home := p.home.put l true, out := p.out.put l false }).enterHome l true
  else s

/-- The drawer's out switch closes while EXTENDING (R86, R90). -/
def State.arriveOut (s : State) (l : Lane) : State :=
  if (s.ldc.get l).state = .extending then
    (s.onPins fun p => { p with out := p.out.put l true, home := p.home.put l false }).enterOut l
  else s

/-! ## The tray -/

/-- A change of the tray while the home switch is closed is the teller's doing (R95). -/
def State.tellerEmpties (s : State) : Consignment → State
  | .bundle h b => if b.state = .delivered then s.setBundleState h .retracted else s
  | .transit h t =>
    if t.direction = .out && t.state = .loaded then s.setTransitState h .returned else s

/-- What the emptying of a tray means: a take with the home switch open (R93), the teller's doing with it
closed (R95). -/
def State.trayEmptied (s : State) (l : Lane) : State :=
  match s.ct.consignment l with
  | none => s
  | some c =>
    if s.pins.home.get l then s.tellerEmpties c
    else if c.outbound then s.takeConsignment c else s

/-- A change of the tray restarts the take timer while the drawer is OUT; a lock keeps it frozen (R91). -/
def State.trayRestart (s : State) (l : Lane) : State :=
  if (s.ldc.get l).state = .out && !s.locked l then s.startTake l else s

/-- The tray sensor of a fitted lane changes (R93, R95); a lane that is not fitted reads no sensor (R85). -/
def State.trayChange (s : State) (l : Lane) (occupied : Bool) : State :=
  if s.fitted l && s.pins.tray.get l != occupied then
    let s := s.onPins fun p => { p with tray := p.tray.put l occupied }
    let s := if occupied then s else s.trayEmptied l
    (s.trayRestart l).reportLane l
  else s

/-! ## Locks -/

/-- The drawer state that a lock saves: a STOPPED drawer is recorded as its halted motion (R100). -/
def Ldc.stateToSave (d : Ldc) : DrawerState :=
  match d.state, d.halted with
  | .stopped, some m => m.state
  | st, _ => st

/-- The direction of motion that a lock saves: absent when the drawer was neither moving nor halted
(R100). -/
def Ldc.direction (d : Ldc) : Option Motion :=
  match d.state with
  | .extending => some .extending
  | .retracting => some .retracting
  | .stopped => d.halted
  | _ => none

/-- The drawer of a lane stops in its motion (R100, R104). -/
def State.haltDrawer (s : State) (l : Lane) : State :=
  match (s.ldc.get l).state with
  | .extending =>
    (s.onLdc l fun d => { d with state := .stopped, halted := some .extending }).stopDrawer l
  | .retracting =>
    (s.onLdc l fun d => { d with state := .stopped, halted := some .retracting }).stopDrawer l
  | _ => s

/-- The AZU reports a zone as a lock cause: the first begins the lock, which saves the context, stops the drawer,
engages the lock solenoid and freezes the take timer, and a further one joins the causes (R100); a lane that is
not fitted has no lock (R155), and its solenoid is not driven (R85). -/
def State.lockLane (s : State) (l : Lane) (z : ZoneId) : State :=
  if s.fitted l then
    let d := s.ldc.get l
    if d.locks = 0 then
      let saved : SavedContext :=
        ⟨d.stateToSave, d.direction, (s.ct.consignment l).map (·.handle), d.take.isRunning⟩
      let s := s.haltDrawer l
      let s := s.onLdc l fun d => { d with
        saved := some saved, locks := zoneBit z, solenoid := true, take := d.take.freeze }
      (s.setLaneFlag l .laneLocked).reportLane l
    else s.onLdc l fun d => { d with locks := d.locks ||| zoneBit z }
  else s

/-- Whether a resume sends the drawer OUT: it was EXTENDING or OUT with a consignment that is still the
tray's outbound one, in an OCCUPIED tray (R102). -/
def State.resumesOut (s : State) (l : Lane) : Bool :=
  match (s.ldc.get l).saved with
  | none => false
  | some c =>
    match c.consignment, s.ct.consignment l with
    | some h, some k =>
      (c.state = .extending || c.state = .out) && k.handle = h && k.outbound && s.pins.tray.get l
    | _, _ => false

/-- A resume that leaves the drawer HOME with a DELIVERED bundle starts its presentation (R102). -/
def State.presentDelivered (s : State) (l : Lane) : State :=
  match s.ct.consignment l with
  | some (.bundle _ b) =>
    if (s.ldc.get l).state = .home && b.state = .delivered then s.autoPresent l else s
  | _ => s

/-- A lock ends (R102): the lock solenoid is released, the drawer goes out or home, the causes and the saved
context are cleared, and LANE_LOCKED is set after it; the queue is examined (R58). A take timer that the lock froze
stays frozen while a resume drives the drawer out, until the arrival OUT starts it anew (log entry 46). -/
def State.endLock (s : State) (l : Lane) : State :=
  let goOut := s.resumesOut l
  let s := s.onLdc l fun d => { d with locks := 0, saved := none, solenoid := false }
  let s :=
    if goOut then
      if s.pins.out.get l then s.enterOut l
      else
        (s.onLdc l fun d => { d with restartHoming := false }).present l
    else (s.stopTake l).sendHome l true
  let s := s.setLaneFlag l .laneLocked
  ((s.presentDelivered l).reportLane l).examineQueue

/-- LANE_RESET's effect on the drawer (R103). A drawer that is RETRACTING already gets a new motion limit
(log entry 45). -/
def State.resetLane (s : State) (l : Lane) : State :=
  let s := s.clearLaneFlags l
  if s.locked l then
    let s := s.onLdc l fun d => { d with
      state := if d.state = .jammed then .stopped else d.state
      halted := if d.state = .jammed then some .retracting else d.halted
      saved := d.saved.map fun c => { c with state := .retracting } }
    s.reportLane l
  else
    let s := s.stopTake l
    if (s.ldc.get l).state = .home then s else s.sendHome l true

/-! ## Power warnings -/

/-- A power warning stops a lane's drawer, and its take timer keeps its time left (R104), which READ_DRAWER
shows as frozen (R87; log entry 47). -/
def State.warnLane (s : State) (l : Lane) : State :=
  (s.haltDrawer l).onLdc l fun d => { d with take := d.take.freeze }

/-- A power warning ends with the supply kept: an unlocked lane's drawer in STOPPED resumes its halted
motion, a restart homing that waited begins (R175), and a take timer goes on (R104). A restart homing that a
later warning stopped, its home switch closed meanwhile, ends here in HOME (log entry 48), and a take timer that
a tray change started under the warning stops as the drawer is sent home (log entry 56). -/
def State.endWarnLane (s : State) (l : Lane) : State :=
  if s.locked l || !s.fitted l then s
  else
    let d := s.ldc.get l
    if d.restartHoming && (d.state = .out || d.state = .stopped) then (s.stopTake l).sendHome l true
    else
      match d.state, d.halted with
      | .stopped, some m => (s.startMotion l m).reportLane l
      | .out, _ => s.onLdc l fun d => { d with take := d.take.thaw }
      | _, _ => s

end Sys2Proof.Machine
end

