-- ==== Sys2Proof/Machine/Alarms.lean ====
section
/-! DEFINITION. The Alarm Zone Unit (08, 09): zone classes and outputs, holds taking effect and
withdrawn, the console report, trips and their deferral, window closings, the scanner, forcing events
and grants. -/

namespace Sys2Proof.Machine

/-! ## Zone classes -/

/-- Hold-up zones: Z0 to Z3 and Z14 (08, section 8.1). -/
def isHoldup (z : ZoneId) : Bool := z.val < 4 || z.val = 14

/-- Forcing zones: Z4 to Z7 (08, section 8.1). -/
def isForcing (z : ZoneId) : Bool := 4 ≤ z.val && z.val < 8

/-- Class rank, the highest first: HOLDUP, FORCING, DOOR, TAMPER, VIBRATION (R154). -/
def zoneRank (z : ZoneId) : Nat :=
  if isHoldup z then 0
  else if isForcing z then 1
  else if z.val = 11 || z.val = 15 then 3
  else if z.val = 12 then 4
  else 2

/-! ## Outputs -/

/-- Whether some zone of the table meets a condition. -/
def Azu.someZone (a : Azu) (p : ZoneId → Zone → Bool) : Bool := allZones.any fun z => p z a.zones[z]

/-- The HOLDUP relay (R151). -/
def Azu.holdupRelay (a : Azu) : Bool :=
  a.someZone fun z w => isHoldup z && w.mode = .armed && w.pending

/-- The relays and the panel line (R151, R152). -/
def Azu.outputs (a : Azu) : Outputs where
  holdup := a.holdupRelay
  intrusion := a.someZone fun z w =>
    !isHoldup z && w.pending && w.enable && w.mode = .armed && w.delegation.central
  trouble := a.someZone fun _ w => w.enable && w.delegation.central && w.trouble
  test := a.someZone fun _ w => w.mode = .test && w.enable && w.pending
  panel := a.someZone fun _ w => w.enable && w.mode = .armed && w.delegation.panel && w.pending

/-- The zone of highest class and lowest number among those that meet a condition (R154). -/
def Azu.topAmong (a : Azu) (p : ZoneId → Zone → Bool) : Option ZoneId :=
  [0, 1, 2, 3, 4].findSome? fun rank =>
    allZones.find? fun z => zoneRank z = rank && p z a.zones[z]

/-- The top zone, among the zones that the reader receives (R154). -/
def Azu.top (a : Azu) (receives : ZoneId → Bool) : Option TopZone :=
  match a.topAmong fun z w => receives z && w.enable && w.pending with
  | some z => some ⟨z, true⟩
  | none => (a.topAmong fun z w => receives z && w.enable && w.trouble).map fun z => ⟨z, false⟩

/-! ## The console report -/

/-- Whether a zone is reported to the console (R153). -/
def Zone.reported (w : Zone) (z : ZoneId) : Bool :=
  (w.enable && w.mode = .armed && w.delegation.console) || isHoldup z || (w.enable && w.mode = .test)

/-- Whether any of the three marks is set (R153). -/
def Zone.marked (w : Zone) : Bool := w.pending || w.repeated || w.trouble

/-- Whether the three marks differ (R153). -/
def Zone.marksDiffer (w v : Zone) : Bool :=
  w.pending != v.pending || w.repeated != v.repeated || w.trouble != v.trouble

/-- Whether a change of a zone sets ALARM_CHANGE (R153). -/
def alarmChange (z : ZoneId) (old new : Zone) : Bool :=
  ((old.reported z || new.reported z) && old.marksDiffer new)
    || (old.reported z != new.reported z && (old.marked || new.marked))

/-! ## Holds -/

/-- The areas that a zone's hold names (09, section 9.4). -/
def holdsDispenser (z : ZoneId) : Bool := z.val = 8 || z.val = 13 || z.val = 15
/-- Zones that hold the REJECT area (09, section 9.4). -/
def holdsReject (z : ZoneId) : Bool := z.val = 9 || z.val = 13 || z.val = 15
/-- Zones that hold the CAPTURE area (09, section 9.4). -/
def holdsCapture (z : ZoneId) : Bool := z.val = 10 || z.val = 13 || z.val = 15
/-- Zones that hold a lane (09, section 9.4). -/
def holdsLane (z : ZoneId) (l : Lane) : Bool :=
  z = l.forcingZone || z.val = 13 || z.val = 15

/-- Add a zone to a set when `named`. -/
def addZone (m : ZoneSet) (z : ZoneId) (named : Bool) : ZoneSet := if named then m ||| zoneBit z else m

/-- Remove a zone from a set. -/
def dropZone (m : ZoneSet) (z : ZoneId) : ZoneSet := m &&& ~~~ zoneBit z

/-- A zone joins the hold sets that its hold names; a lane that is not fitted takes none (R155). -/
def Ct.addHold (ct : Ct) (z : ZoneId) (fitted : Lane → Bool) : Ct :=
  let lane (l : Lane) : ZoneSet := addZone (ct.holdLane.get l) z (holdsLane z l && fitted l)
  { ct with
    holdDispenser := addZone ct.holdDispenser z (holdsDispenser z)
    holdReject := addZone ct.holdReject z (holdsReject z)
    holdCapture := addZone ct.holdCapture z (holdsCapture z)
    holdLane := ⟨lane .l1, lane .l2, lane .l3, lane .l4⟩ }

/-- A zone leaves every hold set (R144, R157). -/
def Ct.dropHold (ct : Ct) (z : ZoneId) : Ct :=
  { ct with
    holdDispenser := dropZone ct.holdDispenser z
    holdReject := dropZone ct.holdReject z
    holdCapture := dropZone ct.holdCapture z
    holdLane := ⟨dropZone ct.holdLane.l1 z, dropZone ct.holdLane.l2 z, dropZone ct.holdLane.l3 z,
      dropZone ct.holdLane.l4 z⟩ }

/-- A bin record or an ENVELOPE record in a bin becomes DOUBTFUL(DOOR) (R156). -/
def Record.captureDoubt : Record → Record
  | .bin v => .bin { v with quality := v.quality.worse (.doubtful .door) }
  | .envelope e =>
    match e.place with
    | .inBin _ _ => .envelope { e with quality := e.quality.worse (.doubtful .door) }
    | .collected => .envelope e
  | r => r

/-- What a DISPENSER or REJECT hold does at once (R83, R156); `already` as for `State.noteDoorStop`. -/
def State.holdNotes (s : State) (z : ZoneId) (already : Bool) : State :=
  let s := if holdsDispenser z || holdsReject z then s.noteDoorStop already else s
  if holdsReject z then s.worsenVault (.doubtful .door) else s

/-- What a CAPTURE hold does at once: the envelope on its way is decided under R111, and the bins and
their envelopes become DOUBTFUL(DOOR) (R156). -/
def State.holdEnvelopes (s : State) (z : ZoneId) : State :=
  if holdsCapture z then
    (s.onCt fun ct => ct.mapRecords Record.captureDoubt).recheckDestination true
  else s

/-- The locks that a hold begins or joins (R100, R155). -/
def State.holdLanes (s : State) (z : ZoneId) : State :=
  Lane.all.foldl (fun s l => if holdsLane z l then s.lockLane l z else s) s

/-- What a zone's hold does as it takes effect, the hold sets being written (R155, R156): locks, the note
transport, the envelope transport with its bins, and for Z12 the pause of both transports. -/
def State.takeHold (s : State) (z : ZoneId) (already : Bool) : State :=
  let s := ((s.holdLanes z).holdNotes z already).holdEnvelopes z
  if z.val = 12 then s.pauseNote.pauseEnv else s

/-- What a zone's hold lets go as it is withdrawn, the hold sets being written: for Z12 the pause lifts
(R144, R157). -/
def State.liftHold (s : State) (z : ZoneId) : State := if z.val = 12 then s.resumeNote.resumeEnv else s

/-- What waits on a hold set follows when it becomes empty (R58, R108, R157). -/
def State.releaseHolds (s : State) (old : Ct) : State :=
  let s :=
    if (old.holdDispenser != 0 && s.ct.holdDispenser = 0)
        || (old.holdReject != 0 && s.ct.holdReject = 0) then s.examineQueue else s
  if old.holdCapture != 0 && s.ct.holdCapture = 0 then s.arbitrate else s

/-- The zones that one change brings into force. -/
def State.enterForce (s : State) (news : List (ZoneId × Zone)) : List ZoneId :=
  (news.filter fun p => !(s.azu.zones[p.1]).inForce && p.2.inForce).map (·.1)

/-- The zones that one change takes out of force. -/
def State.leaveForce (s : State) (news : List (ZoneId × Zone)) : List ZoneId :=
  (news.filter fun p => (s.azu.zones[p.1]).inForce && !p.2.inForce).map (·.1)

/-- The zones of one change are written, and with them every hold set (R155, R157); a change of the
DISPENSER set makes every quote INVALID (R52). -/
def State.writeZones (s : State) (news : List (ZoneId × Zone)) : State :=
  let came := s.enterForce news
  let left := s.leaveForce news
  let t := s.onAzu fun a => { a with zones := news.foldl (fun v p => v.set p.1 p.2) a.zones }
  let t := t.onCt fun ct => left.foldl Ct.dropHold (came.foldl (fun ct z => ct.addHold z s.fitted) ct)
  if (came ++ left).any holdsDispenser then t.invalidateAllQuotes else t

/-- Change some zones in one change (R144, R146, R155, R157): the zones and the hold sets first, then what
each hold does as it takes effect or is withdrawn, the throats' open condition, the examinations that an
emptied hold set brings, and last ALARM_CHANGE (R153). -/
def State.putZones (s : State) (news : List (ZoneId × Zone)) : State :=
  let already := s.ct.holdDispenser != 0 || s.ct.holdReject != 0
  let t := (s.enterForce news).foldl (fun t z => t.takeHold z already) (s.writeZones news)
  let t := (s.leaveForce news).foldl State.liftHold t
  let t := (t.followOpen s.openCondition).releaseHolds s.ct
  if news.any fun p => alarmChange p.1 s.azu.zones[p.1] p.2 then t.setWallFlag .alarmChange else t

/-- Change one zone (R144, R153, R155, R157). -/
def State.putZone (s : State) (z : ZoneId) (new : Zone) : State := s.putZones [(z, new)]

/-! ## Trips -/

/-- A trip (R139). -/
def Zone.trip (w : Zone) (forcing : Bool) : Zone :=
  let w :=
    if w.pending then { w with repeated := true }
    else { w with pending := true, injected := w.mode = .test }
  { w with restoreNeeded := forcing }

/-- A trip that is taken when the zone's window is closed and deferred when it is open (R139, R143). -/
def Zone.tripOrDefer (w : Zone) (forcing blanked : Bool) (d : Deferred) : Zone :=
  if blanked then { w with deferred := d } else w.trip forcing

/-- A change of loop class with its effects on the zone (R137, R139, R140); the debounce starts anew with the
class itself as its candidate (log entry 51). -/
def Zone.changeClass (w : Zone) (c : LoopClass) (blanked : Bool) : Zone :=
  let left := w.cls = .tripped && c != .tripped && w.pending
  let w := { w with
    cls := c, candidate := c, count := 0, restoreNeeded := left || w.restoreNeeded }
  match c with
  | .tripped => { w with trouble := false }.tripOrDefer false blanked .loop
  | .normal => { w with trouble := false }
  | .short | .openLoop | .unscanned => { w with trouble := true }
  | .undetermined | .none => w

/-- A loop's class changes, when it is another than the present one (R137). -/
def State.changeLoop (s : State) (z : ZoneId) (c : LoopClass) : State :=
  if s.azu.zones[z].cls = c then s
  else s.putZone z (s.azu.zones[z].changeClass c (s.blanked z))

/-- A forcing event of a lane reaches its zone (R99, R141). -/
def State.forcingEvent (s : State) (l : Lane) (switch : DrawerSwitch) (closed : Bool) : State :=
  let z := l.forcingZone
  s.putZone z (s.azu.zones[z].tripOrDefer true (s.blanked z) (.forcing switch closed))

/-- The position of a drawer's switch (R143). -/
def State.switchAt (s : State) (l : Lane) : DrawerSwitch → Bool
  | .home => s.pins.home.get l
  | .out => s.pins.out.get l

/-- The lane of a forcing zone (R141). -/
def laneOfZone (z : ZoneId) : Option Lane :=
  match z.val with
  | 4 => some .l1
  | 5 => some .l2
  | 6 => some .l3
  | 7 => some .l4
  | _ => none

/-- Whether a deferred trip's condition still stands (R143). -/
def State.stillStands (s : State) (z : ZoneId) : Bool :=
  match s.azu.zones[z].deferred, laneOfZone z with
  | .loop, _ => s.azu.zones[z].cls = .tripped
  | .forcing switch closed, some l => s.switchAt l switch = closed
  | _, _ => false

/-- The judgement at a window's close: the deferred trip is taken when its condition still stands and
dropped otherwise (R143). -/
def State.judgeWindow (s : State) (z : ZoneId) : State :=
  let w := s.azu.zones[z]
  match w.deferred with
  | .clear => s
  | _ =>
    let cleared := { w with deferred := .clear }
    s.putZone z (if s.stillStands z then cleared.trip (isForcing z) else cleared)

/-- A tail runs out: the window closes and the deferred trip is judged (R142, R143). -/
def State.tailOut (s : State) (z : ZoneId) : State :=
  match laneOfZone z with
  | some l =>
    if (s.azu.forcing.get l).tail.isRunning then
      (s.onAzu fun a => { a with forcing := a.forcing.put l ⟨false, .stopped⟩ }).judgeWindow z
    else s
  | none =>
    if z.val = 12 && s.azu.vibration.tail.isRunning then
      (s.onAzu fun a => { a with vibration := ⟨false, .stopped⟩ }).judgeWindow z
    else s

/-! ## The scanner -/

/-- The channels from one to another in ascending order, going on from 0 after 15 (R136). -/
def scanRange (first last : Nat) : List ZoneId :=
  let from_ := fun lo hi => allZones.filter fun z => lo ≤ z.val && z.val ≤ hi
  if first ≤ last then from_ first last else from_ first 15 ++ from_ 0 last

/-- The scan cycle: the range without channels 4 to 7, then the hold-up channels outside it (R136). -/
def scanCycle (first last : Nat) : List ZoneId :=
  let range := (scanRange first last).filter fun z => !isForcing z
  range ++ (allZones.filter fun z => isHoldup z && !range.contains z)

/-- A loop channel as a new cycle finds it: one that is not in the cycle is UNSCANNED with its deferred
trip cleared, one that enters it UNDETERMINED (R138). -/
def State.scanChannel (s : State) (cycle : List ZoneId) (z : ZoneId) : State :=
  let w := s.azu.zones[z]
  if isForcing z then s
  else if cycle.contains z then
    if w.cls = .unscanned then s.putZone z (w.changeClass .undetermined false) else s
  else if w.cls = .unscanned then s
  else s.putZone z { w.changeClass .unscanned false with deferred := .clear }

/-- A new scan cycle is formed from the limits in effect (R136, R138). -/
def State.formCycle (s : State) : State :=
  let cycle := scanCycle s.set.scanStart s.set.scanEnd
  let s := s.onAzu fun a => { a with cycle := cycle, converted := 0 }
  allZones.foldl (fun s z => s.scanChannel cycle z) s

/-- The band of a conversion's code (R137). -/
def bandOf (code : Sample) : LoopClass :=
  if code.toNat < 400 then .short
  else if code.toNat < 1800 then .normal
  else if code.toNat < 3600 then .tripped
  else .openLoop

/-- One conversion of a loop: the debounce moves, and the third in a row in a new band changes the class
(R137). -/
def State.convertLoop (s : State) (z : ZoneId) (band : LoopClass) : State :=
  let w := s.azu.zones[z]
  if band = w.cls then s.putZone z { w with count := 0 }
  else
    let count := if band = w.candidate then w.count + 1 else 1
    if 3 ≤ count then s.changeLoop z band
    else s.putZone z { w with candidate := band, count := count }

/-- The scanner's next conversion; after the last of a cycle the next cycle is formed first (R136). -/
def State.convertNext (s : State) (code : Sample) : State :=
  let s := if s.azu.cycle.length ≤ s.azu.converted then s.formCycle else s
  match s.azu.cycle[s.azu.converted]? with
  | none => s
  | some z =>
    (s.onAzu fun a => { a with converted := a.converted + 1 }).convertLoop z (bandOf code)

/-! ## Restore, enable and mode -/

/-- A zone restored (R145). -/
def Zone.restore (w : Zone) : Zone :=
  { w with pending := false, repeated := false, injected := false, restoreNeeded := false }

/-- Set or clear the enable of the zones of a mask in one change; the hold-up zones are always enabled
(R146). -/
def State.enableZones (s : State) (mask : ZoneSet) (on : Bool) : State :=
  s.putZones (((zonesOf mask).filter fun z => !isHoldup z).map fun z =>
    (z, { s.azu.zones[z] with enable := on }))

/-- The enable of all sixteen zones as a mask (R146). -/
def Azu.enableMask (a : Azu) : ZoneSet :=
  allZones.foldl (fun m z => if a.zones[z].enable then m ||| zoneBit z else m) 0

/-- A zone returns from TEST: the test's marks are dropped and the mode becomes ARMED; then a loop that
is TRIPPED trips it for real, deferred while its window is open (R149). -/
def State.armZone (s : State) (z : ZoneId) : State :=
  let s := s.putZone z { s.azu.zones[z].restore with mode := .armed }
  let w := s.azu.zones[z]
  if w.cls = .tripped then s.putZone z (w.tripOrDefer false (s.blanked z) .loop) else s

/-- The delegation that a write stores (R150): of a hold-up zone only the PANEL member is taken. -/
def storedDelegation (z : ZoneId) (d : Delegation) : Delegation :=
  if isHoldup z then ⟨false, d.panel, true⟩ else d

/-! ## Grants -/

/-- The door zone of an area (R161). -/
def doorZone : Area → ZoneId
  | .dispenser => 8
  | .reject => 9
  | .capture => 10
  | .wall => 13

/-- The zones that an area's grant blanks (R142). -/
def blankedZones : Area → List ZoneId
  | .dispenser => [8]
  | .reject => [9]
  | .capture => [10, 11]
  | .wall => [13, 15]

/-- Whether an area's mechanism is at work, which refuses its grant with BUSY (R159). -/
def State.areaBusy (s : State) (a : Area) : Bool :=
  match a with
  | .dispenser => s.ct.bundles.any fun (_, b) =>
      b.state = .picking || b.state = .stacked || b.state = .routing
  | .capture =>
    match s.ecc.phase with
    | .leader | .measuring | .forward | .reversing | .recapture => true
    | _ => false
  | _ => false

/-- Change an area's grant; GRANT_CHANGE is set after the change (R158), and the throats' open condition
is followed (R106). -/
def State.putGrant (s : State) (a : Area) (g : Grant) : State :=
  let before := s.openCondition
  let s := s.onAzu fun z => { z with grants := z.grants.put a g }
  (s.setWallFlag .grantChange).followOpen before

/-- An OPEN grant ends by a close or by its expiry: the windows of its zones close and each deferred trip
is judged, and then what waited on the grant is released (R161, R162). -/
def State.endGrant (s : State) (a : Area) : State :=
  let before := s.openCondition
  let s := s.onAzu fun z => { z with grants := z.grants.put a Grant.shut }
  let s := (blankedZones a).foldl (fun s z => s.judgeWindow z) s
  let s := (s.setWallFlag .grantChange).followOpen before
  match a with
  | .dispenser => s.examineQueue
  | .capture => s.arbitrate
  | _ => s

/-- A proposal lapses (R159), and the arbiter examines when it was CAPTURE's (R108). -/
def State.lapse (s : State) (a : Area) : State :=
  let g := s.azu.grants.get a
  if g.state = .proposed && g.timer.isRunning then
    let s := s.putGrant a Grant.shut
    match a with
    | .capture => s.arbitrate
    | _ => s
  else s

/-- An OPEN grant runs out (R162). -/
def State.grantOut (s : State) (a : Area) : State :=
  let g := s.azu.grants.get a
  if g.state = .opened && g.timer.isRunning then s.endGrant a else s

/-! ## Switches of a drawer -/

/-- Whether a switch change is a forcing event (R99). -/
def State.isForcingChange (s : State) (l : Lane) (switch : DrawerSwitch) (closed : Bool) : Bool :=
  let d := s.ldc.get l
  if s.locked l then true
  else
    match switch with
    | .home => !closed && !d.motor
    | .out => !closed && !d.motor && d.state = .out

/-- What a switch change of an unlocked, driven drawer ends (R86). -/
def State.endMotion (s : State) (l : Lane) (switch : DrawerSwitch) (closed : Bool) : State :=
  match (s.ldc.get l).state, switch, closed with
  | .extending, .out, true => s.enterOut l
  | .retracting, .home, true => s.enterHome l true
  | _, _, _ => s

/-- A drawer switch of a fitted lane changes: a forcing event (R99), or the end of a driven motion (R86). -/
def State.switchChange (s : State) (l : Lane) (switch : DrawerSwitch) (closed : Bool) : State :=
  if s.fitted l && s.switchAt l switch != closed then
    let s := s.onPins fun p =>
      match switch with
      | .home => { p with home := p.home.put l closed }
      | .out => { p with out := p.out.put l closed }
    if s.isForcingChange l switch closed then s.forcingEvent l switch closed
    else s.endMotion l switch closed
  else s

end Sys2Proof.Machine
end

