-- ==== Sys2Proof/Machine/Operands.lean ====
section
/-! DEFINITION. How the Station Link Port takes a request (10, sections 10.3 and 10.4): the authority,
the selector fields, the first checks in their order, and the response. -/

namespace Sys2Proof.Machine

/-- The role a request is made under (10, section 10.2). -/
inductive Role where
  | teller (l : Lane)
  | supervisor
  | service
deriving DecidableEq, Repr

/-- The AUTH byte's role, when it is one of the six values (10, section 10.2). -/
def roleOf (auth : Byte) : Option Role :=
  match auth.toNat with
  | 0x11 => some (.teller .l1)
  | 0x12 => some (.teller .l2)
  | 0x13 => some (.teller .l3)
  | 0x14 => some (.teller .l4)
  | 0x20 => some .supervisor
  | 0x30 => some .service
  | _ => none

/-- The codes that a teller may send (10, section 10.4, column T). -/
def tellerCodes : List Nat :=
  [0x01, 0x02, 0x03, 0x04, 0x05, 0x06, 0x07, 0x08, 0x09, 0x0A, 0x0B,
   0x20, 0x21, 0x22, 0x23, 0x30, 0x31, 0x32, 0x33, 0x34]

/-- The codes that a supervisor may not send (10, section 10.4, column S). -/
def notSupervisorCodes : List Nat := [0x50, 0x51, 0x53, 0x55, 0x56, 0x57, 0x64, 0x65]

/-- The codes that service may send (10, section 10.4, column V). -/
def serviceCodes : List Nat :=
  [0x01, 0x02, 0x03, 0x04, 0x05, 0x06, 0x07, 0x08, 0x09, 0x0A, 0x0B,
   0x36, 0x50, 0x51, 0x53, 0x55, 0x56, 0x57, 0x64, 0x65, 0x69, 0x6A, 0x70]

/-- Whether the table of 10, section 10.4 admits a role for a code. -/
def Role.admitted (r : Role) (code : Nat) : Bool :=
  match r with
  | .teller _ => tellerCodes.contains code
  | .supervisor => requestCodes.contains code && !notSupervisorCodes.contains code
  | .service => serviceCodes.contains code

/-- Whether a role may name a lane or its records: a teller only its own (10, section 10.3). -/
def Role.mayName (r : Role) (l : Lane) : Bool :=
  match r with
  | .teller k => k = l
  | _ => true

/-! ## Selector fields -/

/-- A lane's code, 1 to 4 (10, section 10.4). -/
def laneOf (b : Byte) : Option Lane :=
  match b.toNat with
  | 1 => some .l1
  | 2 => some .l2
  | 3 => some .l3
  | 4 => some .l4
  | _ => none

/-- A cassette position's code, 1 to 5 (10, section 10.4). -/
def posOf (b : Byte) : Option CassettePos :=
  match b.toNat with
  | 1 => some .c1
  | 2 => some .c2
  | 3 => some .c3
  | 4 => some .c4
  | 5 => some .c5
  | _ => none

/-- A bin's code, 1 or 2 (10, section 10.4). -/
def binOf (b : Byte) : Option BinId :=
  match b.toNat with
  | 1 => some .b1
  | 2 => some .b2
  | _ => none

/-- A service area's code (10, section 10.4). -/
def areaOf (b : Byte) : Option Area :=
  match b.toNat with
  | 1 => some .dispenser
  | 2 => some .reject
  | 3 => some .capture
  | 4 => some .wall
  | _ => none

/-- A zone number, at most 15 (R145, R147, R148, R150). -/
def zoneOf (b : Byte) : Option ZoneId := if h : b.toNat < 16 then some ⟨b.toNat, h⟩ else none

/-! ## Taking a request -/

/-- What an owner answers: the STATUS with the answer or the refusal's detail (R167). -/
structure Reply where
  status : Status
  answer : Answer
deriving DecidableEq, Repr

/-- A request taken whose whole effect is made (R167). -/
def Reply.ok (a : Answer) : Reply := ⟨.ok, a⟩

/-- A request taken that starts an operation taking time (R167). -/
def Reply.accepted (a : Answer) : Reply := ⟨.accepted, a⟩

/-- A refusal with no detail (10, section 10.5). -/
def Reply.refuse (st : Status) : Reply := ⟨st, .empty⟩

/-- The response is built, echoing the CODE (R167). -/
def State.respond (s : State) (code : Nat) (r : Reply) : State :=
  s.onSlp fun p => { p with response := some ⟨code, r.status, r.answer⟩ }

/-- The last two of the first checks: the authority's admission, then the BODY and its selectors (R166). -/
def Role.lastChecks {α : Type} (r : Role) (code : Nat) (sel : Option α) : Except Status (Role × α) :=
  if r.admitted code then
    match sel with
    | some a => .ok (r, a)
    | none => .error .badRequest
  else .error .authority

/-- The checks of R166 before the owner, after that of the CODE: the AUTH byte and the OPERATOR, a
teller's lane, the authority's admission, and then the BODY and its selectors, `sel` being absent when
one of these is not what the request names. -/
def State.firstChecks {α : Type} (s : State) (code : Nat) (auth : Byte) (op : Half) (sel : Option α) :
    Except Status (Role × α) :=
  match roleOf auth with
  | none => .error .authority
  | some r =>
    if op.toNat = 0 ∨ 9999 < op.toNat then .error .authority
    else
      match r with
      | .teller l => if s.fitted l then r.lastChecks code sel else .error .noLane
      | _ => r.lastChecks code sel

/-- A request is taken: refused by the first checks, or handed to its owner, whose change is made whole
before the response is built (R165, R166). -/
def State.request {α : Type} (s : State) (code : Nat) (auth : Byte) (op : Half) (sel : Option α)
    (owner : State → Role → α → State × Reply) : State :=
  match s.firstChecks code auth op sel with
  | .error st => s.respond code (.refuse st)
  | .ok (r, a) => (owner s r a).1.respond code (owner s r a).2

/-! ## A request in its turn -/

/-- A number in some bytes, least-significant byte first (00, Bytes on the link). -/
def leBytes : (count n : Nat) → List Byte
  | 0, _ => []
  | k + 1, n => BitVec.ofNat 8 n :: leBytes k (n / 256)

/-- The bytes from AUTH through BODY of a request: AUTH, OPERATOR and CODE, then the BODY (10, section
10.2). -/
def rawOf (auth : Byte) (op : Half) (code : Byte) (body : List Byte) : RawRequest :=
  auth :: (leBytes 2 op.toNat ++ code :: body)

/-- The bytes that a station processor sends for a request row, from AUTH through BODY (10, sections 10.2
and 10.4); none for an event row. -/
def requestBytes : Instr → Option RawRequest
  | .unknownRequest a o code => some (rawOf a o code [])
  | .identify a o => some (rawOf a o 0x01 [])
  | .readEvents a o => some (rawOf a o 0x02 [])
  | .readSetting a o id index => some (rawOf a o 0x03 [id, index])
  | .readRecord a o h => some (rawOf a o 0x04 (leBytes 2 h.toNat))
  | .findByLocation a o area position => some (rawOf a o 0x05 [area, position])
  | .findEnvelope a o number => some (rawOf a o 0x06 (leBytes 4 number.toNat))
  | .listLane a o lane => some (rawOf a o 0x07 [lane])
  | .readTotals a o => some (rawOf a o 0x08 [])
  | .readDrawer a o lane => some (rawOf a o 0x09 [lane])
  | .readTransportNote a o => some (rawOf a o 0x0A [0])
  | .readTransportEnvelope a o => some (rawOf a o 0x0A [1])
  | .readAlarms a o => some (rawOf a o 0x0B [])
  | .quote a o lane amount => some (rawOf a o 0x20 (lane :: leBytes 4 amount.toNat))
  | .commit a o lane tag => some (rawOf a o 0x21 [lane, tag])
  | .dispenseAmount a o lane amount => some (rawOf a o 0x22 (lane :: 0 :: leBytes 4 amount.toNat))
  | .dispenseMix a o lane n1 n2 n3 n4 n5 => some (rawOf a o 0x22 [lane, 1, n1, n2, n3, n4, n5])
  | .cancelBundle a o h => some (rawOf a o 0x23 (leBytes 2 h.toNat))
  | .presentDrawer a o lane => some (rawOf a o 0x30 [lane])
  | .retractDrawer a o lane => some (rawOf a o 0x31 [lane])
  | .declareTransit a o lane tag => some (rawOf a o 0x32 (lane :: leBytes 4 tag.toNat))
  | .resolveRetract a o h => some (rawOf a o 0x33 (leBytes 2 h.toNat))
  | .acceptDeposit a o h tag => some (rawOf a o 0x34 (leBytes 2 h.toNat ++ leBytes 4 tag.toNat))
  | .resumeLane a o lane => some (rawOf a o 0x35 [lane])
  | .laneReset a o lane => some (rawOf a o 0x36 [lane])
  | .claimEnvelope a o h => some (rawOf a o 0x40 (leBytes 2 h.toNat))
  | .releaseClaim a o h => some (rawOf a o 0x41 (leBytes 2 h.toNat))
  | .loadCassette a o position denomination count thickness length =>
    some (rawOf a o 0x50 (position :: (leBytes 4 denomination.toNat ++ leBytes 2 count.toNat
      ++ leBytes 2 thickness.toNat ++ leBytes 2 length.toNat)))
  | .unloadCassette a o position => some (rawOf a o 0x51 [position])
  | .reconcile a o position counted => some (rawOf a o 0x52 (position :: leBytes 2 counted.toNat))
  | .emptyRejectVault a o => some (rawOf a o 0x53 [])
  | .reconcileRv a o counted => some (rawOf a o 0x54 (leBytes 2 counted.toNat))
  | .collectBin a o bin => some (rawOf a o 0x55 [bin])
  | .insertBin a o bin => some (rawOf a o 0x56 [bin])
  | .clearTransportNote a o => some (rawOf a o 0x57 [0])
  | .clearTransportEnvelope a o => some (rawOf a o 0x57 [1])
  | .restoreZone a o zone => some (rawOf a o 0x60 [zone])
  | .setZoneEnable a o mask => some (rawOf a o 0x61 (leBytes 2 mask.toNat))
  | .clearZoneEnable a o mask => some (rawOf a o 0x62 (leBytes 2 mask.toNat))
  | .setDelegation a o zone set => some (rawOf a o 0x63 [zone, set])
  | .setZoneModeTest a o zone => some (rawOf a o 0x64 [zone, 1])
  | .setZoneModeArmed a o zone => some (rawOf a o 0x64 [zone, 0])
  | .injectTrip a o zone => some (rawOf a o 0x65 [zone])
  | .openGrant a o area => some (rawOf a o 0x68 [area])
  | .confirmGrant a o area => some (rawOf a o 0x69 [area])
  | .closeGrant a o area => some (rawOf a o 0x6A [area])
  | .writeSetting a o id index value => some (rawOf a o 0x70 (id :: index :: leBytes 2 value.toNat))
  | _ => none

/-- A request received whole waits behind a response that is being built or sent, while fewer than two wait;
a third is discarded (R165). -/
def State.await (s : State) (raw : RawRequest) : State :=
  if s.slp.waiting.length < Config.waitingLimit then
    s.onSlp fun p => { p with waiting := p.waiting ++ [raw] }
  else s

/-- A request row in its turn (R165): taken at once when no earlier request is unanswered, and otherwise
waiting as its bytes do, to be taken when its turn comes (log entry 5). -/
def State.inTurn (s : State) (c : Instr) (taken : State) : State :=
  match s.slp.response with
  | none => taken
  | some _ =>
    match requestBytes c with
    | some raw => s.await raw
    | none => s

/-! ## Owner checks -/

/-- Owner checks in order: the first that fails gives the refusal (R166). -/
def firstFailure : List (Bool × Reply) → Option Reply
  | [] => none
  | (bad, r) :: rest => if bad then some r else firstFailure rest

/-- An owner whose checks refuse with no change, and else takes the request (R166: a refused request
changes nothing). -/
def State.unless (s : State) (checks : List (Bool × Reply)) (taken : State × Reply) : State × Reply :=
  match firstFailure checks with
  | some r => (s, r)
  | none => taken

/-- The first checks of a request for a lane: NO_LANE, then AUTHORITY (R51, R53, R55, R89). -/
def State.laneChecks (s : State) (r : Role) (l : Lane) : List (Bool × Reply) :=
  [(!s.fitted l, .refuse .noLane), (!r.mayName l, .refuse .authority)]

end Sys2Proof.Machine
end

