-- ==== Sys2Proof/Machine/Drawers.lean ====
section
/-! DEFINITION. The commands of the lanes: drawer requests, transits, settlements, the drawer's events,
resumes and resets (05). -/

namespace Sys2Proof.Machine

/-! ## Owners -/

/-- A bundle is ROUTING into the lane (R77, R89). -/
def State.routingInto (s : State) (l : Lane) : Bool :=
  match s.ct.bundleOf l with
  | some (_, b) => b.state = .routing
  | none => false

/-- The refusals that drawer requests share: NO_LANE, AUTHORITY, HELD, BUSY (R89, R92). -/
def State.drawerChecks (s : State) (r : Role) (l : Lane) : List (Bool × Reply) :=
  s.laneChecks r l ++
    [(s.locked l, .refuse .held), (s.routingInto l || s.pins.warning, .refuse .busy)]

/-- The tray holds something that may not be presented: a consignment that came back, or an item in no
custody (R89). -/
def State.notPresentable (s : State) (l : Lane) : Bool :=
  match s.ct.consignment l with
  | some c => !c.outbound
  | none => s.pins.tray.get l

/-- PRESENT_DRAWER's owner (R89). -/
def State.presentOwner (s : State) (r : Role) (l : Lane) : State × Reply :=
  s.unless (s.drawerChecks r l ++
      [((s.ldc.get l).state != .home || s.notPresentable l, .refuse .state)])
    (s.present l, .accepted .empty)

/-- RETRACT_DRAWER's owner (R92). -/
def State.retractOwner (s : State) (r : Role) (l : Lane) : State × Reply :=
  s.unless (s.drawerChecks r l ++
      [((s.ldc.get l).state != .out && (s.ldc.get l).state != .extending, .refuse .state)])
    (s.retract l, .accepted .empty)

/-- DECLARE_TRANSIT's owner (R96): the checks in its order, then the TRANSIT record. -/
def State.declareOwner (s : State) (r : Role) (a : Lane × Nat) : State × Reply :=
  let l := a.1
  let c := s.createRecord (.transit ⟨l, .out, a.2, .loaded, .exact⟩)
  s.unless (s.laneChecks r l ++
      [(decide (65535 < a.2), .refuse .badRequest), (s.locked l, .refuse .held),
        (s.routingInto l || s.pins.warning, .refuse .busy),
        ((s.ldc.get l).state != .home || !s.pins.tray.get l || (s.ct.consignment l).isSome,
          .refuse .state)])
    ((c.1.setLaneFlag l .transitChange).reportLane l, .ok (.handle c.2))

/-- The checks of a settlement after its handle: AUTHORITY and HELD (R97, R98). -/
def State.settleChecks (s : State) (r : Role) (l : Lane) (x : Record) : List (Bool × Reply) :=
  [(!r.mayName l, .refuse .authority), (s.ct.holdsOf x != 0 || s.locked l, .refuse .held)]

/-- The drawer is not HOME or the tray reads OCCUPIED (R97, R98). -/
def State.notCleared (s : State) (l : Lane) : Bool :=
  (s.ldc.get l).state != .home || s.pins.tray.get l

/-- A RETRACTED bundle is settled: its stacked notes move from in_bundles to handed and it is retired
HANDED (R97). -/
def State.handBundle (s : State) (h : Handle) (b : Bundle) : State :=
  (s.moveStacked b.parts Stock.toHanded).retireBundle h .handed

/-- RESOLVE_RETRACT's owner (R97). -/
def State.resolveOwner (s : State) (r : Role) (h : Handle) : State × Reply :=
  match s.ct.find h with
  | none => (s, .refuse .noRecord)
  | some (.bundle b) =>
    s.unless (s.settleChecks r b.lane (.bundle b) ++
        [(b.state != .retracted || s.notCleared b.lane, .refuse .state)])
      ((s.handBundle h b).reportLane b.lane, .ok .empty)
  | some (.transit t) =>
    s.unless (s.settleChecks r t.lane (.transit t) ++
        [(t.state != .returned || s.notCleared t.lane, .refuse .state)])
      ((s.retireTransit h).reportLane t.lane, .ok .empty)
  | some _ => (s, .refuse .badRequest)

/-- ACCEPT_DEPOSIT's owner (R98): the response carries the record's image as it stood at retirement, with
the new tag. -/
def State.acceptOwner (s : State) (r : Role) (a : Handle × Nat) : State × Reply :=
  match s.ct.find a.1 with
  | none => (s, .refuse .noRecord)
  | some (.transit t) =>
    s.unless (s.settleChecks r t.lane (.transit t) ++
        [(t.direction != .inward || a.2 = 0 || decide (65535 < a.2), .refuse .badRequest),
          (s.notCleared t.lane, .refuse .state)])
      ((s.retireTransit a.1).reportLane t.lane,
        .ok (.image ⟨a.1, .transit { t with tag := a.2 }, t.quality,
          s.ct.holdsOf (.transit t), false, 0, false⟩))
  | some _ => (s, .refuse .badRequest)

/-- The lock causes of a lane whose zones still have pending set (R102). -/
def State.causesPending (s : State) (l : Lane) : ZoneSet :=
  (zonesOf (s.ldc.get l).locks).foldl
    (fun m z => if s.azu.zones[z].pending then m ||| zoneBit z else m) 0

/-- RESUME_LANE's owner (R102). Each refusal with STATE carries the mask of the lock causes that are still
pending (10, section 10.5), which is 0 for a lane that is not locked. -/
def State.resumeOwner (s : State) (_ : Role) (l : Lane) : State × Reply :=
  s.unless [(!s.fitted l, .refuse .noLane),
      (!s.locked l || s.causesPending l != 0, ⟨.state, .zonesPending (s.causesPending l)⟩)]
    (s.endLock l, .ok .empty)

/-- LANE_RESET's owner (R103). -/
def State.resetOwner (s : State) (_ : Role) (l : Lane) : State × Reply :=
  s.unless [(!s.fitted l, .refuse .noLane)] (s.resetLane l, .ok .empty)

/-! ## The commands -/

/-- PRESENT_DRAWER. -/
def execPresentDrawer (auth : Byte) (op : Half) (lane : Byte) (s : State) :
    Host.Outcome State Fault Refusal :=
  .next (s.inTurn (.presentDrawer auth op lane)
    (s.request 0x30 auth op (laneOf lane) State.presentOwner))

/-- RETRACT_DRAWER. -/
def execRetractDrawer (auth : Byte) (op : Half) (lane : Byte) (s : State) :
    Host.Outcome State Fault Refusal :=
  .next (s.inTurn (.retractDrawer auth op lane)
    (s.request 0x31 auth op (laneOf lane) State.retractOwner))

/-- DECLARE_TRANSIT. -/
def execDeclareTransit (auth : Byte) (op : Half) (lane : Byte) (tag : Quad) (s : State) :
    Host.Outcome State Fault Refusal :=
  .next (s.inTurn (.declareTransit auth op lane tag)
    (s.request 0x32 auth op ((laneOf lane).map fun l => (l, tag.toNat)) State.declareOwner))

/-- RESOLVE_RETRACT. -/
def execResolveRetract (auth : Byte) (op : Half) (h : Handle) (s : State) :
    Host.Outcome State Fault Refusal :=
  .next (s.inTurn (.resolveRetract auth op h)
    (s.request 0x33 auth op (some h) State.resolveOwner))

/-- ACCEPT_DEPOSIT. -/
def execAcceptDeposit (auth : Byte) (op : Half) (h : Handle) (tag : Quad) (s : State) :
    Host.Outcome State Fault Refusal :=
  .next (s.inTurn (.acceptDeposit auth op h tag)
    (s.request 0x34 auth op (some (h, tag.toNat)) State.acceptOwner))

/-- RESUME_LANE. -/
def execResumeLane (auth : Byte) (op : Half) (lane : Byte) (s : State) :
    Host.Outcome State Fault Refusal :=
  .next (s.inTurn (.resumeLane auth op lane)
    (s.request 0x35 auth op (laneOf lane) State.resumeOwner))

/-- LANE_RESET. -/
def execLaneReset (auth : Byte) (op : Half) (lane : Byte) (s : State) :
    Host.Outcome State Fault Refusal :=
  .next (s.inTurn (.laneReset auth op lane)
    (s.request 0x36 auth op (laneOf lane) State.resetOwner))

/-- The out switch closes while EXTENDING (R86, R90). -/
def execDrawerArriveOut (lane : Lane) (s : State) : Host.Outcome State Fault Refusal :=
  .next (s.arriveOut lane)

/-- The home switch closes while RETRACTING (R86, R94). -/
def execDrawerArriveHome (lane : Lane) (s : State) : Host.Outcome State Fault Refusal :=
  .next (s.arriveHome lane)

/-- The motion limit runs out (R86). -/
def execDrawerMotionTimeout (lane : Lane) (s : State) : Host.Outcome State Fault Refusal :=
  .next (s.motionOut lane)

/-- The take timer runs out (R91). -/
def execTakeTimerExpiry (lane : Lane) (s : State) : Host.Outcome State Fault Refusal :=
  .next (s.takeOut lane)

/-- The tray sensor changes (R93, R95). -/
def execTraySensorChange (lane : Lane) (occupied : Bool) (s : State) :
    Host.Outcome State Fault Refusal :=
  .next (s.trayChange lane occupied)

/-- A drawer switch changes (R99). -/
def execDrawerSwitchChange (lane : Lane) (switch : DrawerSwitch) (closed : Bool) (s : State) :
    Host.Outcome State Fault Refusal :=
  .next (s.switchChange lane switch closed)

end Sys2Proof.Machine
end

