-- ==== Sys2Proof/Machine/Dispensing.lean ====
section
/-! DEFINITION. The commands of the Dispense Planner and of the note transport: quotes, commits, cancels,
the gauge's and the mechanism's events, and CLEAR_TRANSPORT (note) (03, 04). -/

namespace Sys2Proof.Machine

/-! ## Quotes and commits -/

/-- The refusals of a planning request before its plan: NO_LANE, AUTHORITY, HELD (R51, R53, R55). -/
def State.planChecks (s : State) (r : Role) (l : Lane) : List (Bool × Reply) :=
  s.laneChecks r l ++ [(s.locked l, .refuse .held)]

/-- A request that commits is refused with BUSY while the lane has a live bundle (R53, R55). -/
def State.commitChecks (s : State) (r : Role) (l : Lane) : List (Bool × Reply) :=
  s.planChecks r l ++ [((s.ct.bundleOf l).isSome, .refuse .busy)]

/-- QUOTE's owner (R51). -/
def State.quoteOwner (s : State) (r : Role) (a : Lane × Nat) : State × Reply :=
  s.unless (s.planChecks r a.1) <|
    match s.planAmount a.2 with
    | .error e => (s, ⟨e.status, e.detail⟩)
    | .ok parts =>
      (s.onDpl fun d => d.addQuote a.1 a.2 parts,
        .ok (.quote s.dpl.nextTag a.1 a.2 (s.planFigures parts) (parts.map (·.count)).sum
          (s.planQuality parts)))

/-- The valid quote of a lane that carries a tag (R53). -/
def Dpl.committable (d : Dpl) (l : Lane) (tag : Nat) : Option Quote :=
  match d.quoteTagged tag with
  | some q => if q.lane = l && q.valid then some q else none
  | none => none

/-- COMMIT's owner (R53). -/
def State.commitOwner (s : State) (r : Role) (a : Lane × Nat) : State × Reply :=
  s.unless (s.commitChecks r a.1) <|
    match s.dpl.committable a.1 a.2 with
    | none => (s, .refuse .staleQuote)
    | some q =>
      let c := s.commitPlan a.1 q.amount q.parts
      ((c.1.onDpl fun d => d.freeQuote a.1 a.2).examineQueue, .accepted (.handle c.2))

/-- DISPENSE (amount)'s owner (R55): the answer is the bundle handle with the plan's parts, in full (R134; log
entry 52). -/
def State.dispenseOwner (s : State) (r : Role) (a : Lane × Nat) : State × Reply :=
  s.unless (s.commitChecks r a.1) <|
    match s.planAmount a.2 with
    | .error e => (s, ⟨e.status, e.detail⟩)
    | .ok parts =>
      let c := s.commitPlan a.1 a.2 parts
      (c.1.examineQueue, .accepted (.dispensed c.2 (s.planFigures parts)))

/-- DISPENSE (mix)'s owner (R50, R55, R134). A lane that is locked is HELD with no position, none being at
fault (log entry 54). -/
def State.dispenseMixOwner (s : State) (r : Role) (a : Lane × PerPos Nat) : State × Reply :=
  s.unless (s.commitChecks r a.1) <|
    match s.planMix a.2 with
    | .error e => (s, ⟨e.status, e.detail⟩)
    | .ok parts =>
      let c := s.commitPlan a.1 (s.planAmountOf parts) parts
      (c.1.examineQueue, .accepted (.dispensed c.2 (s.planFigures parts)))

/-- The reservation that a QUEUED bundle's cancellation releases: a stock handle and a count for each part, in
plan order. R60 says "the reservation released" and not whether that is one total (log entry 41). -/
def Bundle.reservation (b : Bundle) : List (Handle × Nat) :=
  b.parts.map fun p => (p.stock, p.target - p.stacked)

/-- CANCEL_BUNDLE's owner (R60). -/
def State.cancelOwner (s : State) (r : Role) (h : Handle) : State × Reply :=
  match s.ct.find h with
  | none => (s, .refuse .noRecord)
  | some (.bundle b) =>
    s.unless [(!r.mayName b.lane, .refuse .authority),
        (s.ct.holdsOf (.bundle b) != 0, .refuse .held)] <|
      match b.state with
      | .queued => (s.cancelQueued h, .ok (.released b.reservation))
      | .picking | .stacked => (s.cancelInTransport, .accepted .empty)
      | _ => (s, .refuse .state)
  | some _ => (s, .refuse .badRequest)

/-! ## Pulses and items of the note transport -/

/-- The stock that an item starting now is started on, with its references as they stand (R30). -/
def State.startingStock (s : State) : Option ItemStock :=
  match s.ntc.pick with
  | none => none
  | some h => (s.ct.stock? h).map fun st => ⟨h, st.tRef, st.lRef⟩

/-- A signal of the GMU reaches the NTC; `ref` is the stock that the item was started on. -/
def State.noteSignal (ref : Option ItemStock) (s : State) : GaugeSignal → State
  | .started => s.noteItemStart
  | .handover m atLimit =>
    match ref with
    | some r => s.noteHandover r m atLimit
    | none => s
  | .ended => s.noteItemEnd
  | .overstay => s.noteJam

/-- A pulse of the leader with no item present; the 64th in a row ends the leader (R66, R81). An item seen makes
the 64 start anew, at its start and at its end (`State.noteItemStart`, `State.noteItemEnd`): R66 says so for a
bundle's leader, and that the leader of a clear (R81) or of a restart (R65) is extended in the same way is the
model's choice (log entry 76). -/
def State.noteLeaderPulse (s : State) : State :=
  if s.ntc.state = .leader && !s.ntc.leader.dumping then
    let s := s.onNtc fun n => { n with leader := { n.leader with pulses := n.leader.pulses + 1 } }
    if Config.leaderPulses ≤ s.ntc.leader.pulses then s.noteLeaderDone else s
  else s

/-- An encoder pulse of the note transport while its motor runs: the stall limit restarts, the GMU takes
a sample, and its signals are taken (R27, R30, R80). -/
def State.notePulse (s : State) (a b : Nat) : State :=
  if s.ntc.motor then
    let ref := s.gmu.note.item.bind (·.stock)
    let before := s.gmu.note.item.isSome
    let p := s.gmu.note.pulse .note (s.set.gauge .note) a b s.startingStock
    let s := s.onNtc fun n => { n with stallTimer := .running Config.stallLimit }
    let s := p.2.foldl (State.noteSignal ref) (s.onGmu fun g => { g with note := p.1 })
    if before || p.1.item.isSome then s else s.noteLeaderPulse
  else s

/-- The note under the gauges ends with its measurements (R31, R39). -/
def State.noteEnds (s : State) (m : Measure) : State :=
  match s.sampledItem .note with
  | none => s
  | some it =>
    let s := s.onGmu fun g => { g with note := { g.note with item := none } }
    let s := match it.stock with
      | some ref => if it.classified then s else s.noteHandover ref m false
      | none => s
    s.noteItemEnd

/-- The note under the gauges reaches 700 samples of presence (R32, R37). -/
def State.noteAtLimit (s : State) : State :=
  match s.sampledItem .note with
  | none => s
  | some it =>
    match it.stock with
    | none => s
    | some ref =>
      if it.classified then s
      else
        let c := s.set.gauge .note
        let m := it.measure (it.start + c.lengthLimit) c.gainA c.gainB
        let s := s.onGmu fun g => { g with
          note := { g.note with item := some { it with classified := true } } }
        s.noteHandover ref m true

/-- A leader of the note transport ends (R66, R81); `empty` is what the stacker reads. -/
def State.noteLeaderOver (s : State) (empty : Bool) : State :=
  if s.ntc.state = .leader && s.ntc.motor && !s.ntc.leader.dumping && s.gmu.note.item.isNone then
    (s.onPins fun p => { p with stackerEmpty := empty }).noteLeaderDone
  else s

/-- The bundle arrives in the tray (R78), where it may be presented by itself (R88). -/
def State.bundleArrives (s : State) (l : Lane) : State :=
  match s.ntc.state, s.currentBundle with
  | .routing, some (h, b) =>
    if b.lane = l then
      let s := (s.closeGate).setBundleState h .delivered
      let s := s.onNtc fun n => { n with state := .idle, current := none }
      ((s.setLaneFlag l .bundleDelivered).autoPresent l).enterNoteIdle
    else s
  | _, _ => s

/-- CLEAR_TRANSPORT (note)'s owner (R81); what a pause or a power warning makes of the leader is
`State.enterNoteLeader`'s (R82, R84). -/
def State.clearNoteOwner (s : State) (_ : Role) (_ : Unit) : State × Reply :=
  s.unless [(!s.grantOpen .dispenser, .refuse .grantRequired),
      (s.ct.holdDispenser != 0 || s.ct.holdReject != 0, .refuse .held),
      (s.ntc.state != .jammed, .refuse .state)]
    (s.enterNoteLeader, .accepted .empty)

/-! ## The commands -/

/-- QUOTE. -/
def execQuote (auth : Byte) (op : Half) (lane : Byte) (amount : Quad) (s : State) :
    Host.Outcome State Fault Refusal :=
  .next (s.inTurn (.quote auth op lane amount)
    (s.request 0x20 auth op ((laneOf lane).map fun l => (l, amount.toNat)) State.quoteOwner))

/-- COMMIT. -/
def execCommit (auth : Byte) (op : Half) (lane tag : Byte) (s : State) :
    Host.Outcome State Fault Refusal :=
  .next (s.inTurn (.commit auth op lane tag)
    (s.request 0x21 auth op ((laneOf lane).map fun l => (l, tag.toNat)) State.commitOwner))

/-- DISPENSE by amount. -/
def execDispenseAmount (auth : Byte) (op : Half) (lane : Byte) (amount : Quad) (s : State) :
    Host.Outcome State Fault Refusal :=
  .next (s.inTurn (.dispenseAmount auth op lane amount)
    (s.request 0x22 auth op ((laneOf lane).map fun l => (l, amount.toNat)) State.dispenseOwner))

/-- DISPENSE by mix. -/
def execDispenseMix (auth : Byte) (op : Half) (lane n1 n2 n3 n4 n5 : Byte) (s : State) :
    Host.Outcome State Fault Refusal :=
  let mix : PerPos Nat := ⟨n1.toNat, n2.toNat, n3.toNat, n4.toNat, n5.toNat⟩
  .next (s.inTurn (.dispenseMix auth op lane n1 n2 n3 n4 n5)
    (s.request 0x22 auth op ((laneOf lane).map fun l => (l, mix)) State.dispenseMixOwner))

/-- CANCEL_BUNDLE. -/
def execCancelBundle (auth : Byte) (op : Half) (h : Handle) (s : State) :
    Host.Outcome State Fault Refusal :=
  .next (s.inTurn (.cancelBundle auth op h)
    (s.request 0x23 auth op (some h) State.cancelOwner))

/-- The note transport's leader ends. -/
def execNoteLeaderEnd (empty : Bool) (s : State) : Host.Outcome State Fault Refusal :=
  .next (s.noteLeaderOver empty)

/-- A note reaches the length limit. -/
def execNoteLengthLimit (s : State) : Host.Outcome State Fault Refusal := .next s.noteAtLimit

/-- A note reaches the presence limit: a jam (R32, R80). -/
def execNotePresenceLimit (s : State) : Host.Outcome State Fault Refusal :=
  .next (if (s.sampledItem .note).isSome then s.noteJam else s)

/-- The pick limit runs out (R70). -/
def execPickFailure (s : State) : Host.Outcome State Fault Refusal :=
  .next (if s.ntc.pickTimer.isRunning then s.failPick else s)

/-- An item leaves the diverter (R67). -/
def execDiverterExit (s : State) : Host.Outcome State Fault Refusal := .next s.exitDiverter

/-- The stacker reads empty (R75, R81). -/
def execStackerEmpty (s : State) : Host.Outcome State Fault Refusal := .next s.emptyStacker

/-- The stacker-dump limit runs out (R75). -/
def execStackerDumpTimeout (s : State) : Host.Outcome State Fault Refusal :=
  .next (if s.ntc.dumpTimer.isRunning then s.noteJam else s)

/-- STACKER_WAIT runs out (R79). -/
def execStackerWaitExpiry (s : State) : Host.Outcome State Fault Refusal := .next s.stackerWaitOut

/-- A bundle arrives in its lane's tray (R78). -/
def execBundleArrival (lane : Lane) (s : State) : Host.Outcome State Fault Refusal :=
  .next (s.bundleArrives lane)

/-- The chute limit runs out (R78, R80). -/
def execChuteTimeout (s : State) : Host.Outcome State Fault Refusal :=
  .next (if s.ntc.chuteTimer.isRunning then s.noteJam else s)

/-- The diverter-exit limit runs out (R80). -/
def execDiverterExitTimeout (s : State) : Host.Outcome State Fault Refusal :=
  .next (if s.ntc.exitTimer.isRunning then s.noteJam else s)

/-- The note transport's encoder-stall limit runs out (R80). -/
def execNoteEncoderStall (s : State) : Host.Outcome State Fault Refusal :=
  .next (if s.ntc.stallTimer.isRunning then s.noteJam else s)

/-- CLEAR_TRANSPORT (note). -/
def execClearTransportNote (auth : Byte) (op : Half) (s : State) : Host.Outcome State Fault Refusal :=
  .next (s.inTurn (.clearTransportNote auth op)
    (s.request 0x57 auth op (some ()) State.clearNoteOwner))

/-- The wait of a restart leader ends once both hold sets are empty (R65). -/
def execNoteRestartLeaderStart (s : State) : Host.Outcome State Fault Refusal :=
  .next s.startRestartNote

end Sys2Proof.Machine
end

