-- ==== Sys2Proof/Machine/Reads.lean ====
section
/-! DEFINITION. The reads of the station link: record images, lookups, totals, the drawer, transport and
alarm views, the event flags and IDENTIFY (01, section 1.7; R65, R87, R105, R154, R168, R170, R173). -/

namespace Sys2Proof.Machine

/-! ## Images -/

/-- Whether a reader receives reduced figures: a teller whose lane's COUNT_VIEW is off (R26, R134). -/
def State.reducedFor (s : State) : Role → Bool
  | .teller l => s.set.countView.get l = 0
  | _ => false

/-- A stock's presence mark: its switch is closed (R126). -/
def State.presenceMark (s : State) : Record → Bool
  | .stock st => s.pins.presence.get st.pos
  | _ => false

/-- The available count that a reader sees of a stock (R134, R168). -/
def State.shownAvailable (s : State) (reduced : Bool) : Record → Nat
  | .stock st => if reduced then min st.available s.set.bundleLimit else st.available
  | _ => 0

/-- Whether a record is a STOCK. -/
def Record.isStock : Record → Bool
  | .stock _ => true
  | _ => false

/-- A record's image for a reader (R22, R134, R168). -/
def State.image (s : State) (reader : Role) (h : Handle) (r : Record) : Image :=
  let reduced := s.reducedFor reader && r.isStock
  ⟨h, r, s.ct.shownQuality r, s.ct.holdsOf r, s.presenceMark r, s.shownAvailable reduced r, reduced⟩

/-- The owner lane of a BUNDLE or TRANSIT record (01, section 1.2.1). -/
def Record.owner : Record → Option Lane
  | .bundle b => some b.lane
  | .transit t => some t.lane
  | _ => none

/-- Whether a reader may see a record (R22). -/
def Role.maySee (r : Role) (x : Record) : Bool :=
  match x.owner with
  | some l => r.mayName l
  | none => true

/-- READ_RECORD's owner (R4, R22). -/
def State.readRecordOwner (s : State) (r : Role) (h : Handle) : State × Reply :=
  match s.ct.find h with
  | none => (s, .refuse .noRecord)
  | some x =>
    if r.maySee x then (s, .ok (.image (s.image r h x))) else (s, .refuse .authority)

/-! ## Lookups -/

/-- The position of a LANE area by its code: CHUTE, TRAY or TELLER (10, section 10.6). -/
def lanePosition (l : Lane) : Nat → Option Location
  | 11 => some (.chute l)
  | 12 => some (.tray l)
  | 13 => some (.teller l)
  | _ => none

/-- The location of an area code and a position code, when the position is one of the area's (R23; 10,
section 10.6). -/
def locationOf (area position : Nat) : Option Location :=
  match area, position with
  | 1, 1 => some (.cassette .c1)
  | 1, 2 => some (.cassette .c2)
  | 1, 3 => some (.cassette .c3)
  | 1, 4 => some (.cassette .c4)
  | 1, 5 => some (.cassette .c5)
  | 1, 6 => some .transport
  | 1, 7 => some .stacker
  | 2, 8 => some .vault
  | 3, 9 => some (.bin .b1)
  | 3, 10 => some (.bin .b2)
  | 4, p => lanePosition .l1 p
  | 5, p => lanePosition .l2 p
  | 6, p => lanePosition .l3 p
  | 7, p => lanePosition .l4 p
  | 8, 0 => some .collected
  | _, _ => none

/-- The lane of a location in a LANE area. -/
def Location.lane : Location → Option Lane
  | .chute l | .tray l | .teller l => some l
  | _ => none

/-- Whether a location is in the area of a lane that is not fitted (R23). -/
def State.unfittedPlace (s : State) (w : Location) : Bool :=
  match w.lane with
  | some l => !s.fitted l
  | none => false

/-- The handles of the live records at a location, in ascending slot order (R23). -/
def Ct.handlesAt (ct : Ct) (w : Location) : List Handle :=
  (ct.live.filter fun p => p.2.location = w).map (·.1)

/-- FIND_BY_LOCATION's owner (R23). -/
def State.findLocationOwner (s : State) (_ : Role) (a : Byte × Byte) : State × Reply :=
  match locationOf a.1.toNat a.2.toNat with
  | none => (s, .refuse .badRequest)
  | some w =>
    if s.unfittedPlace w then (s, .refuse .noLane)
    else
      let hs := s.ct.handlesAt w
      (s, .ok (.handles (hs.take Config.findLimit) hs.length (Config.findLimit < hs.length)))

/-- The live envelopes carrying a capture number, lowest slot first (R24). -/
def Ct.envelopesNumbered (ct : Ct) (n : Nat) : List (Handle × Envelope) :=
  ct.envelopes.filter fun p => p.2.number = n

/-- FIND_ENVELOPE's owner (R24). -/
def State.findEnvelopeOwner (s : State) (_ : Role) (n : Quad) : State × Reply :=
  if n.toNat = 0 ∨ 999999 < n.toNat then (s, .refuse .badRequest)
  else
    match s.ct.envelopesNumbered n.toNat with
    | [] => (s, .refuse .noRecord)
    | (h, e) :: rest => (s, .ok (.found h ((h, e) :: rest).length))

/-- LIST_LANE's owner (R25), whose refusals come in the order that R25 gives them: AUTHORITY for a teller that
names another lane, then NO_LANE. -/
def State.listLaneOwner (s : State) (r : Role) (l : Lane) : State × Reply :=
  s.unless [(!r.mayName l, .refuse .authority), (!s.fitted l, .refuse .noLane)]
    (s, .ok (.lane
      ((s.ct.bundleOf l).map fun (h, b) => s.image r h (.bundle b))
      ((s.ct.transitOf l).map fun (h, t) => s.image r h (.transit t))
      (s.ct.last.get l)))

/-! ## Totals -/

/-- What READ_TOTALS shows of the stock at a position (R26, R132). -/
def Ct.stockTotal (ct : Ct) (p : CassettePos) : Option StockTotal :=
  (ct.stockAt p).map fun (_, st) =>
    ⟨st.denom, st.remaining, st.remaining * st.denom, st.quality, st.balance, st.lowMark⟩

/-- The number of live claimed envelopes, in bins and in COLLECTED (R20, R26). -/
def Ct.claims (ct : Ct) : Nat := (ct.envelopes.filter (·.2.claimed)).length

/-- The custody totals (R26). -/
def State.totals (s : State) (r : Role) : Totals :=
  let ct := s.ct
  { reduced := s.reducedFor r
    balanceOpen := ct.stocks.any fun p => p.2.balance = .dirty
    stocks := ⟨ct.stockTotal .c1, ct.stockTotal .c2, ct.stockTotal .c3, ct.stockTotal .c4,
      ct.stockTotal .c5⟩
    total := (ct.stocks.map fun p => p.2.remaining * p.2.denom).sum
    quality := ct.stocks.foldl (fun q p => q.worse p.2.quality) .exact
    vault := ct.vault?.map (·.2)
    bin1 := (ct.binAt .b1).map (·.2)
    bin2 := (ct.binAt .b2).map (·.2)
    claimed := ct.claims }

/-- READ_TOTALS's owner (R26). -/
def State.readTotalsOwner (s : State) (r : Role) (_ : Unit) : State × Reply :=
  (s, .ok (.totals (s.totals r)))

/-! ## Views of the mechanisms -/

/-- What READ_DRAWER shows (R87). -/
def State.drawerView (s : State) (l : Lane) : DrawerView :=
  let d := s.ldc.get l
  ⟨d.state, d.halted, s.pins.home.get l, s.pins.out.get l, s.pins.tray.get l, d.take, d.locks,
    d.saved, (s.ct.consignment l).map (·.handle)⟩

/-- READ_DRAWER's owner (R87). -/
def State.readDrawerOwner (s : State) (_ : Role) (l : Lane) : State × Reply :=
  s.unless [(!s.fitted l, .refuse .noLane)] (s, .ok (.drawer (s.drawerView l)))

/-- What READ_TRANSPORT (note) shows (R65). -/
def State.noteView (s : State) : NoteView :=
  let n := s.ntc
  ⟨n.state, n.saved, n.current, n.pendingEnd, s.currentPartIndex, n.stackerCount, n.pickFails⟩

/-- READ_TRANSPORT (note)'s owner (R65). -/
def State.readNoteOwner (s : State) (_ : Role) (_ : Unit) : State × Reply :=
  (s, .ok (.noteTransport s.noteView))

/-- What READ_TRANSPORT (envelope) shows (R105). -/
def State.envView (s : State) : EnvView :=
  let e := s.ecc
  ⟨e.state, e.saved, e.throats, e.lastServed, e.current, e.nextNumber,
    (s.ct.binAt .b1).map fun (h, v) => (h, v.role), (s.ct.binAt .b2).map fun (h, v) => (h, v.role)⟩

/-- READ_TRANSPORT (envelope)'s owner (R105). -/
def State.readEnvOwner (s : State) (_ : Role) (_ : Unit) : State × Reply :=
  (s, .ok (.envTransport s.envView))

/-- Whether a reader receives a zone: a teller no hold-up zone (R154). -/
def Role.receives (r : Role) (z : ZoneId) : Bool :=
  match r with
  | .teller _ => !isHoldup z
  | _ => true

/-- Whether a role is a teller's. -/
def Role.isTeller : Role → Bool
  | .teller _ => true
  | _ => false

/-- The hold set of a lane as READ_ALARMS shows it: of each fitted lane (R154). -/
def State.shownLaneHold (s : State) (l : Lane) : ZoneSet :=
  if s.fitted l then s.ct.holdLane.get l else 0

/-- What READ_ALARMS shows (R154). -/
def State.alarmView (s : State) (r : Role) : AlarmView :=
  { zones := allZones.map fun z => if r.receives z then some s.azu.zones[z] else none
    outputs := if r.isTeller then { s.azu.outputs with holdup := false } else s.azu.outputs
    holdDispenser := s.ct.holdDispenser
    holdReject := s.ct.holdReject
    holdCapture := s.ct.holdCapture
    holdLane := ⟨s.shownLaneHold .l1, s.shownLaneHold .l2, s.shownLaneHold .l3, s.shownLaneHold .l4⟩
    grants := s.azu.grants
    top := s.azu.top r.receives }

/-- READ_ALARMS's owner (R154). -/
def State.readAlarmsOwner (s : State) (r : Role) (_ : Unit) : State × Reply :=
  (s, .ok (.alarms (s.alarmView r)))

/-! ## Event flags and IDENTIFY -/

/-- The wall flags that a teller does not clear: ALARM_CHANGE and BACKUP_LOST (R170). -/
def keptFromTeller : Half := WallFlag.alarmChange.mask ||| WallFlag.backupLost.mask

/-- The lane byte that a reader receives (R170). -/
def State.shownFlags (s : State) (r : Role) (l : Lane) : Byte :=
  if r.mayName l then s.slp.laneFlags.get l else 0

/-- The wall flags that a reader receives (R170). -/
def State.shownWall (s : State) (r : Role) : Half :=
  if r.isTeller then s.slp.wallFlags &&& ~~~ WallFlag.alarmChange.mask else s.slp.wallFlags

/-- The lane byte that a read leaves (R170). -/
def State.leftFlags (s : State) (r : Role) (l : Lane) : Byte :=
  if r.mayName l then 0 else s.slp.laneFlags.get l

/-- The wall flags that a read leaves (R170). -/
def State.leftWall (s : State) (r : Role) : Half :=
  if r.isTeller then s.slp.wallFlags &&& keptFromTeller else 0

/-- READ_EVENTS's owner (R170). -/
def State.readEventsOwner (s : State) (r : Role) (_ : Unit) : State × Reply :=
  (s.onSlp fun p => { p with
      laneFlags := ⟨s.leftFlags r .l1, s.leftFlags r .l2, s.leftFlags r .l3, s.leftFlags r .l4⟩
      wallFlags := s.leftWall r },
    .ok (.events (s.shownFlags r .l1) (s.shownFlags r .l2) (s.shownFlags r .l3) (s.shownFlags r .l4)
      (s.shownWall r)))

/-- IDENTIFY's owner (R173). -/
def State.identifyOwner (s : State) (_ : Role) (_ : Unit) : State × Reply :=
  (s, .ok (.identify s.set.fittedLanes.value))

/-! ## The commands -/

/-- IDENTIFY. -/
def execIdentify (auth : Byte) (op : Half) (s : State) : Host.Outcome State Fault Refusal :=
  .next (s.inTurn (.identify auth op)
    (s.request 0x01 auth op (some ()) State.identifyOwner))

/-- READ_EVENTS. -/
def execReadEvents (auth : Byte) (op : Half) (s : State) : Host.Outcome State Fault Refusal :=
  .next (s.inTurn (.readEvents auth op)
    (s.request 0x02 auth op (some ()) State.readEventsOwner))

/-- READ_RECORD. -/
def execReadRecord (auth : Byte) (op : Half) (h : Handle) (s : State) :
    Host.Outcome State Fault Refusal :=
  .next (s.inTurn (.readRecord auth op h)
    (s.request 0x04 auth op (some h) State.readRecordOwner))

/-- FIND_BY_LOCATION. -/
def execFindByLocation (auth : Byte) (op : Half) (area position : Byte) (s : State) :
    Host.Outcome State Fault Refusal :=
  .next (s.inTurn (.findByLocation auth op area position)
    (s.request 0x05 auth op (some (area, position)) State.findLocationOwner))

/-- FIND_ENVELOPE. -/
def execFindEnvelope (auth : Byte) (op : Half) (number : Quad) (s : State) :
    Host.Outcome State Fault Refusal :=
  .next (s.inTurn (.findEnvelope auth op number)
    (s.request 0x06 auth op (some number) State.findEnvelopeOwner))

/-- LIST_LANE. -/
def execListLane (auth : Byte) (op : Half) (lane : Byte) (s : State) :
    Host.Outcome State Fault Refusal :=
  .next (s.inTurn (.listLane auth op lane)
    (s.request 0x07 auth op (laneOf lane) State.listLaneOwner))

/-- READ_TOTALS. -/
def execReadTotals (auth : Byte) (op : Half) (s : State) : Host.Outcome State Fault Refusal :=
  .next (s.inTurn (.readTotals auth op)
    (s.request 0x08 auth op (some ()) State.readTotalsOwner))

/-- READ_DRAWER. -/
def execReadDrawer (auth : Byte) (op : Half) (lane : Byte) (s : State) :
    Host.Outcome State Fault Refusal :=
  .next (s.inTurn (.readDrawer auth op lane)
    (s.request 0x09 auth op (laneOf lane) State.readDrawerOwner))

/-- READ_TRANSPORT (note). -/
def execReadTransportNote (auth : Byte) (op : Half) (s : State) : Host.Outcome State Fault Refusal :=
  .next (s.inTurn (.readTransportNote auth op)
    (s.request 0x0A auth op (some ()) State.readNoteOwner))

/-- READ_TRANSPORT (envelope). -/
def execReadTransportEnvelope (auth : Byte) (op : Half) (s : State) :
    Host.Outcome State Fault Refusal :=
  .next (s.inTurn (.readTransportEnvelope auth op)
    (s.request 0x0A auth op (some ()) State.readEnvOwner))

/-- READ_ALARMS. -/
def execReadAlarms (auth : Byte) (op : Half) (s : State) : Host.Outcome State Fault Refusal :=
  .next (s.inTurn (.readAlarms auth op)
    (s.request 0x0B auth op (some ()) State.readAlarmsOwner))

/-- A request whose CODE is not in the table is refused with BAD_REQUEST, before any other check (R166). -/
def execUnknownRequest (auth : Byte) (op : Half) (code : Byte) (s : State) :
    Host.Outcome State Fault Refusal :=
  if (Instr.unknownRequest auth op code).wf then
    .next (s.inTurn (.unknownRequest auth op code) (s.respond code.toNat (.refuse .badRequest)))
  else .fault (.illFormed "UNKNOWN_REQUEST")

end Sys2Proof.Machine
end

