-- ==== Sys2Proof/Machine/Envelopes.lean ====
section
/-! DEFINITION. The commands of the envelope transport and of the gauges that both transports share, with
claims and CLEAR_TRANSPORT (envelope) (02, 06; R20, R118). -/

namespace Sys2Proof.Machine

/-! ## Pulses and items of the envelope transport -/

/-- A signal of the GMU reaches the ECC. -/
def State.envSignal (s : State) : GaugeSignal → State
  | .started => s.envItemStart
  | .handover m atLimit => s.envHandover m atLimit
  | .ended => s.envItemEnd
  | .overstay => s.envJam

/-- A pulse of the leader with no item present; the 64th in a row ends the leader (R109, R118), an item having made
them start anew (`State.envItemStart`, `State.envItemEnd`; of a clear or restart: model's choice, log entry 77). -/
def State.envLeaderPulse (s : State) : State :=
  if s.ecc.state = .leader then
    let s := s.onEcc fun e => { e with leader := { e.leader with pulses := e.leader.pulses + 1 } }
    if Config.leaderPulses ≤ s.ecc.leader.pulses then s.envLeaderDone else s
  else s

/-- An encoder pulse of the envelope transport while its motor runs (R27, R30, R117). -/
def State.envPulse (s : State) (a b : Nat) : State :=
  if s.ecc.motor then
    let before := s.gmu.envelope.item.isSome
    let p := s.gmu.envelope.pulse .envelope (s.set.gauge .envelope) a b none
    let s := s.onEcc fun e => { e with stallTimer := .running Config.stallLimit }
    let s := p.2.foldl State.envSignal (s.onGmu fun g => { g with envelope := p.1 })
    if before || p.1.item.isSome then s else s.envLeaderPulse
  else s

/-- The envelope under the gauges ends with its measurements (R31, R43). -/
def State.envEnds (s : State) (m : Measure) : State :=
  match s.sampledItem .envelope with
  | none => s
  | some it =>
    let s := s.onGmu fun g => { g with envelope := { g.envelope with item := none } }
    (if it.classified then s else s.envHandover m false).envItemEnd

/-- The envelope under the gauges reaches 640 samples of presence (R32, R42, R110). -/
def State.envAtLimit (s : State) (thickness skew : Nat) : State :=
  match s.sampledItem .envelope with
  | none => s
  | some it =>
    if it.classified then s
    else
      let c := s.set.gauge .envelope
      let ls := (it.measure (it.start + c.lengthLimit) c.gainA c.gainB).ls
      let s := s.onGmu fun g => { g with
        envelope := { g.envelope with item := some { it with classified := true } } }
      s.envHandover ⟨ls, thickness, skew, false⟩ true

/-- A leader of the envelope transport ends (R109, R116, R118). -/
def State.envLeaderOver (s : State) : State :=
  if s.ecc.state = .leader && s.ecc.motor && s.gmu.envelope.item.isNone then s.envLeaderDone else s

/-- CLEAR_TRANSPORT (envelope)'s owner (R118); what a pause or a power warning makes of the leader is
`State.enterEnvLeader`'s (R119, R120). -/
def State.clearEnvOwner (s : State) (_ : Role) (_ : Unit) : State × Reply :=
  s.unless [(!s.grantOpen .capture, .refuse .grantRequired),
      (s.ct.holdCapture != 0, .refuse .held), (s.ecc.state != .jammed, .refuse .state)]
    (s.enterEnvLeader, .accepted .empty)

/-! ## Claims -/

/-- CLAIM_ENVELOPE's owner (R20). The claim of an envelope already claimed is answered with the number of
claims as it stands, R20 giving that answer no figure (log entry 39). -/
def State.claimOwner (s : State) (_ : Role) (h : Handle) : State × Reply :=
  match s.ct.find h with
  | none => (s, .refuse .noRecord)
  | some (.envelope e) =>
    if e.claimed then (s, .ok (.claims s.ct.claims))
    else if Config.claimLimit ≤ s.ct.claims then (s, .refuse .full)
    else
      let s := s.onCt fun ct => ct.write h (.envelope { e with claimed := true })
      (s, .ok (.claims s.ct.claims))
  | some _ => (s, .refuse .badRequest)

/-- RELEASE_CLAIM's owner (R20): the mark is cleared, and a COLLECTED record is retired. -/
def State.releaseOwner (s : State) (_ : Role) (h : Handle) : State × Reply :=
  match s.ct.find h with
  | none => (s, .refuse .noRecord)
  | some (.envelope e) =>
    if e.claimed then
      (match e.place with
        | .inBin _ _ => s.onCt fun ct => ct.write h (.envelope { e with claimed := false })
        | .collected => s.onCt fun ct => ct.retire h,
        .ok .empty)
    else (s, .refuse .state)
  | some _ => (s, .refuse .badRequest)

/-! ## The commands -/

/-- One encoder pulse of a transport (R27). -/
def execEncoderPulse (t : Transport) (a b : Sample) (s : State) : Host.Outcome State Fault Refusal :=
  .next (match t with
    | .note => s.notePulse a.toNat b.toNat
    | .envelope => s.envPulse a.toNat b.toNat)

/-- The item under the gauges of a transport ends (R31). -/
def execItemEnd (t : Transport) (m : Measure) (s : State) : Host.Outcome State Fault Refusal :=
  if m.wf t then
    .next (match t with
      | .note => s.noteEnds m
      | .envelope => s.envEnds m)
  else .fault (.illFormed "ITEM_END")

/-- An envelope reaches the length limit (R42). -/
def execEnvelopeLengthLimit (thickness skew : Nat) (s : State) : Host.Outcome State Fault Refusal :=
  if (Instr.envelopeLengthLimit thickness skew).wf then .next (s.envAtLimit thickness skew)
  else .fault (.illFormed "ENVELOPE_LENGTH_LIMIT")

/-- An envelope reaches the presence limit: a jam (R117). -/
def execEnvelopePresenceLimit (s : State) : Host.Outcome State Fault Refusal :=
  .next (if (s.sampledItem .envelope).isSome then s.envJam else s)

/-- A throat sensor changes (R107). -/
def execThroatSensorChange (throat : Throat) (here : Bool) (s : State) :
    Host.Outcome State Fault Refusal :=
  .next (s.throatChange throat here)

/-- The envelope transport's leader ends. -/
def execEnvelopeLeaderEnd (s : State) : Host.Outcome State Fault Refusal := .next s.envLeaderOver

/-- The intake limit runs out (R109). -/
def execIntakeTimeout (s : State) : Host.Outcome State Fault Refusal := .next s.intakeOut

/-- The gate sensor reports the envelope (R112). -/
def execGatePassage (s : State) : Host.Outcome State Fault Refusal := .next s.gateReport

/-- The imprinter reports (R112). -/
def execImprinterReport (printed : Bool) (s : State) : Host.Outcome State Fault Refusal :=
  .next (s.imprinterSays printed)

/-- A bin-entry sensor reports (R113). -/
def execBinEntry (bin : BinId) (s : State) : Host.Outcome State Fault Refusal :=
  .next (s.binReport bin)

/-- The forward limit runs out (R117). -/
def execForwardTimeout (s : State) : Host.Outcome State Fault Refusal :=
  .next (if s.ecc.forwardTimer.isRunning then s.envJam else s)

/-- The return limit runs out (R117). -/
def execReturnTimeout (s : State) : Host.Outcome State Fault Refusal :=
  .next (if s.ecc.returnTimer.isRunning then s.envJam else s)

/-- A return wait runs out (R115). -/
def execReturnWaitExpiry (throat : Throat) (s : State) : Host.Outcome State Fault Refusal :=
  .next (s.waitOut throat)

/-- The recapture limit runs out (R116). -/
def execRecaptureTimeout (s : State) : Host.Outcome State Fault Refusal := .next s.recaptureOut

/-- The envelope transport's encoder-stall limit runs out (R117). -/
def execEnvelopeEncoderStall (s : State) : Host.Outcome State Fault Refusal :=
  .next (if s.ecc.stallTimer.isRunning then s.envJam else s)

/-- CLEAR_TRANSPORT (envelope). -/
def execClearTransportEnvelope (auth : Byte) (op : Half) (s : State) :
    Host.Outcome State Fault Refusal :=
  .next (s.inTurn (.clearTransportEnvelope auth op)
    (s.request 0x57 auth op (some ()) State.clearEnvOwner))

/-- The wait of a restart leader ends once the CAPTURE hold set is empty (R105). -/
def execEnvelopeRestartLeaderStart (s : State) : Host.Outcome State Fault Refusal :=
  .next s.startRestartEnv

/-- CLAIM_ENVELOPE. -/
def execClaimEnvelope (auth : Byte) (op : Half) (h : Handle) (s : State) :
    Host.Outcome State Fault Refusal :=
  .next (s.inTurn (.claimEnvelope auth op h)
    (s.request 0x40 auth op (some h) State.claimOwner))

/-- RELEASE_CLAIM. -/
def execReleaseClaim (auth : Byte) (op : Half) (h : Handle) (s : State) :
    Host.Outcome State Fault Refusal :=
  .next (s.inTurn (.releaseClaim auth op h)
    (s.request 0x41 auth op (some h) State.releaseOwner))

end Sys2Proof.Machine
end

