-- ==== Sys2Proof/Machine/Exchange.lean ====
section
/-! DEFINITION. The exchange of cassettes, vault contents and bins, and the cassette presence switches
(07; R21, R114). -/

namespace Sys2Proof.Machine

/-! ## Cassettes -/

/-- The declared figures of a LOAD_CASSETTE. -/
structure Declaration where
  pos : CassettePos
  denom : Nat
  count : Nat
  thickness : Nat
  length : Nat
deriving DecidableEq, Repr

/-- A figure clamped into its range (R122). -/
def clampFigure (lo hi x : Nat) : Nat := max lo (min hi x)

/-- The declaration with its figures taken: all but the denomination are clamped (R122). -/
def Declaration.taken (d : Declaration) : Declaration :=
  { d with
    count := clampFigure 0 3000 d.count
    thickness := clampFigure 40 250 d.thickness
    length := clampFigure 100 200 d.length }

/-- The new STOCK record of the figures taken (R8, R123); the low-mark flag is evaluated at creation
(R132). -/
def Declaration.stock (d : Declaration) (lowMark : Nat) : Stock :=
  { pos := d.pos
    denom := d.denom
    loaded := d.count
    pickedOut := 0
    paidOut := 0
    handed := 0
    rejected := 0
    inBundles := 0
    reserved := 0
    declThickness := d.thickness
    declLength := d.length
    tRef := d.thickness
    lRef := 2 * d.length
    tLow := d.thickness * 3 / 4
    tHigh := d.thickness * 5 / 4
    lLow := 2 * d.length * 3 / 4
    lHigh := 2 * d.length * 5 / 4
    balance := .initial
    lowMark := decide (d.count ≤ lowMark)
    quality := .exact }

/-- An accepted LOAD_CASSETTE (R123): the STOCK record, the position's pick-failure count back to 0, and
STOCK_LOW when it is created at or below the mark (R132). -/
def State.loadStock (s : State) (st : Stock) : State × Handle :=
  let c := s.createRecord (.stock st)
  let s := c.1.onNtc fun n => { n with pickFails := n.pickFails.put st.pos 0 }
  (if st.lowMark then s.setWallFlag .stockLow else s, c.2)

/-- LOAD_CASSETTE's owner (R121, R122, R123). -/
def State.loadOwner (s : State) (_ : Role) (d : Declaration) : State × Reply :=
  let st := d.taken.stock s.set.lowMark
  let c := s.loadStock st
  s.unless [(d.denom = 0 || decide (65535 < d.denom), .refuse .badRequest),
      (!s.grantOpen .dispenser, .refuse .grantRequired),
      ((s.ct.stockAt d.pos).isSome || !s.pins.presence.get d.pos, .refuse .state)]
    (c.1, .ok (.loaded c.2 st.loaded st.declThickness st.declLength st.tLow st.tHigh st.lLow st.lHigh))

/-- A stock cannot be unloaded while a reservation, a picked note in a bundle or a live plan stands on it
(R124). -/
def Ct.stockBusy (ct : Ct) (h : Handle) (st : Stock) : Bool :=
  decide (0 < st.reserved) || decide (0 < st.inBundles) || ct.bundles.any fun p => p.2.names h

/-- UNLOAD_CASSETTE's owner (R124). -/
def State.unloadOwner (s : State) (_ : Role) (p : CassettePos) : State × Reply :=
  if s.grantOpen .dispenser then
    match s.ct.stockAt p with
    | none => (s, .refuse .state)
    | some (h, st) =>
      s.unless [(s.ct.holdsOf (.stock st) != 0, .refuse .held),
          (s.ct.stockBusy h st, .refuse .busy)]
        ((s.onCt fun ct => ct.retire h).invalidateQuotes h, .ok (.closing h st))
  else (s, .refuse .grantRequired)

/-- A stock after RECONCILE (R125). -/
def Stock.reconcile (st : Stock) (counted : Nat) : Stock :=
  { st with loaded := counted + st.pickedOut, quality := .exact, balance := .clean }

/-- RECONCILE's owner (R121, R125): whatever the count, the quotes naming the stock become INVALID (R52). -/
def State.reconcileOwner (s : State) (_ : Role) (a : CassettePos × Nat) : State × Reply :=
  if 3000 < a.2 then (s, .refuse .badRequest)
  else if s.grantOpen .dispenser then
    match s.ct.stockAt a.1 with
    | none => (s, .refuse .state)
    | some (h, st) =>
      s.unless [(!s.pins.presence.get a.1, .refuse .state),
          (decide (a.2 < st.reserved), .refuse .busy)]
        ((s.tallyStock h fun st => st.reconcile a.2).invalidateQuotes h,
          .ok (.reconciled st (Stock.evalLow st (st.reconcile a.2) s.set.lowMark)))
  else (s, .refuse .grantRequired)

/-- A cassette's presence switch opens (R126): a live stock becomes DOUBTFUL(MISSING), with what that
brings to quotes and bundles. -/
def State.presenceOpens (s : State) (p : CassettePos) : State :=
  let s := s.onPins fun x => { x with presence := x.presence.put p false }
  match s.ct.stockAt p with
  | some (h, _) => s.doubtStockInUse h .missing
  | none => s

/-! ## The reject vault -/

/-- The note transport can send notes into the vault (R128). -/
def State.vaultBusy (s : State) : Bool :=
  match s.ntc.phase with
  | .leader | .picking | .diverting => true
  | _ => false

/-- RECONCILE_RV's owner (R128). -/
def State.reconcileRvOwner (s : State) (_ : Role) (counted : Nat) : State × Reply :=
  if s.grantOpen .reject then
    match s.ct.vault? with
    | none => (s, .refuse .state)
    | some (_, v) =>
      s.unless [(decide (v.capacity < counted), .refuse .badRequest),
          (s.vaultBusy, .refuse .busy)] <|
        let new : Vault := { v with count := counted, quality := .exact }
        let s := s.onVault fun _ => new
        (if counted < v.count then s.examineQueue else s, .ok (.vaultCount v new))
  else (s, .refuse .grantRequired)

/-- Retire the live reject vault record, if there is one. -/
def State.retireVault (s : State) : State :=
  match s.ct.vault? with
  | some (h, _) => s.onCt fun ct => ct.retire h
  | none => s

/-- EMPTY_REJECT_VAULT's owner (R129). -/
def State.emptyVaultOwner (s : State) (_ : Role) (_ : Unit) : State × Reply :=
  let old := s.ct.vault?.map (·.2)
  let c := s.retireVault.createRecord (.vault ⟨0, s.set.rvCapacity, .exact⟩)
  s.unless [(!s.grantOpen .reject, .refuse .grantRequired), (s.vaultBusy, .refuse .busy)]
    (c.1.examineQueue, .ok (.vaultEmptied old c.2 s.set.rvCapacity))

/-! ## Envelope bins -/

/-- The live envelopes that name a bin's record (R21). -/
def Ct.envelopesIn (ct : Ct) (h : Handle) : List (Handle × Envelope) :=
  ct.envelopes.filter fun p =>
    match p.2.place with
    | .inBin k _ => k = h
    | .collected => false

/-- A bin's contents leave it (R21): the unclaimed envelopes are retired in ascending slot order, and the
claimed ones move to COLLECTED. -/
def Ct.emptyBin (ct : Ct) (h : Handle) : Ct :=
  let es := ct.envelopesIn h
  let ct := (es.filter fun p => !p.2.claimed).foldl (fun ct p => ct.retire p.1) ct
  (es.filter (·.2.claimed)).foldl
    (fun ct p => ct.write p.1 (.envelope { p.2 with place := .collected })) ct

/-- The lowest of some capture numbers, when there is one. -/
def lowest : List Nat → Option Nat
  | [] => none
  | n :: ns => some (ns.foldl min n)

/-- The highest of some capture numbers, when there is one. -/
def highest : List Nat → Option Nat
  | [] => none
  | n :: ns => some (ns.foldl max n)

/-- The envelope transport runs the leader of a CLEAR_TRANSPORT (R130). -/
def State.clearingEnv (s : State) : Bool := s.ecc.phase = .leader && s.ecc.current.isNone

/-- An accepted COLLECT_BIN (R21, R130): contents, bin record, and the other bin's role (R114). -/
def State.collect (s : State) (h : Handle) (v : Bin) : State :=
  let before := s.openCondition
  let s := s.onCt fun ct => (ct.emptyBin h).retire h
  let s := if v.role = .active then (s.switchBins v.bin).getD s else s
  s.followOpen before

/-- COLLECT_BIN's owner (R130). -/
def State.collectOwner (s : State) (_ : Role) (b : BinId) : State × Reply :=
  if s.grantOpen .capture then
    match s.ct.binAt b with
    | none => (s, .refuse .state)
    | some (h, v) =>
      let es := s.ct.envelopesIn h
      let numbers := es.map (·.2.number)
      let moved := (es.filter (·.2.claimed)).length
      s.unless [(s.ct.holdsOf (.bin v) != 0, .refuse .held), (s.clearingEnv, .refuse .busy)]
        (s.collect h v,
          .ok (.collected v (lowest numbers) (highest numbers) (es.length - moved) moved))
  else (s, .refuse .grantRequired)

/-- The new bin record (R131): ACTIVE when no live bin is ACTIVE, STANDBY otherwise. -/
def State.newBin (s : State) (b : BinId) : Bin :=
  ⟨b, 0, 0, s.set.binCapacity, s.set.binHeightLimit * 1000,
    if s.ct.activeBin.isSome then .standby else .active, .exact⟩

/-- INSERT_BIN's owner (R131). -/
def State.insertOwner (s : State) (_ : Role) (b : BinId) : State × Reply :=
  let v := s.newBin b
  let c := s.createRecord (.bin v)
  s.unless [(!s.grantOpen .capture, .refuse .grantRequired),
      ((s.ct.binAt b).isSome, .refuse .state)]
    ((c.1.followOpen s.openCondition).arbitrate, .ok (.inserted c.2 v.role v.capacity v.heightLimit))

/-! ## The commands -/

/-- LOAD_CASSETTE. -/
def execLoadCassette (auth : Byte) (op : Half) (position : Byte) (denomination : Quad)
    (count thickness length : Half) (s : State) : Host.Outcome State Fault Refusal :=
  .next (s.inTurn (.loadCassette auth op position denomination count thickness length)
    (s.request 0x50 auth op ((posOf position).map fun p =>
      ⟨p, denomination.toNat, count.toNat, thickness.toNat, length.toNat⟩) State.loadOwner))

/-- UNLOAD_CASSETTE. -/
def execUnloadCassette (auth : Byte) (op : Half) (position : Byte) (s : State) :
    Host.Outcome State Fault Refusal :=
  .next (s.inTurn (.unloadCassette auth op position)
    (s.request 0x51 auth op (posOf position) State.unloadOwner))

/-- RECONCILE. -/
def execReconcile (auth : Byte) (op : Half) (position : Byte) (counted : Half) (s : State) :
    Host.Outcome State Fault Refusal :=
  .next (s.inTurn (.reconcile auth op position counted)
    (s.request 0x52 auth op ((posOf position).map fun p => (p, counted.toNat)) State.reconcileOwner))

/-- EMPTY_REJECT_VAULT. -/
def execEmptyRejectVault (auth : Byte) (op : Half) (s : State) : Host.Outcome State Fault Refusal :=
  .next (s.inTurn (.emptyRejectVault auth op)
    (s.request 0x53 auth op (some ()) State.emptyVaultOwner))

/-- RECONCILE_RV. -/
def execReconcileRv (auth : Byte) (op : Half) (counted : Half) (s : State) :
    Host.Outcome State Fault Refusal :=
  .next (s.inTurn (.reconcileRv auth op counted)
    (s.request 0x54 auth op (some counted.toNat) State.reconcileRvOwner))

/-- COLLECT_BIN. -/
def execCollectBin (auth : Byte) (op : Half) (bin : Byte) (s : State) :
    Host.Outcome State Fault Refusal :=
  .next (s.inTurn (.collectBin auth op bin)
    (s.request 0x55 auth op (binOf bin) State.collectOwner))

/-- INSERT_BIN. -/
def execInsertBin (auth : Byte) (op : Half) (bin : Byte) (s : State) :
    Host.Outcome State Fault Refusal :=
  .next (s.inTurn (.insertBin auth op bin)
    (s.request 0x56 auth op (binOf bin) State.insertOwner))

/-- A cassette's presence switch opens (R126). -/
def execPresenceSwitchOpen (p : CassettePos) (s : State) : Host.Outcome State Fault Refusal :=
  .next (if s.pins.presence.get p then s.presenceOpens p else s)

/-- A cassette's presence switch closes: only the presence mark changes (R126). -/
def execPresenceSwitchClose (p : CassettePos) (s : State) : Host.Outcome State Fault Refusal :=
  .next (s.onPins fun x => { x with presence := x.presence.put p true })

end Sys2Proof.Machine
end

