-- ==== Sys2Proof/Machine/Frames.lean ====
section
/-! DEFINITION. The bytes of the station link: the frame check (R164), the response frame (10, section
10.2), and the layouts that 10, sections 10.5 to 10.8, and R167 give for answers and refusal details. A number for
which 10 gives no width takes `Config.figureWidth`, a state or condition for which it gives no code
`Config.nameCode` (log entry 9). -/

namespace Sys2Proof.Machine

/-! ## Bytes and the frame check -/

/-- One bit step of the frame check's register: generator 0x1021, no reflection (R164). -/
def crcBit (r : Half) : Half := if r.msb then (r <<< 1) ^^^ 0x1021 else r <<< 1

/-- One byte enters the high end of the register, most-significant bit first (R164). -/
def crcByte (r : Half) (b : Byte) : Half :=
  crcBit (crcBit (crcBit (crcBit (crcBit (crcBit (crcBit (crcBit (r ^^^ (b ++ (0 : Byte))))))))))

/-- The frame check over some bytes, from 0xFFFF, with no final inversion (R164). -/
def crc (bytes : List Byte) : Half := bytes.foldl crcByte 0xFFFF

/-! ## Codes -/

/-- The STATUS codes (10, section 10.5). -/
def Status.code : Status → Nat
  | .ok => 0x00
  | .accepted => 0x01
  | .badRequest => 0x10
  | .authority => 0x11
  | .noLane => 0x12
  | .noRecord => 0x13
  | .busy => 0x14
  | .state => 0x15
  | .held => 0x16
  | .doubt => 0x17
  | .staleQuote => 0x18
  | .noPlan => 0x19
  | .grantRequired => 0x1A
  | .doorOpen => 0x1B
  | .full => 0x1C

/-- The loop class codes (R167). -/
def loopCode : LoopClass → Nat
  | .none => 0
  | .short => 1
  | .normal => 2
  | .tripped => 3
  | .openLoop => 4
  | .unscanned => 5
  | .undetermined => 6

/-- The doubt cause codes (10, section 10.6). -/
def DoubtCause.code : DoubtCause → Nat
  | .jam => 1
  | .door => 2
  | .pickFail => 3
  | .power => 4
  | .missing => 5
  | .overdrawn => 6
  | .overflow => 7

/-- A quality's doubt cause code, 0 when absent. -/
def Quality.causeCode : Quality → Nat
  | .doubtful c => c.code
  | _ => 0

/-- The balance state codes (10, section 10.6). -/
def Balance.code : Balance → Nat
  | .initial => 1
  | .clean => 2
  | .dirty => 3

/-- The bin role codes (10, section 10.6). -/
def BinRole.code : BinRole → Nat
  | .active => 1
  | .standby => 2
  | .full => 3

/-- The BUNDLE state codes (10, section 10.6). -/
def BundleState.code : BundleState → Nat
  | .queued => 1
  | .picking => 2
  | .stacked => 3
  | .routing => 4
  | .delivered => 5
  | .presented => 6
  | .retracted => 7

/-- The TRANSIT state codes (10, section 10.6). -/
def TransitState.code : TransitState → Nat
  | .loaded => 1
  | .presented => 2
  | .returned => 3
  | .atTeller => 4

/-- The direction codes (10, section 10.6). -/
def Direction.code : Direction → Nat
  | .out => 1
  | .inward => 2

/-- The failure reason codes (10, section 10.6). -/
def FailReason.code : FailReason → Nat
  | .empty => 1
  | .rejectLimit => 2
  | .jam => 3
  | .door => 4
  | .stackerTimeout => 5
  | .power => 6

/-- The last outcome's outcome and reason codes, the reason 0 when absent (10, section 10.6). -/
def Ending.codes : Ending → Nat × Nat
  | .taken => (1, 0)
  | .handed => (2, 0)
  | .cancelled => (3, 0)
  | .failed r => (4, r.code)

/-- A throat's code, for which 10, section 10.6 lists none: T1 is 1 and T2 is 2 (log entry 55). -/
def throatCode : Throat → Nat
  | .t1 => 1
  | .t2 => 2

/-- A bin's code (10, section 10.4). -/
def binCode : BinId → Nat
  | .b1 => 1
  | .b2 => 2

/-- A service area's code (10, section 10.4). -/
def areaCode : Area → Nat
  | .dispenser => 1
  | .reject => 2
  | .capture => 3
  | .wall => 4

/-- The area and position codes of a location (10, section 10.6). -/
def Location.codes : Location → Nat × Nat
  | .cassette p => (1, p.num)
  | .transport => (1, 6)
  | .stacker => (1, 7)
  | .vault => (2, 8)
  | .bin b => (3, 8 + binCode b)
  | .chute l => (3 + l.num, 11)
  | .tray l => (3 + l.num, 12)
  | .teller l => (3 + l.num, 13)
  | .collected => (8, 0)

/-- The kind codes (10, section 10.6). -/
def Record.kindCode : Record → Nat
  | .stock _ => 1
  | .vault _ => 2
  | .bin _ => 2
  | .bundle _ => 3
  | .transit _ => 4
  | .envelope _ => 5

/-- The state codes (10, section 10.6). -/
def Record.stateCode : Record → Nat
  | .stock _ => 1
  | .vault _ => 1
  | .bin _ => 1
  | .bundle b => b.state.code
  | .transit t => t.state.code
  | .envelope e =>
    match e.place with
    | .inBin _ _ => 1
    | .collected => 2

/-- A bit of a marks byte. -/
def markBit (n : Nat) (b : Bool) : Nat := if b then 2 ^ n else 0

/-- A delegation's code: bit 0 CONSOLE, bit 1 PANEL, bit 2 CENTRAL (10, section 10.4). -/
def Delegation.code (d : Delegation) : Nat :=
  markBit 0 d.console + markBit 1 d.panel + markBit 2 d.central

/-! ## Record images -/

/-- The common header of an image (10, section 10.6). -/
def Image.header (i : Image) : List Byte :=
  leBytes 2 i.handle.toNat ++ leBytes 1 i.record.kindCode ++ leBytes 1 i.record.stateCode
    ++ leBytes 1 i.record.location.codes.1 ++ leBytes 1 i.record.location.codes.2
    ++ leBytes 1 ((i.record.owner.map Lane.num).getD 0) ++ leBytes 1 i.quality.rank
    ++ leBytes 1 i.quality.causeCode ++ leBytes 2 i.holds.toNat

/-- The STOCK part of an image (10, section 10.6). -/
def Image.stockPart (i : Image) (st : Stock) : List Byte :=
  leBytes 2 st.denom
    ++ leBytes 1 (markBit 0 i.reduced + markBit 1 st.lowMark + markBit 2 i.presence)
    ++ leBytes 1 st.balance.code ++ leBytes 2 i.available
    ++ if i.reduced then [] else
      leBytes 4 st.loaded ++ leBytes 4 st.pickedOut ++ leBytes 4 st.paidOut ++ leBytes 4 st.handed
        ++ leBytes 4 st.rejected ++ leBytes 2 st.inBundles ++ leBytes 2 st.remaining
        ++ leBytes 2 st.reserved ++ leBytes 1 st.declThickness ++ leBytes 1 st.declLength
        ++ leBytes 2 st.tRef ++ leBytes 2 st.lRef ++ leBytes 2 st.tLow ++ leBytes 2 st.tHigh
        ++ leBytes 2 st.lLow ++ leBytes 2 st.lHigh

/-- The part of a bundle's plan in an image (10, section 10.6). -/
def Part.bytes (p : Part) : List Byte :=
  leBytes 2 p.stock.toNat ++ leBytes 1 p.target ++ leBytes 1 p.stacked

/-- The container handle of an envelope, 0 when absent (10, section 10.6). -/
def Envelope.container (e : Envelope) : Handle :=
  match e.place with
  | .inBin h _ => h
  | .collected => 0

/-- Whether an envelope still has a container (10, section 10.6). -/
def Envelope.inBin (e : Envelope) : Bool :=
  match e.place with
  | .inBin _ _ => true
  | .collected => false

/-- The part of its kind in an image (10, section 10.6). -/
def Image.part (i : Image) : List Byte :=
  match i.record with
  | .stock st => i.stockPart st
  | .vault v => leBytes 2 v.capacity ++ leBytes 2 v.count
  | .bin v =>
    leBytes 1 v.capacity ++ leBytes 1 v.count ++ leBytes 1 v.role.code ++ leBytes 4 v.height
      ++ leBytes 4 v.heightLimit
  | .bundle b =>
    leBytes 4 b.amount ++ leBytes 2 b.sequence ++ leBytes 1 b.rejects ++ leBytes 1 b.parts.length
      ++ b.parts.flatMap Part.bytes
  | .transit t => leBytes 1 t.direction.code ++ leBytes 2 t.tag
  | .envelope e =>
    leBytes 4 e.number ++ leBytes 1 (throatCode e.throat)
      ++ leBytes 1 (markBit 0 e.inBin + markBit 1 e.imprinted + markBit 2 e.irregular
        + markBit 3 e.claimed)
      ++ leBytes 2 e.container.toNat ++ leBytes 2 e.length ++ leBytes 2 e.thickness

/-- A record image (10, section 10.6; R168). -/
def Image.bytes (i : Image) : List Byte := i.header ++ i.part

/-- An image of LIST_LANE, with its length before it; an absent one is omitted (R25; 10, section 10.6). -/
def listedImage : Option Image → List Byte
  | none => []
  | some i => leBytes 1 i.bytes.length ++ i.bytes

/-- The last outcome of LIST_LANE (10, section 10.6). -/
def lastBytes : Option LastOutcome → List Byte
  | none => leBytes 10 0
  | some o =>
    leBytes 2 o.handle.toNat ++ leBytes 1 o.ending.codes.1 ++ leBytes 1 o.ending.codes.2
      ++ leBytes 4 o.amount ++ leBytes 1 o.notes ++ leBytes 1 o.quality.rank

/-! ## Totals and the alarm table -/

/-- The bytes of a part that may be absent, after its presence byte (10, section 10.7.1). -/
def presentBytes {α : Type} (f : α → List Byte) : Option α → List Byte
  | none => leBytes 1 0
  | some a => leBytes 1 1 ++ f a

/-- A stock of READ_TOTALS (10, section 10.7.1), which gives the low-mark flag no place (log entry 40). -/
def StockTotal.bytes (reduced : Bool) (t : StockTotal) : List Byte :=
  leBytes 2 t.denom ++ (if reduced then [] else leBytes 2 t.remaining ++ leBytes 4 t.value)
    ++ leBytes 1 t.quality.rank ++ leBytes 1 t.balance.code

/-- A bin of READ_TOTALS (10, section 10.7.1). -/
def Bin.totalBytes (v : Bin) : List Byte :=
  leBytes 1 v.count ++ leBytes 4 v.height ++ leBytes 1 v.role.code ++ leBytes 1 v.quality.rank

/-- READ_TOTALS (10, section 10.7.1). -/
def Totals.bytes (t : Totals) : List Byte :=
  leBytes 1 (markBit 0 t.reduced + markBit 1 t.balanceOpen)
    ++ presentBytes (StockTotal.bytes t.reduced) t.stocks.c1
    ++ presentBytes (StockTotal.bytes t.reduced) t.stocks.c2
    ++ presentBytes (StockTotal.bytes t.reduced) t.stocks.c3
    ++ presentBytes (StockTotal.bytes t.reduced) t.stocks.c4
    ++ presentBytes (StockTotal.bytes t.reduced) t.stocks.c5
    ++ (if t.reduced then [] else leBytes 4 t.total) ++ leBytes 1 t.quality.rank
    ++ presentBytes (fun v => leBytes 2 v.count ++ leBytes 1 v.quality.rank) t.vault
    ++ presentBytes Bin.totalBytes t.bin1 ++ presentBytes Bin.totalBytes t.bin2
    ++ leBytes 1 t.claimed

/-- A zone's deferred trip is set (10, section 10.7). -/
def Deferred.isSet : Deferred → Bool
  | .clear => false
  | _ => true

/-- A zone of READ_ALARMS; one that the reader does not receive is sent as 0 (10, section 10.7). -/
def zoneBytes : Option Zone → List Byte
  | none => leBytes 3 0
  | some w =>
    leBytes 1 (loopCode w.cls)
      ++ leBytes 1 (markBit 0 w.pending + markBit 1 w.repeated + markBit 2 w.trouble
        + markBit 3 w.injected + markBit 4 w.restoreNeeded + markBit 5 w.deferred.isSet
        + markBit 6 w.enable + markBit 7 (w.mode = .test))
      ++ leBytes 1 w.delegation.code

/-- The outputs' byte (10, section 10.7). -/
def Outputs.code (o : Outputs) : Nat :=
  markBit 0 o.holdup + markBit 1 o.intrusion + markBit 2 o.trouble + markBit 3 o.test
    + markBit 4 o.panel

/-- The grant state codes (10, section 10.7). -/
def GrantState.code : GrantState → Nat
  | .closed => 1
  | .proposed => 2
  | .opened => 3

/-- A grant of READ_ALARMS; its time left in whole seconds, rounded down (10, section 10.7). -/
def Grant.bytes (g : Grant) : List Byte :=
  leBytes 1 g.state.code ++ leBytes 2 (g.proposer.getD 0) ++ leBytes 2 (g.confirmer.getD 0)
    ++ leBytes 2 (g.timer.left / 1000)

/-- The top zone and its basis (10, section 10.7); with no top zone the basis is sent as 0. -/
def topBytes : Option TopZone → List Byte
  | none => leBytes 1 0xFF ++ leBytes 1 0
  | some t => leBytes 1 t.zone.val ++ leBytes 1 (if t.forPending then 1 else 2)

/-- READ_ALARMS (10, section 10.7). -/
def AlarmView.bytes (v : AlarmView) : List Byte :=
  v.zones.flatMap zoneBytes ++ leBytes 1 v.outputs.code
    ++ leBytes 2 v.holdDispenser.toNat ++ leBytes 2 v.holdReject.toNat ++ leBytes 2 v.holdCapture.toNat
    ++ leBytes 2 v.holdLane.l1.toNat ++ leBytes 2 v.holdLane.l2.toNat ++ leBytes 2 v.holdLane.l3.toNat
    ++ leBytes 2 v.holdLane.l4.toNat
    ++ v.grants.dispenser.bytes ++ v.grants.reject.bytes ++ v.grants.capture.bytes
    ++ v.grants.wall.bytes ++ topBytes v.top

/-! ## Answers -/

/-- The reason codes of NO_PLAN (10, section 10.5). -/
def NoPlanReason.code : NoPlanReason → Nat
  | .overLimit => 1
  | .noCombination => 2
  | .shortStock => 3

/-- A figure of an answer's body (R167): in a width that 10 gives, a number of no stated width, or a state or
condition of no stated code, which takes one byte as every code of 10 does. -/
inductive Figure where
  | fixed (width value : Nat)
  | number (value : Nat)
  | name (value : Nat)
deriving DecidableEq, Repr

/-- The bytes of a figure; `place` is its place among those of the answer (R167; log entry 9). -/
def Figure.bytes (code place : Nat) : Figure → List Byte
  | .fixed w v => leBytes w v
  | .number v => leBytes (Config.figureWidth code place + 1) v
  | .name v => [Config.nameCode code place v]

/-- The bytes of an answer's figures, in their order (R167). -/
def figuresBytes (code : Nat) (l : List Figure) : List Byte :=
  l.zipIdx.flatMap fun p => p.1.bytes code p.2

/-- A mark: bit 0 of a byte. -/
def markFigure (b : Bool) : Figure := .fixed 1 (markBit 0 b)

/-- A handle, 0 when absent (10, section 10.6). -/
def handleFigure (h : Option Handle) : Figure := .fixed 2 ((h.map BitVec.toNat).getD 0)

/-- A state or condition that may be absent: a code of 0 marks it so (10, section 10.6). -/
def optName : Option Nat → Figure
  | none => .fixed 1 0
  | some n => .name n

/-- A motion's figure. -/
def Motion.figure : Motion → Nat
  | .extending => 1
  | .retracting => 2

/-- A drawer state's figure, in the order of 05, section 5.1.1. -/
def DrawerState.figure : DrawerState → Nat
  | .home => 1
  | .extending => 2
  | .out => 3
  | .retracting => 4
  | .stopped => 5
  | .jammed => 6

/-- A timer's condition and its time left in milliseconds (R87; log entry 53). -/
def Timer.figures : Timer → List Figure
  | .stopped => [.name 1, .number 0]
  | .running n => [.name 2, .number n]
  | .frozen n => [.name 3, .number n]

/-- A saved context's figures after its presence mark (R87). -/
def savedFigures : Option SavedContext → List Figure
  | none => [markFigure false]
  | some c =>
    [markFigure true, .name c.state.figure, optName (c.direction.map Motion.figure),
      handleFigure c.consignment, markFigure c.takeRunning]

/-- An NTC state's figure, in the order of 04, section 4.1.1. -/
def NoteState.figure : NoteState → Nat
  | .idle => 1
  | .leader => 2
  | .picking => 3
  | .stackedWait => 4
  | .routing => 5
  | .diverting => 6
  | .jammed => 7
  | .paused => 8

/-- An envelope transport state's figure, in the order of 06, section 6.1.1. -/
def EnvState.figure : EnvState → Nat
  | .idle => 1
  | .leader => 2
  | .measuring => 3
  | .forward => 4
  | .reversing => 5
  | .recapture => 6
  | .jammed => 7
  | .paused => 8

/-- A throat state's figure, in the order of 06, section 6.1.1. -/
def ThroatState.figure : ThroatState → Nat
  | .closed => 1
  | .opened => 2
  | .waiting => 3
  | .intake => 4
  | .returning => 5
  | .returnWait => 6

/-- A throat's figures: its state and the return-wait time left, in milliseconds (log entry 53), or the overdue
mark (R105). -/
def ThroatUnit.figures (u : ThroatUnit) : List Figure :=
  [.name u.state.figure, markFigure u.overdue, .number u.wait.left]

/-- A class's figure, with the reason of a RETURN (R42). -/
def EnvClass.figure : EnvClass → Nat
  | .accept => 1
  | .handBack .length => 2
  | .handBack .thick => 3
  | .handBack .skew => 4

/-- The parts of the current envelope that are present (R105). One taken for recapture shows the measurements its
throat kept, and no class (log entry 72). -/
def currentFigures : Option CurrentEnv → List Figure
  | none => [markFigure false]
  | some e =>
    [markFigure true, .fixed 1 (throatCode e.throat), optName (e.cls.map EnvClass.figure)]
      ++ (match e.meas with
        | none => [markFigure false]
        | some m => [markFigure true, .fixed 2 m.ls, .fixed 2 m.t, .number m.skew])
      ++ [.fixed 1 ((e.dest.map binCode).getD 0), .fixed 4 (e.number.getD 0), markFigure e.imprinted]

/-- A bin record's handle and role, 0 when absent (R105). -/
def binFigures : Option (Handle × BinRole) → List Figure
  | none => [.fixed 2 0, .fixed 1 0]
  | some (h, r) => [.fixed 2 h.toNat, .fixed 1 r.code]

/-- An ending's outcome and reason, 0 when absent (R65; 10, section 10.6). -/
def endingFigures : Option Ending → List Figure
  | none => [.fixed 1 0, .fixed 1 0]
  | some e => [.fixed 1 e.codes.1, .fixed 1 e.codes.2]

/-! ### Answers laid out by R167: the figures of the rule in its order, in the widths of the record image,
differences in four bytes (log entry 9) -/

/-- A difference in four bytes, two's complement (R167). -/
def differenceBytes (x : Int) : List Byte := leBytes 4 (BitVec.ofInt 32 x).toNat

/-- A quality with its doubt cause, 0 when absent (10, section 10.6). -/
def Quality.bytes (q : Quality) : List Byte := leBytes 1 q.rank ++ leBytes 1 q.causeCode

/-- The parts of a plan as QUOTE and DISPENSE answer them: position, denomination and count (R51, R134). -/
def quoteParts (parts : List (CassettePos × Nat × Nat)) : List Byte :=
  parts.flatMap fun p => leBytes 1 p.1.num ++ leBytes 2 p.2.1 ++ leBytes 1 p.2.2

/-- The final figures of an unloaded stock (R124). -/
def Stock.closingBytes (st : Stock) : List Byte :=
  leBytes 1 st.pos.num ++ leBytes 2 st.denom ++ leBytes 4 st.loaded ++ leBytes 4 st.pickedOut
    ++ leBytes 4 st.paidOut ++ leBytes 4 st.handed ++ leBytes 4 st.rejected ++ leBytes 2 st.inBundles
    ++ leBytes 2 st.remaining ++ st.quality.bytes ++ leBytes 1 st.balance.code

/-- A stock's figures before or after a reconciliation (R125). -/
def Stock.countBytes (st : Stock) : List Byte :=
  leBytes 4 st.loaded ++ leBytes 2 st.remaining ++ st.quality.bytes ++ leBytes 1 st.balance.code

/-- RECONCILE's answer: the figures before and after, and the difference in notes and in currency units
(R125). -/
def reconciledBytes (old new : Stock) : List Byte :=
  let diff : Int := (new.remaining : Int) - (old.remaining : Int)
  old.countBytes ++ new.countBytes ++ differenceBytes diff ++ differenceBytes (diff * (old.denom : Int))

/-- RECONCILE_RV's answer: count and quality before and after, and the difference (R128). -/
def vaultCountBytes (old new : Vault) : List Byte :=
  leBytes 2 old.count ++ leBytes 1 old.quality.rank ++ leBytes 2 new.count
    ++ leBytes 1 new.quality.rank ++ differenceBytes ((new.count : Int) - (old.count : Int))

/-- COLLECT_BIN's answer (R130, R21); a capture number is 0 when the bin holds no envelope. -/
def collectedBytes (v : Bin) (lo hi : Option Nat) (retired moved : Nat) : List Byte :=
  leBytes 1 v.count ++ leBytes 4 v.height ++ leBytes 1 v.role.code ++ v.quality.bytes
    ++ leBytes 4 (lo.getD 0) ++ leBytes 4 (hi.getD 0) ++ leBytes 1 retired ++ leBytes 1 moved

/-- The figures of an answer of which 10 leaves some width or code open, and of those laid out beside it, in
their rule's order (R167). The time left of OPEN_GRANT is in milliseconds (log entry 53). The plan part being
picked is counted from 1 in READ_TRANSPORT (note), and 0 is sent when there is none (log entry 61). A switch or
tray of READ_DRAWER is a mark, set for closed and for OCCUPIED (log entry 74), and the mark of WRITE_SETTING is set
for a value held pending (log entry 75). -/
def Answer.figures : Answer → List Figure
  | .setting v p => [.fixed 2 v, markFigure p.isSome] ++ (p.map (Figure.fixed 2)).toList
  | .handles first total more =>
    first.map (fun h => .fixed 2 h.toNat) ++ [.number total, markFigure more]
  | .released notes => notes.flatMap fun p => [.fixed 2 p.1.toNat, .fixed 1 p.2]
  | .vaultEmptied none h c => [.fixed 2 h.toNat, .fixed 2 c]
  | .grant a t => [.fixed 1 (areaCode a), .number t.left]
  | .stored id index v held => [.fixed 1 id.toNat, .fixed 1 index.toNat, .fixed 2 v, markFigure held]
  | .drawer v =>
    [.name v.state.figure, optName (v.halted.map Motion.figure), markFigure v.home, markFigure v.out,
        markFigure v.tray]
      ++ v.take.figures ++ [.fixed 2 v.locks.toNat] ++ savedFigures v.saved
      ++ [handleFigure v.consignment]
  | .noteTransport v =>
    [.name v.state.figure, optName (v.saved.map NoteState.figure), handleFigure v.current]
      ++ endingFigures v.pendingEnd
      ++ [.number ((v.part.map (· + 1)).getD 0), .fixed 1 v.stackerCount, .number v.pickFails.c1,
        .number v.pickFails.c2, .number v.pickFails.c3, .number v.pickFails.c4, .number v.pickFails.c5]
  | .envTransport v =>
    [.name v.state.figure, optName (v.saved.map EnvState.figure)]
      ++ v.throats.t1.figures ++ v.throats.t2.figures ++ [.fixed 1 (throatCode v.lastServed)]
      ++ currentFigures v.current ++ [.fixed 4 v.nextNumber] ++ binFigures v.bin1 ++ binFigures v.bin2
  | _ => []

/-- The BODY of a response: the layouts of 10, sections 10.5 to 10.8, and of R173, and for the other answers
that of R167, their figures in the rule's order (log entry 9). -/
def Answer.bytes (code : Nat) : Answer → List Byte
  | .empty => []
  | .identify n => leBytes 2 440 ++ leBytes 1 0x41 ++ leBytes 1 n
  | .events a b c d w => [a, b, c, d] ++ leBytes 2 w.toNat
  | .image i => i.bytes
  | .lane b t o => listedImage b ++ listedImage t ++ lastBytes o
  | .totals t => t.bytes
  | .alarms v => v.bytes
  | .handle h => leBytes 2 h.toNat
  | .dispensed h parts => leBytes 2 h.toNat ++ quoteParts parts
  | .zone w => zoneBytes (some w)
  | .delegation d => leBytes 1 d.code
  | .zonesPending m => leBytes 2 m.toNat
  | .loopClass c => leBytes 1 (loopCode c)
  | .position p => leBytes 1 p.num
  | .noPlan r p g => leBytes 1 r.code ++ leBytes 1 ((p.map CassettePos.num).getD 0) ++ leBytes 4 g
  | .doorOpen z c => leBytes 1 z.val ++ leBytes 1 (loopCode c)
  | .found h n => leBytes 2 h.toNat ++ leBytes 1 n
  | .quote tag l amount parts total q =>
    leBytes 1 tag ++ leBytes 1 l.num ++ leBytes 4 amount ++ quoteParts parts ++ leBytes 1 total
      ++ leBytes 1 q.rank
  | .claims n => leBytes 1 n
  | .loaded h c t l tl th ll lh =>
    leBytes 2 h.toNat ++ leBytes 4 c ++ leBytes 1 t ++ leBytes 1 l ++ leBytes 2 tl ++ leBytes 2 th
      ++ leBytes 2 ll ++ leBytes 2 lh
  | .closing h st => st.closingBytes ++ leBytes 2 h.toNat
  | .reconciled a b => reconciledBytes a b
  | .vaultCount a b => vaultCountBytes a b
  | .vaultEmptied (some v) h c =>
    leBytes 2 v.count ++ v.quality.bytes ++ leBytes 2 h.toNat ++ leBytes 2 c
  | .collected v lo hi n m => collectedBytes v lo hi n m
  | .inserted h r c l => leBytes 2 h.toNat ++ leBytes 1 r.code ++ leBytes 1 c ++ leBytes 4 l
  | .enables m => leBytes 2 m.toNat
  | a => figuresBytes code a.figures

/-- The LENGTH, CODE echo, STATUS and BODY of a response, over which its CHECK is computed (R164). -/
def Response.checked (r : Response) : List Byte :=
  let body := r.answer.bytes r.code
  leBytes 2 (body.length + 2) ++ leBytes 1 r.code ++ leBytes 1 r.status.code ++ body

/-- A response frame (10, section 10.2). -/
def Response.frame (r : Response) : List Byte :=
  0x3C :: r.checked ++ leBytes 2 (crc r.checked).toNat

end Sys2Proof.Machine
end

