-- ==== Sys2Proof/Machine/SettingsTable.lean ====
section
/-! DEFINITION. The settings of 10, section 10.9: their identifiers, ranges and writers, and
READ_SETTING and WRITE_SETTING (R172) with what a written value does at once (R44, R58, R106, R133). -/

namespace Sys2Proof.Machine

/-- A setting, with the lane, transport or track that its index selects (10, section 10.9). -/
inductive Setting where
  | fittedLanes | bundleLimit | pickRetry | rejectLimit | stackerWait | takeTimeout
  | autoPresent (l : Lane) | countView (l : Lane)
  | lowMark | rvCapacity | captureEnable | imprint | binCapacity | binHeightLimit | grantDuration
  | scanStart | scanEnd
  | threshold (t : Transport) | gainA (t : Transport) | gainB (t : Transport) | skew (t : Transport)
  | lengthTolerance | envLengthMin | envLengthMax | envThicknessMax
deriving DecidableEq, Repr

/-- A lane of an index 0 to 3 (10, section 10.9). -/
def laneOfIndex : Nat → Option Lane
  | 0 => some .l1
  | 1 => some .l2
  | 2 => some .l3
  | 3 => some .l4
  | _ => none

/-- A transport of an index 0 or 1 (10, section 10.9). -/
def transportOfIndex : Nat → Option Transport
  | 0 => some .note
  | 1 => some .envelope
  | _ => none

/-- A setting that has index 0 only. -/
def onlyIndex (x : Setting) : Nat → Option Setting
  | 0 => some x
  | _ => none

/-- A gauge gain of an index: note A, note B, envelope A, envelope B (10, section 10.9). -/
def gainOfIndex : Nat → Option Setting
  | 0 => some (.gainA .note)
  | 1 => some (.gainB .note)
  | 2 => some (.gainA .envelope)
  | 3 => some (.gainB .envelope)
  | _ => none

/-- The setting of an identifier and an index (10, section 10.9). -/
def settingOf (id index : Nat) : Option Setting :=
  match id with
  | 0x01 => onlyIndex .fittedLanes index
  | 0x02 => onlyIndex .bundleLimit index
  | 0x03 => onlyIndex .pickRetry index
  | 0x04 => onlyIndex .rejectLimit index
  | 0x05 => onlyIndex .stackerWait index
  | 0x06 => onlyIndex .takeTimeout index
  | 0x07 => (laneOfIndex index).map .autoPresent
  | 0x08 => (laneOfIndex index).map .countView
  | 0x09 => onlyIndex .lowMark index
  | 0x0A => onlyIndex .rvCapacity index
  | 0x0B => onlyIndex .captureEnable index
  | 0x0C => onlyIndex .imprint index
  | 0x0D => onlyIndex .binCapacity index
  | 0x0E => onlyIndex .binHeightLimit index
  | 0x0F => onlyIndex .grantDuration index
  | 0x10 => onlyIndex .scanStart index
  | 0x11 => onlyIndex .scanEnd index
  | 0x12 => (transportOfIndex index).map .threshold
  | 0x13 => gainOfIndex index
  | 0x14 => (transportOfIndex index).map .skew
  | 0x15 => onlyIndex .lengthTolerance index
  | 0x16 => onlyIndex .envLengthMin index
  | 0x17 => onlyIndex .envLengthMax index
  | 0x18 => onlyIndex .envThicknessMax index
  | _ => none

/-- The ends of a setting's range (10, section 10.9). -/
def Setting.range : Setting → Nat × Nat
  | .fittedLanes => (1, 4)
  | .bundleLimit => (1, 50)
  | .pickRetry => (1, 5)
  | .rejectLimit => (1, 20)
  | .stackerWait => (10, 120)
  | .takeTimeout => (10, 120)
  | .autoPresent _ => (0, 1)
  | .countView _ => (0, 1)
  | .lowMark => (0, 500)
  | .rvCapacity => (200, 2000)
  | .captureEnable => (0, 1)
  | .imprint => (0, 1)
  | .binCapacity => (10, 100)
  | .binHeightLimit => (100, 400)
  | .grantDuration => (1, 30)
  | .scanStart => (0, 15)
  | .scanEnd => (0, 15)
  | .threshold _ => (8, 1023)
  | .gainA _ => (1, 255)
  | .gainB _ => (1, 255)
  | .skew _ => (2, 40)
  | .lengthTolerance => (2, 40)
  | .envLengthMin => (100, 200)
  | .envLengthMax => (160, 300)
  | .envThicknessMax => (1000, 15000)

/-- A value clamped into the setting's range (R172). -/
def Setting.clamp (x : Setting) (v : Nat) : Nat := max x.range.1 (min x.range.2 v)

/-- Whether service is the setting's writer; the supervisor is otherwise (10, section 10.9). -/
def Setting.byService : Setting → Bool
  | .fittedLanes | .scanStart | .scanEnd | .threshold _ | .gainA _ | .gainB _ | .skew _
  | .lengthTolerance | .envLengthMin | .envLengthMax | .envThicknessMax => true
  | _ => false

/-- Whether a role is the setting's writer (R172). -/
def Setting.writtenBy (x : Setting) : Role → Bool
  | .service => x.byService
  | .supervisor => !x.byService
  | .teller _ => false

/-- A setting's value in effect and its pending value (R172). -/
def Setting.held (c : Settings) : Setting → Held
  | .fittedLanes => c.fittedLanes
  | .bundleLimit => ⟨c.bundleLimit, none⟩
  | .pickRetry => ⟨c.pickRetry, none⟩
  | .rejectLimit => ⟨c.rejectLimit, none⟩
  | .stackerWait => ⟨c.stackerWait, none⟩
  | .takeTimeout => ⟨c.takeTimeout, none⟩
  | .autoPresent l => ⟨c.autoPresent.get l, none⟩
  | .countView l => ⟨c.countView.get l, none⟩
  | .lowMark => ⟨c.lowMark, none⟩
  | .rvCapacity => ⟨c.rvCapacity, none⟩
  | .captureEnable => ⟨c.captureEnable, none⟩
  | .imprint => ⟨c.imprint, none⟩
  | .binCapacity => ⟨c.binCapacity, none⟩
  | .binHeightLimit => ⟨c.binHeightLimit, none⟩
  | .grantDuration => ⟨c.grantDuration, none⟩
  | .scanStart => ⟨c.scanStart, none⟩
  | .scanEnd => ⟨c.scanEnd, none⟩
  | .threshold .note => c.thresholdNote
  | .threshold .envelope => c.thresholdEnv
  | .gainA .note => c.gainNoteA
  | .gainA .envelope => c.gainEnvA
  | .gainB .note => c.gainNoteB
  | .gainB .envelope => c.gainEnvB
  | .skew .note => c.skewNote
  | .skew .envelope => c.skewEnv
  | .lengthTolerance => c.lengthTolerance
  | .envLengthMin => ⟨c.envLengthMin, none⟩
  | .envLengthMax => ⟨c.envLengthMax, none⟩
  | .envThicknessMax => ⟨c.envThicknessMax, none⟩

/-- Store a setting; only FITTED_LANES and the gauge settings keep a pending value (R172). -/
def Setting.store (c : Settings) (x : Setting) (h : Held) : Settings :=
  match x with
  | .fittedLanes => { c with fittedLanes := h }
  | .bundleLimit => { c with bundleLimit := h.value }
  | .pickRetry => { c with pickRetry := h.value }
  | .rejectLimit => { c with rejectLimit := h.value }
  | .stackerWait => { c with stackerWait := h.value }
  | .takeTimeout => { c with takeTimeout := h.value }
  | .autoPresent l => { c with autoPresent := c.autoPresent.put l h.value }
  | .countView l => { c with countView := c.countView.put l h.value }
  | .lowMark => { c with lowMark := h.value }
  | .rvCapacity => { c with rvCapacity := h.value }
  | .captureEnable => { c with captureEnable := h.value }
  | .imprint => { c with imprint := h.value }
  | .binCapacity => { c with binCapacity := h.value }
  | .binHeightLimit => { c with binHeightLimit := h.value }
  | .grantDuration => { c with grantDuration := h.value }
  | .scanStart => { c with scanStart := h.value }
  | .scanEnd => { c with scanEnd := h.value }
  | .threshold .note => { c with thresholdNote := h }
  | .threshold .envelope => { c with thresholdEnv := h }
  | .gainA .note => { c with gainNoteA := h }
  | .gainA .envelope => { c with gainEnvA := h }
  | .gainB .note => { c with gainNoteB := h }
  | .gainB .envelope => { c with gainEnvB := h }
  | .skew .note => { c with skewNote := h }
  | .skew .envelope => { c with skewEnv := h }
  | .lengthTolerance => { c with lengthTolerance := h }
  | .envLengthMin => { c with envLengthMin := h.value }
  | .envLengthMax => { c with envLengthMax := h.value }
  | .envThicknessMax => { c with envThicknessMax := h.value }

/-- The transport whose run keeps a written gauge setting pending (R44). -/
def Setting.runOf : Setting → Option Transport
  | .threshold t | .gainA t | .gainB t | .skew t => some t
  | .lengthTolerance => some .note
  | _ => none

/-- Whether a written value waits: FITTED_LANES for the next power-on, a gauge setting for the end of its
transport's run (R44, R172). -/
def State.writeWaits (s : State) (x : Setting) : Bool :=
  match x with
  | .fittedLanes => true
  | _ =>
    match x.runOf with
    | some t => (s.gmu.get t).run
    | none => false

/-- The setting after a write of a clamped value: pending when the write waits, unless the value is the
one in effect (R44, R172). -/
def State.written (s : State) (x : Setting) (v : Nat) : Held :=
  if s.writeWaits x then
    ⟨(x.held s.set).value, if v = (x.held s.set).value then none else some v⟩
  else ⟨v, none⟩

/-- A stock's low-mark flag against the mark (R132, R133). -/
def Stock.markLow (st : Stock) (mark : Nat) : Stock := { st with lowMark := decide (st.remaining ≤ mark) }

/-- A record's low-mark flag against the mark. -/
def Record.markLow (mark : Nat) : Record → Record
  | .stock st => .stock (st.markLow mark)
  | r => r

/-- Every live stock is evaluated against the mark; STOCK_LOW is set once when one crosses it (R133). -/
def State.evalMarks (s : State) : State :=
  let crossing := s.ct.stocks.any fun (_, st) => !st.lowMark && decide (st.remaining ≤ s.set.lowMark)
  let s := s.onCt fun ct => ct.mapRecords (Record.markLow s.set.lowMark)
  if crossing then s.setWallFlag .stockLow else s

/-- A timer that is not stopped, with another time left. -/
def Timer.withLeft (n : Nat) : Timer → Timer
  | .stopped => .stopped
  | .running _ => .running n
  | .frozen _ => .frozen n

/-- The wait of a stacked bundle against a STACKER_WAIT written anew: the difference of the limits, both in
milliseconds, moves its time left, and what lies below 0 is kept, so that a limit raised again before the next
comparison finds the time that was waited (10, section 10.9; log entry 31). -/
def Ntc.rebaseWait (n : Ntc) (old new : Nat) : Ntc :=
  match n.waitTimer with
  | .stopped => n
  | t => { n with
    waitTimer := t.withLeft (t.left + new - (old + n.waitPast))
    waitPast := old + n.waitPast - (t.left + new) }

/-- What a written value does at once (R58, R106, R133). -/
def State.settingEffect (s : State) (x : Setting) (old : Settings) (before : Bool) : State :=
  match x with
  | .lowMark => s.evalMarks
  | .captureEnable => s.followOpen before
  | .rvCapacity => s.examineQueue
  | .stackerWait => s.onNtc fun n => n.rebaseWait (old.stackerWait * 1000) (s.set.stackerWait * 1000)
  | _ => s

/-- An accepted WRITE_SETTING: the clamped value is stored and its effect made (R172). -/
def State.writeSetting (s : State) (x : Setting) (v : Nat) : State :=
  (s.onSet fun c => x.store c (s.written x v)).settingEffect x s.set s.openCondition

/-- READ_SETTING's owner (R172). -/
def State.readSettingOwner (s : State) (_ : Role) (a : Byte × Byte) : State × Reply :=
  match settingOf a.1.toNat a.2.toNat with
  | none => (s, .refuse .badRequest)
  | some x => (s, .ok (.setting (x.held s.set).value (x.held s.set).pending))

/-- WRITE_SETTING's owner (R172). -/
def State.writeSettingOwner (s : State) (r : Role) (a : Byte × Byte × Half) : State × Reply :=
  match settingOf a.1.toNat a.2.1.toNat with
  | none => (s, .refuse .badRequest)
  | some x =>
    if x.writtenBy r then
      let v := x.clamp a.2.2.toNat
      (s.writeSetting x v,
        .ok (.stored a.1 a.2.1 v (s.written x v).pending.isSome))
    else (s, .refuse .authority)

/-- READ_SETTING. -/
def execReadSetting (auth : Byte) (op : Half) (id index : Byte) (s : State) :
    Host.Outcome State Fault Refusal :=
  .next (s.inTurn (.readSetting auth op id index)
    (s.request 0x03 auth op (some (id, index)) State.readSettingOwner))

/-- WRITE_SETTING. -/
def execWriteSetting (auth : Byte) (op : Half) (id index : Byte) (value : Half) (s : State) :
    Host.Outcome State Fault Refusal :=
  .next (s.inTurn (.writeSetting auth op id index value)
    (s.request 0x70 auth op (some (id, index, value)) State.writeSettingOwner))

end Sys2Proof.Machine
end

