-- ==== Sys2Proof/Machine/Zones.lean ====
section
/-! DEFINITION. The commands of the Alarm Zone Unit: the scanner's events, window tails, zone requests,
and service grants (08, 09). -/

namespace Sys2Proof.Machine

/-! ## Owners -/

/-- RESTORE_ZONE's owner (R145). -/
def State.restoreOwner (s : State) (_ : Role) (z : ZoneId) : State × Reply :=
  let w := s.azu.zones[z]
  let s' := s.putZone z w.restore
  s.unless [(w.cls = .tripped || w.cls = .undetermined, ⟨.state, .loopClass w.cls⟩)]
    (s', .ok (.zone s'.azu.zones[z]))

/-- SET_ZONE_ENABLE's and CLEAR_ZONE_ENABLE's owner (R146). -/
def State.enableOwner (on : Bool) (s : State) (_ : Role) (mask : Half) : State × Reply :=
  let s' := s.enableZones mask on
  (s', .ok (.enables s'.azu.enableMask))

/-- The delegation set of a request's byte: bit 0 CONSOLE, bit 1 PANEL, bit 2 CENTRAL (10, section 10.4). -/
def delegationOf (b : Byte) : Delegation := ⟨b.getLsbD 0, b.getLsbD 1, b.getLsbD 2⟩

/-- SET_DELEGATION's owner (R150). -/
def State.delegationOwner (s : State) (_ : Role) (a : ZoneId × Byte) : State × Reply :=
  let d := storedDelegation a.1 (delegationOf a.2)
  (s.putZone a.1 { s.azu.zones[a.1] with delegation := d }, .ok (.delegation d))

/-- SET_ZONE_MODE (TEST)'s owner (R147). -/
def State.testOwner (s : State) (_ : Role) (z : ZoneId) : State × Reply :=
  let w := s.azu.zones[z]
  if w.mode = .test then (s, .ok .empty)
  else
    s.unless [((if isHoldup z then s.azu.holdupRelay else w.pending), .refuse .state)]
      (s.putZone z { w with mode := .test }, .ok .empty)

/-- SET_ZONE_MODE (ARMED)'s owner (R147, R149). -/
def State.armOwner (s : State) (_ : Role) (z : ZoneId) : State × Reply :=
  if s.azu.zones[z].mode = .armed then (s, .ok .empty) else (s.armZone z, .ok .empty)

/-- INJECT_TRIP's owner (R148): the trip is not deferred by an open window. -/
def State.injectOwner (s : State) (_ : Role) (z : ZoneId) : State × Reply :=
  let w := s.azu.zones[z]
  s.unless [(w.mode = .armed, .refuse .state)] (s.putZone z (w.trip (isForcing z)), .ok .empty)

/-- OPEN_GRANT's owner (R159); `op` is the proposer. -/
def State.openGrantOwner (op : Nat) (s : State) (_ : Role) (a : Area) : State × Reply :=
  let g : Grant := ⟨.proposed, some op, none, .running Config.proposalLife⟩
  s.unless [((s.azu.grants.get a).state != .closed, .refuse .state),
      (s.areaBusy a, .refuse .busy)]
    (s.putGrant a g, .ok (.grant a g.timer))

/-- CONFIRM_GRANT's owner (R160); `op` is the confirmer. -/
def State.confirmGrantOwner (op : Nat) (s : State) (_ : Role) (a : Area) : State × Reply :=
  let g := s.azu.grants.get a
  let new : Grant := ⟨.opened, g.proposer, some op, .running (s.set.grantDuration * 60000)⟩
  s.unless [(g.state != .proposed, .refuse .state), (g.proposer = some op, .refuse .authority),
      (s.areaBusy a, .refuse .busy)]
    (s.putGrant a new, .ok .empty)

/-- CLOSE_GRANT's owner (R161). -/
def State.closeGrantOwner (s : State) (_ : Role) (a : Area) : State × Reply :=
  let z := doorZone a
  let c := s.azu.zones[z].cls
  s.unless [((s.azu.grants.get a).state != .opened, .refuse .state),
      (c != .normal, ⟨.doorOpen, .doorOpen z c⟩)]
    (s.endGrant a, .ok .empty)

/-! ## The commands -/

/-- A new scan cycle is formed (R138). -/
def execScanCycleStart (s : State) : Host.Outcome State Fault Refusal := .next s.formCycle

/-- The scanner converts the next channel of its cycle (R136, R137). -/
def execLoopConversion (code : Sample) (s : State) : Host.Outcome State Fault Refusal :=
  .next (s.convertNext code)

/-- A loop of the cycle in progress changes class (R137). -/
def execLoopClassChange (channel : ZoneId) (cls : LoopClass) (s : State) :
    Host.Outcome State Fault Refusal :=
  if (Instr.loopClassChange channel cls).wf then
    .next (if s.azu.cycle.contains channel then s.changeLoop channel cls else s)
  else .fault (.illFormed "LOOP_CLASS_CHANGE")

/-- A window's tail runs out (R142). -/
def execBlankingTailExpiry (zone : ZoneId) (s : State) : Host.Outcome State Fault Refusal :=
  if (Instr.blankingTailExpiry zone).wf then .next (s.tailOut zone)
  else .fault (.illFormed "BLANKING_TAIL_EXPIRY")

/-- RESTORE_ZONE. -/
def execRestoreZone (auth : Byte) (op : Half) (zone : Byte) (s : State) :
    Host.Outcome State Fault Refusal :=
  .next (s.inTurn (.restoreZone auth op zone)
    (s.request 0x60 auth op (zoneOf zone) State.restoreOwner))

/-- SET_ZONE_ENABLE. -/
def execSetZoneEnable (auth : Byte) (op : Half) (mask : Half) (s : State) :
    Host.Outcome State Fault Refusal :=
  .next (s.inTurn (.setZoneEnable auth op mask)
    (s.request 0x61 auth op (some mask) (State.enableOwner true)))

/-- CLEAR_ZONE_ENABLE. -/
def execClearZoneEnable (auth : Byte) (op : Half) (mask : Half) (s : State) :
    Host.Outcome State Fault Refusal :=
  .next (s.inTurn (.clearZoneEnable auth op mask)
    (s.request 0x62 auth op (some mask) (State.enableOwner false)))

/-- SET_DELEGATION. -/
def execSetDelegation (auth : Byte) (op : Half) (zone set : Byte) (s : State) :
    Host.Outcome State Fault Refusal :=
  .next (s.inTurn (.setDelegation auth op zone set)
    (s.request 0x63 auth op ((zoneOf zone).map fun z => (z, set)) State.delegationOwner))

/-- SET_ZONE_MODE to TEST. -/
def execSetZoneModeTest (auth : Byte) (op : Half) (zone : Byte) (s : State) :
    Host.Outcome State Fault Refusal :=
  .next (s.inTurn (.setZoneModeTest auth op zone)
    (s.request 0x64 auth op (zoneOf zone) State.testOwner))

/-- SET_ZONE_MODE to ARMED. -/
def execSetZoneModeArmed (auth : Byte) (op : Half) (zone : Byte) (s : State) :
    Host.Outcome State Fault Refusal :=
  .next (s.inTurn (.setZoneModeArmed auth op zone)
    (s.request 0x64 auth op (zoneOf zone) State.armOwner))

/-- INJECT_TRIP. -/
def execInjectTrip (auth : Byte) (op : Half) (zone : Byte) (s : State) :
    Host.Outcome State Fault Refusal :=
  .next (s.inTurn (.injectTrip auth op zone)
    (s.request 0x65 auth op (zoneOf zone) State.injectOwner))

/-- OPEN_GRANT. -/
def execOpenGrant (auth : Byte) (op : Half) (area : Byte) (s : State) :
    Host.Outcome State Fault Refusal :=
  .next (s.inTurn (.openGrant auth op area)
    (s.request 0x68 auth op (areaOf area) (State.openGrantOwner op.toNat)))

/-- CONFIRM_GRANT. -/
def execConfirmGrant (auth : Byte) (op : Half) (area : Byte) (s : State) :
    Host.Outcome State Fault Refusal :=
  .next (s.inTurn (.confirmGrant auth op area)
    (s.request 0x69 auth op (areaOf area) (State.confirmGrantOwner op.toNat)))

/-- CLOSE_GRANT. -/
def execCloseGrant (auth : Byte) (op : Half) (area : Byte) (s : State) :
    Host.Outcome State Fault Refusal :=
  .next (s.inTurn (.closeGrant auth op area)
    (s.request 0x6A auth op (areaOf area) State.closeGrantOwner))

/-- A proposal's 60 s run out (R159). -/
def execProposalLapse (area : Area) (s : State) : Host.Outcome State Fault Refusal :=
  .next (s.lapse area)

/-- An OPEN grant's duration runs out (R162). -/
def execGrantExpiry (area : Area) (s : State) : Host.Outcome State Fault Refusal :=
  .next (s.grantOut area)

end Sys2Proof.Machine
end

