-- ==== Sys2Proof/Machine/Link.lean ====
section
/-! DEFINITION. The Station Link Port's receiver and its requests (R163 to R166): frames, the request that
a frame carries, and the requests that wait behind a response. -/

namespace Sys2Proof.Machine

/-! ## Requests from frames -/

/-- Two bytes, least-significant first. -/
def half (lo hi : Byte) : Half := hi ++ lo

/-- Four bytes, least-significant first. -/
def quad (b0 b1 b2 b3 : Byte) : Quad := half b2 b3 ++ half b0 b1

/-- A request of a known CODE whose BODY is not of its fields' length or whose selector names nothing:
refused after the checks of authority (R166). -/
def State.badBody (s : State) (code : Nat) (auth : Byte) (op : Half) : Host.Outcome State Fault Refusal :=
  .next (s.request code auth op (none : Option Unit) fun s _ _ => (s, .refuse .badRequest))

/-- A read of 10, section 10.4 (codes 0x01 to 0x0B). -/
def State.takeRead (s : State) (auth : Byte) (op : Half) (code : Nat) (body : List Byte) :
    Host.Outcome State Fault Refusal :=
  match code, body with
  | 0x01, [] => execIdentify auth op s
  | 0x02, [] => execReadEvents auth op s
  | 0x03, [a, b] => execReadSetting auth op a b s
  | 0x04, [a, b] => execReadRecord auth op (half a b) s
  | 0x05, [a, b] => execFindByLocation auth op a b s
  | 0x06, [a, b, c, d] => execFindEnvelope auth op (quad a b c d) s
  | 0x07, [a] => execListLane auth op a s
  | 0x08, [] => execReadTotals auth op s
  | 0x09, [a] => execReadDrawer auth op a s
  | 0x0A, [a] =>
    if a = 0 then execReadTransportNote auth op s
    else if a = 1 then execReadTransportEnvelope auth op s
    else s.badBody code auth op
  | 0x0B, [] => execReadAlarms auth op s
  | _, _ => s.badBody code auth op

/-- DISPENSE in its two forms (10, section 10.4). -/
def State.takeDispense (s : State) (auth : Byte) (op : Half) (body : List Byte) :
    Host.Outcome State Fault Refusal :=
  match body with
  | [l, f, a, b, c, d] =>
    if f = 0 then execDispenseAmount auth op l (quad a b c d) s else s.badBody 0x22 auth op
  | [l, f, a, b, c, d, e] =>
    if f = 1 then execDispenseMix auth op l a b c d e s else s.badBody 0x22 auth op
  | _ => s.badBody 0x22 auth op

/-- A planning, drawer or claim request of 10, section 10.4 (codes 0x20 to 0x41). -/
def State.takeTeller (s : State) (auth : Byte) (op : Half) (code : Nat) (body : List Byte) :
    Host.Outcome State Fault Refusal :=
  match code, body with
  | 0x20, [l, a, b, c, d] => execQuote auth op l (quad a b c d) s
  | 0x21, [l, t] => execCommit auth op l t s
  | 0x22, body => s.takeDispense auth op body
  | 0x23, [a, b] => execCancelBundle auth op (half a b) s
  | 0x30, [l] => execPresentDrawer auth op l s
  | 0x31, [l] => execRetractDrawer auth op l s
  | 0x32, [l, a, b, c, d] => execDeclareTransit auth op l (quad a b c d) s
  | 0x33, [a, b] => execResolveRetract auth op (half a b) s
  | 0x34, [a, b, c, d, e, f] => execAcceptDeposit auth op (half a b) (quad c d e f) s
  | 0x35, [l] => execResumeLane auth op l s
  | 0x36, [l] => execLaneReset auth op l s
  | 0x40, [a, b] => execClaimEnvelope auth op (half a b) s
  | 0x41, [a, b] => execReleaseClaim auth op (half a b) s
  | _, _ => s.badBody code auth op

/-- An exchange request or CLEAR_TRANSPORT of 10, section 10.4 (codes 0x50 to 0x57). -/
def State.takeExchange (s : State) (auth : Byte) (op : Half) (code : Nat) (body : List Byte) :
    Host.Outcome State Fault Refusal :=
  match code, body with
  | 0x50, [p, d0, d1, d2, d3, c0, c1, t0, t1, l0, l1] =>
    execLoadCassette auth op p (quad d0 d1 d2 d3) (half c0 c1) (half t0 t1) (half l0 l1) s
  | 0x51, [p] => execUnloadCassette auth op p s
  | 0x52, [p, a, b] => execReconcile auth op p (half a b) s
  | 0x53, [] => execEmptyRejectVault auth op s
  | 0x54, [a, b] => execReconcileRv auth op (half a b) s
  | 0x55, [b] => execCollectBin auth op b s
  | 0x56, [b] => execInsertBin auth op b s
  | 0x57, [a] =>
    if a = 0 then execClearTransportNote auth op s
    else if a = 1 then execClearTransportEnvelope auth op s
    else s.badBody code auth op
  | _, _ => s.badBody code auth op

/-- A zone, grant or setting request of 10, section 10.4 (codes 0x60 to 0x70). -/
def State.takeZone (s : State) (auth : Byte) (op : Half) (code : Nat) (body : List Byte) :
    Host.Outcome State Fault Refusal :=
  match code, body with
  | 0x60, [z] => execRestoreZone auth op z s
  | 0x61, [a, b] => execSetZoneEnable auth op (half a b) s
  | 0x62, [a, b] => execClearZoneEnable auth op (half a b) s
  | 0x63, [z, d] => execSetDelegation auth op z d s
  | 0x64, [z, m] =>
    if m = 0 then execSetZoneModeArmed auth op z s
    else if m = 1 then execSetZoneModeTest auth op z s
    else s.badBody code auth op
  | 0x65, [z] => execInjectTrip auth op z s
  | 0x68, [a] => execOpenGrant auth op a s
  | 0x69, [a] => execConfirmGrant auth op a s
  | 0x6A, [a] => execCloseGrant auth op a s
  | 0x70, [i, x, a, b] => execWriteSetting auth op i x (half a b) s
  | _, _ => s.badBody code auth op

/-- A request is taken by its CODE (R166; 10, section 10.4). -/
def State.takeRequest (s : State) (auth : Byte) (op : Half) (code : Byte) (body : List Byte) :
    Host.Outcome State Fault Refusal :=
  let c := code.toNat
  if requestCodes.contains c then
    if c < 0x20 then s.takeRead auth op c body
    else if c < 0x50 then s.takeTeller auth op c body
    else if c < 0x60 then s.takeExchange auth op c body
    else s.takeZone auth op c body
  else execUnknownRequest auth op code s

/-- The state after a request; a request always has one. -/
def stateAfter (s : State) : Host.Outcome State Fault Refusal → State
  | .next t => t
  | _ => s

/-- The request of the bytes from AUTH through BODY is taken (10, section 10.2). -/
def State.takeRaw (s : State) (raw : RawRequest) : State :=
  match raw with
  | auth :: lo :: hi :: code :: body => stateAfter s (s.takeRequest auth (half lo hi) code body)
  | _ => s

/-- A frame (10, section 10.2): the start byte, the LENGTH, the bytes from AUTH through BODY, and the
CHECK over LENGTH through BODY, least-significant byte first (R164). -/
def frameOf (raw : RawRequest) : List Byte :=
  let counted := BitVec.ofNat 8 raw.length :: raw
  0xC3 :: (counted ++ leBytes 2 (crc counted).toNat)

/-! ## The receiver -/

/-- The receiver returns to HUNT with its gap timer stopped (R163). -/
def State.resetReceiver (s : State) : State :=
  s.onSlp fun p => { p with receiver := .hunt, gap := .stopped }

/-- The receiver goes on in a phase, and the gap timer restarts (R163). -/
def State.goOn (s : State) (r : Receiver) : State :=
  s.onSlp fun p => { p with receiver := r, gap := .running Config.gapLimit }

/-- A request received whole is taken when no earlier one is unanswered, waits when fewer than two wait,
and is discarded otherwise (R165). -/
def State.requestWhole (s : State) (raw : RawRequest) : State :=
  match s.slp.response with
  | none => s.takeRaw raw
  | some _ => s.await raw

/-- The frame is checked (R164): a wrong CHECK discards it; either way the receiver is in HUNT. -/
def State.checkFrame (s : State) (length : Nat) (bytes : List Byte) (check : Half) : State :=
  let s := s.resetReceiver
  if crc (BitVec.ofNat 8 length :: bytes) = check then s.requestWhole bytes else s

/-- A byte is received (R163); a stop bit at zero discards the frame. -/
def State.receive (s : State) (b : Byte) (stop : Bool) : State :=
  if stop then
    match s.slp.receiver with
    | .hunt => if b = 0xC3 then s.goOn .count else s
    | .count =>
      if 4 ≤ b.toNat && b.toNat ≤ 200 then s.goOn (.collect b.toNat []) else s.resetReceiver
    | .collect n bytes =>
      let bytes := bytes ++ [b]
      s.goOn (if bytes.length < n then .collect n bytes else .check n bytes none)
    | .check n bytes none => s.goOn (.check n bytes (some b))
    | .check n bytes (some lo) => s.checkFrame n bytes (half lo b)
  else s.resetReceiver

/-- The response has been sent; the oldest waiting request is taken next (R165). -/
def State.responseSent (s : State) : State :=
  match s.slp.waiting with
  | [] => s.onSlp fun p => { p with response := none }
  | raw :: rest => (s.onSlp fun p => { p with response := none, waiting := rest }).takeRaw raw

/-! ## The commands -/

/-- The line is held at zero (R163). -/
def execLineBreak (s : State) : Host.Outcome State Fault Refusal := .next s.resetReceiver

/-- The gap between two bytes of a frame is too long (R163); outside a frame there is no gap. -/
def execFrameGapTimeout (s : State) : Host.Outcome State Fault Refusal :=
  .next (if s.slp.gap.isRunning then s.resetReceiver else s)

/-- A frame is discarded (R163, R164). -/
def execBadFrame (s : State) : Host.Outcome State Fault Refusal := .next s.resetReceiver

/-- A third request is discarded: the receiver has returned to HUNT (R163, R165). -/
def execRequestOverflow (s : State) : Host.Outcome State Fault Refusal := .next s.resetReceiver

/-- A byte arrives (R163). -/
def execByteReceived (b : Byte) (stop : Bool) (s : State) : Host.Outcome State Fault Refusal :=
  .next (s.receive b stop)

/-- The last byte of a response is sent (R165). -/
def execResponseSent (s : State) : Host.Outcome State Fault Refusal := .next s.responseSent

end Sys2Proof.Machine
end

