-- ==== Sys2Proof/Machine/Power.lean ====
section
/-! DEFINITION. The Backup and Supply Monitor (11): power-on with the backup retained or lost, and the
power warning. -/

namespace Sys2Proof.Machine

/-! ## What power-on leaves of each block -/

/-- The NTC at power-on before its restart leader (R65). -/
def Ntc.dark : Ntc :=
  { Ntc.atReset with leader := ⟨false, 0, false, false⟩, motor := false, stallTimer := .stopped }

/-- The ECC at power-on before its restart leader: the capture number and the in-flight mark are kept
(R105). The bin selector stands at B1 until the leader starts (log entry 58). -/
def Ecc.dark (e : Ecc) : Ecc :=
  { Ecc.atReset with
    leader := ⟨false, 0, false, false⟩, motor := false, stallTimer := .stopped
    nextNumber := e.nextNumber, inFlight := e.inFlight }

/-- A gauge at power-on: the transport is stopped, the windows are empty, no item is held (R28). -/
def Gauge.dark : Gauge := { Gauge.runStart with run := false }

/-- A drawer controller at power-on before it reads its sensors: the lock causes and the saved context
are kept, and its motor and lock solenoid are not driven until the start of a fitted lane drives them (R85). -/
def Ldc.dark (d : Ldc) : Ldc := { Ldc.atReset with locks := d.locks, saved := d.saved }

/-- A zone at power-on with the backup retained: the loop class of a channel inside the scan cycle is
UNDETERMINED and that of one outside it UNSCANNED; the debounce count is 0, its candidate the zone's own class
(log entry 51), and the deferred trip is clear (R135). -/
def Zone.dark (w : Zone) (z : ZoneId) (cycle : List ZoneId) : Zone :=
  let c : LoopClass :=
    if isForcing z then .none else if cycle.contains z then .undetermined else .unscanned
  { w with cls := c, candidate := c, count := 0, deferred := .clear }

/-- The AZU at power-on: grants CLOSED, windows closed, the cycle formed from the limits (R135, R136,
R158). -/
def Azu.dark (a : Azu) (first last : Nat) : Azu :=
  let cycle := scanCycle first last
  { zones := Vector.ofFn fun z => (a.zones[z]).dark z cycle
    cycle := cycle
    converted := 0
    forcing := Azu.atReset.forcing
    vibration := ⟨false, .stopped⟩
    grants := Azu.atReset.grants }

/-- The volatile state at power-on, the backup domain kept (11, section 11.1). -/
def State.dark (s : State) (inputs : Pins) : State :=
  { ct := s.ct
    dpl := { Dpl.lost with sequence := s.dpl.sequence }
    ntc := Ntc.dark
    gmu := ⟨Gauge.dark, Gauge.dark⟩
    ldc := ⟨s.ldc.l1.dark, s.ldc.l2.dark, s.ldc.l3.dark, s.ldc.l4.dark⟩
    ecc := s.ecc.dark
    azu := s.azu.dark s.set.scanStart s.set.scanEnd
    slp := Slp.atPowerOn
    set := s.set
    retained := s.retained
    ms := 0
    pins := inputs
    pending := s.pending }

/-- The whole backup memory is cleared (R174, R178). -/
def State.clearBackup (s : State) : State :=
  { s with
    ct := Ct.lost
    dpl := Dpl.lost
    ldc := ⟨Ldc.atReset, Ldc.atReset, Ldc.atReset, Ldc.atReset⟩
    ecc := Ecc.atReset
    azu := Azu.atReset
    set := Settings.default }

/-! ## Restart with the backup retained -/

/-- A QUEUED bundle's age: the commit sequence counter less its sequence, modulo 65,536 (R63). -/
def bundleAge (counter sequence : Nat) : Nat := (counter + 65536 - sequence) % 65536

/-- Put a queue entry before those of no greater age: entries of equal age, which R63 leaves open, keep the
order of their slots (log entry 42). -/
def insertByAge (x : Handle × Nat) : List (Handle × Nat) → List (Handle × Nat)
  | [] => [x]
  | y :: ys => if y.2 ≤ x.2 then x :: y :: ys else y :: insertByAge x ys

/-- The present queue rebuilt from the QUEUED bundles by age, greatest first (R63). -/
def State.rebuildQueue (s : State) : State :=
  let aged := (s.ct.bundles.filter (·.2.state = .queued)).map fun p =>
    (p.1, bundleAge s.dpl.sequence p.2.sequence)
  s.onDpl fun d => { d with queue := (aged.foldr insertByAge []).map (·.1) }

/-- Whether a bundle was in the transport (R176). -/
def Bundle.inTransport (b : Bundle) : Bool :=
  b.state = .picking || b.state = .stacked || b.state = .routing

/-- The bundles in the transport fail with reason POWER (R176). -/
def State.failInTransport (s : State) : State :=
  (s.ct.bundles.filter (·.2.inTransport)).foldl
    (fun s p => s.failBundle p.1 p.2 .power .power true) s

/-- An envelope in flight makes the ACTIVE bin DOUBTFUL(POWER), and the mark is cleared (R176). -/
def State.failInFlight (s : State) : State :=
  if s.ecc.inFlight then
    (s.doubtActiveBin .power).onEcc fun e => { e with inFlight := false }
  else s

/-- The restart changes of the custody table, TRANSPORT_JAM being set after them when a bundle or an
envelope was in flight (R176). -/
def State.restartChanges (s : State) : State :=
  let jam := s.ct.bundles.any (·.2.inTransport) || s.ecc.inFlight
  let s := s.failInTransport.failInFlight
  if jam then s.setWallFlag .transportJam else s

/-- No lane above a number has a live BUNDLE or TRANSIT record or a lock cause (R85). -/
def State.clearAbove (s : State) (n : Nat) : Bool :=
  Lane.all.all fun l => decide (l.num ≤ n) ||
    ((s.ct.bundleOf l).isNone && (s.ct.transitOf l).isNone && (s.ldc.get l).locks = 0)

/-- FITTED_LANES at power-on: a pending value takes effect, one below the value in effect only when the
lanes above it are clear (R85). A lane newly fitted starts with the empty hold set and the locks kept for it, with
a zone in force on every lane too (log entry 69). -/
def State.applyFitted (s : State) : State :=
  match s.set.fittedLanes.pending with
  | none => s
  | some n =>
    if s.set.fittedLanes.value ≤ n || s.clearAbove n then
      s.onSet fun c => { c with fittedLanes := ⟨n, none⟩ }
    else s

/-- A lane that is not fitted has no flags (R169). -/
def State.hideUnfittedFlags (s : State) : State :=
  Lane.all.foldl (fun s l => if s.fitted l then s else s.clearLaneFlags l) s

/-- A presence switch found open makes a live stock DOUBTFUL(MISSING) (R126, R127). -/
def State.presenceFound (s : State) (p : CassettePos) : State :=
  match s.ct.stockAt p with
  | some (h, _) => s.doubtStock h .missing
  | none => s

/-- The presence switches are read: one found open at a live stock is an opening (R127). -/
def State.readPresence (s : State) : State :=
  CassettePos.all.foldl (fun s p => if s.pins.presence.get p then s else s.presenceFound p) s

/-- What the retained backup goes through before the blocks start (R176, R127, R63, R44, R85). The queue
is rebuilt before the doubts, which then cancel from it. -/
def State.restartRetained (s : State) : State :=
  let s := s.rebuildQueue.restartChanges
  let s := (s.onSet fun c => (c.applyGauge .note).applyGauge .envelope).applyFitted
  s.hideUnfittedFlags.readPresence

/-! ## The blocks start -/

/-- The drawer state that a lane's switches show: HOME, OUT, or between them (R85). -/
def State.switchState (s : State) (l : Lane) : Option DrawerState :=
  if s.pins.home.get l then some .home else if s.pins.out.get l then some .out else none

/-- A locked lane's drawer at power-on stays where it is with its lock solenoid engaged (R85); its consignment is judged when
RESUME_LANE moves it (R177). At neither switch its halted motion is the saved direction, and RETRACTING under a
warning active at power-on (R175; log entry 63). -/
def State.startLocked (s : State) (l : Lane) : State :=
  s.onLdc l fun d =>
    let halted := if s.pins.warning then .retracting else
      (d.saved.bind (·.direction)).getD .retracting
    let d := { d with solenoid := true, restartHoming := true }
    match s.switchState l with
    | some st => { d with state := st }
    | none => { d with state := .stopped, halted := some halted }

/-- An unlocked lane's drawer at power-on: HOME at once, judged, when its home switch is closed; else it
homes (R85, R177), or under a power warning waits at a switch or STOPPED for its end (R175). -/
def State.startUnlocked (s : State) (l : Lane) : State :=
  let s := s.onLdc l fun d => { d with restartHoming := true }
  if s.pins.home.get l then s.enterHome l false
  else if s.pins.warning && s.pins.out.get l then s.onLdc l fun d => { d with state := .out }
  else s.startMotion l .retracting

/-- The LDC of every fitted lane starts (R85), in the order L1 to L4 (log entry 68). A lane that is not fitted keeps
its motor and lock solenoid undriven (R85). -/
def State.startLanes (s : State) : State :=
  Lane.all.foldl (fun s l =>
    if s.fitted l then if s.locked l then s.startLocked l else s.startUnlocked l else s) s

/-- Each throat starts WAITING with its shutter open when its sensor reads PRESENT, and CLOSED otherwise
(R105). -/
def State.startThroats (s : State) : State :=
  let unit (here : Bool) : ThroatUnit :=
    if here then { ThroatUnit.shut with state := .waiting, shutterOpen := true } else ThroatUnit.shut
  s.onEcc fun e => { e with throats := ⟨unit s.pins.throat.t1, unit s.pins.throat.t2⟩ }

/-- The restart leaders: both transports enter PAUSED with LEADER saved while Z12 is in force, under a power
warning too (R177), and each otherwise runs at once unless its hold sets or a power warning keep it waiting
(R65, R105, R175). -/
def State.startLeaders (s : State) : State :=
  if s.pauseInForce then s.pauseNote.pauseEnv else s.startRestartNote.startRestartEnv

/-- Every block starts (R85, R105, R65). -/
def State.startBlocks (s : State) : State := s.startLanes.startThroats.startLeaders

/-- The backup-valid state (R174). -/
def State.markBackup (s : State) (b : Bool) : State := { s with retained := b }

/-- Main power returns (R174): RETAINED when the backup supply held and the check agrees, LOST otherwise,
which clears the whole backup memory and sets BACKUP_LOST (R171, R178). The presence switches are read
(R127) before the drawers found HOME are judged (log entry 67). -/
def State.powerOn (s : State) (retained : Bool) (inputs : Pins) : State :=
  if retained then ((s.dark inputs).restartRetained.startBlocks).markBackup true
  else
    (((s.clearBackup.dark inputs).setWallFlag .backupLost).startBlocks).markBackup false

/-! ## The power warning -/

/-- The power-warning input becomes active (R84, R104, R120). -/
def State.warn (s : State) : State :=
  if s.pins.warning then s
  else
    let before := s.openCondition
    let s := (s.onPins fun p => { p with warning := true }).warnNote
    (Lane.all.foldl State.warnLane s).warnEnv before

/-- The power-warning input becomes inactive with main power kept (R175): the note transport acts first, with the
queue's examination, then the lanes L1 to L4, then the envelope transport (log entry 73). -/
def State.endWarn (s : State) : State :=
  if s.pins.warning then
    let before := s.openCondition
    let s := (s.onPins fun p => { p with warning := false }).endWarnNote
    (Lane.all.foldl State.endWarnLane s).endWarnEnv before
  else s

/-! ## The commands -/

/-- POWER_ON: whether the backup supply held, whether the check agrees, and the input levels found. -/
def execPowerOn (supplyHeld checkAgrees : Bool) (inputs : Pins) (s : State) :
    Host.Outcome State Fault Refusal :=
  .next (s.powerOn (supplyHeld && checkAgrees) inputs)

/-- The power warning begins. -/
def execPowerWarning (s : State) : Host.Outcome State Fault Refusal := .next s.warn

/-- The power warning ends with main power kept. -/
def execPowerWarningEnd (s : State) : Host.Outcome State Fault Refusal := .next s.endWarn

end Sys2Proof.Machine
end

