-- ==== Sys2Proof/Machine/Clock.lean ====
section
/-! DEFINITION. The Timebase: a millisecond passes (log entry 2). Every running timer loses one
millisecond, and then the timers that have run out expire, in one fixed order, as the rows of their
expiries do. -/

namespace Sys2Proof.Machine

/-! ## A millisecond -/

/-- A millisecond of the NTC's timers. -/
def Ntc.tick (n : Ntc) : Ntc :=
  { n with
    pickTimer := n.pickTimer.tick, exitTimer := n.exitTimer.tick, stallTimer := n.stallTimer.tick
    waitTimer := n.waitTimer.tick, dumpTimer := n.dumpTimer.tick, chuteTimer := n.chuteTimer.tick }

/-- A millisecond of a drawer controller's timers. -/
def Ldc.tick (d : Ldc) : Ldc := { d with motion := d.motion.tick, take := d.take.tick }

/-- A millisecond of a throat's timer. -/
def ThroatUnit.tick (u : ThroatUnit) : ThroatUnit := { u with wait := u.wait.tick }

/-- A millisecond of the ECC's timers. -/
def Ecc.tick (e : Ecc) : Ecc :=
  { e with
    throats := ⟨e.throats.t1.tick, e.throats.t2.tick⟩
    intakeTimer := e.intakeTimer.tick, forwardTimer := e.forwardTimer.tick
    returnTimer := e.returnTimer.tick, recaptureTimer := e.recaptureTimer.tick
    stallTimer := e.stallTimer.tick }

/-- A millisecond of a window's tail. -/
def Window.tick (w : Window) : Window := { w with tail := w.tail.tick }

/-- A millisecond of a grant's timer. -/
def Grant.tick (g : Grant) : Grant := { g with timer := g.timer.tick }

/-- A millisecond of the AZU's timers. -/
def Azu.tick (a : Azu) : Azu :=
  { a with
    forcing := ⟨a.forcing.l1.tick, a.forcing.l2.tick, a.forcing.l3.tick, a.forcing.l4.tick⟩
    vibration := a.vibration.tick
    grants := ⟨a.grants.dispenser.tick, a.grants.reject.tick, a.grants.capture.tick,
      a.grants.wall.tick⟩ }

/-- A millisecond of every timer and of the count. -/
def State.pass (s : State) : State :=
  { s with
    ms := s.ms + 1
    ntc := s.ntc.tick
    ldc := ⟨s.ldc.l1.tick, s.ldc.l2.tick, s.ldc.l3.tick, s.ldc.l4.tick⟩
    ecc := s.ecc.tick
    azu := s.azu.tick
    slp := { s.slp with gap := s.slp.gap.tick } }

/-! ## Expiries -/

/-- Take an expiry when its timer has run out. -/
def State.whenDue (s : State) (t : Timer) (expire : State → State) : State :=
  if t.isDue then expire s else s

/-- The receiver's and the note transport's expiries. -/
def State.expireNote (s : State) : State :=
  let s := s.whenDue s.slp.gap State.resetReceiver
  let s := s.whenDue s.ntc.stallTimer State.noteJam
  let s := s.whenDue s.ntc.exitTimer State.noteJam
  let s := s.whenDue s.ntc.pickTimer State.failPick
  let s := s.whenDue s.ntc.waitTimer State.stackerWaitOut
  let s := s.whenDue s.ntc.dumpTimer State.noteJam
  s.whenDue s.ntc.chuteTimer State.noteJam

/-- A lane's expiries. -/
def State.expireLane (s : State) (l : Lane) : State :=
  let s := s.whenDue (s.ldc.get l).motion fun s => s.motionOut l
  s.whenDue (s.ldc.get l).take fun s => s.takeOut l

/-- The envelope transport's expiries. -/
def State.expireEnv (s : State) : State :=
  let s := s.whenDue s.ecc.stallTimer State.envJam
  let s := s.whenDue s.ecc.intakeTimer State.intakeOut
  let s := s.whenDue s.ecc.forwardTimer State.envJam
  let s := s.whenDue s.ecc.returnTimer State.envJam
  let s := s.whenDue s.ecc.recaptureTimer State.recaptureOut
  let s := s.whenDue s.ecc.throats.t1.wait fun s => s.waitOut .t1
  s.whenDue s.ecc.throats.t2.wait fun s => s.waitOut .t2

/-- A grant's expiry: of the proposal or of the grant. -/
def State.expireGrant (s : State) (a : Area) : State :=
  s.whenDue (s.azu.grants.get a).timer fun s => (s.lapse a).grantOut a

/-- The windows' tails and the grants. -/
def State.expireAzu (s : State) : State :=
  let s := s.whenDue s.azu.forcing.l1.tail fun s => s.tailOut 4
  let s := s.whenDue s.azu.forcing.l2.tail fun s => s.tailOut 5
  let s := s.whenDue s.azu.forcing.l3.tail fun s => s.tailOut 6
  let s := s.whenDue s.azu.forcing.l4.tail fun s => s.tailOut 7
  let s := s.whenDue s.azu.vibration.tail fun s => s.tailOut 12
  [Area.dispenser, Area.reject, Area.capture, Area.wall].foldl State.expireGrant s

/-- A millisecond passes. -/
def State.tick (s : State) : State :=
  (Lane.all.foldl State.expireLane s.pass.expireNote).expireEnv.expireAzu

end Sys2Proof.Machine
end

