-- ==== Sys2Proof/Machine/Dispatch.lean ====
section
/-! DEFINITION. The meaning of every command: one arm for each row of the table of operations and
events, each a direct call of the row's own meaning. -/

namespace Sys2Proof.Machine
open Host

def exec (i : Instr) (s : State) : Host.Outcome State Fault Refusal :=
  match i with
  | .powerOn supplyHeld checkAgrees inputs => Sys2Proof.Machine.execPowerOn supplyHeld checkAgrees inputs s
  | .powerWarning => Sys2Proof.Machine.execPowerWarning s
  | .powerWarningEnd => Sys2Proof.Machine.execPowerWarningEnd s
  | .noteRestartLeaderStart => Sys2Proof.Machine.execNoteRestartLeaderStart s
  | .envelopeRestartLeaderStart => Sys2Proof.Machine.execEnvelopeRestartLeaderStart s
  | .lineBreak => Sys2Proof.Machine.execLineBreak s
  | .frameGapTimeout => Sys2Proof.Machine.execFrameGapTimeout s
  | .badFrame => Sys2Proof.Machine.execBadFrame s
  | .requestOverflow => Sys2Proof.Machine.execRequestOverflow s
  | .unknownRequest auth op code => Sys2Proof.Machine.execUnknownRequest auth op code s
  | .identify auth op => Sys2Proof.Machine.execIdentify auth op s
  | .readEvents auth op => Sys2Proof.Machine.execReadEvents auth op s
  | .readSetting auth op id index => Sys2Proof.Machine.execReadSetting auth op id index s
  | .readRecord auth op h => Sys2Proof.Machine.execReadRecord auth op h s
  | .findByLocation auth op area position => Sys2Proof.Machine.execFindByLocation auth op area position s
  | .findEnvelope auth op number => Sys2Proof.Machine.execFindEnvelope auth op number s
  | .listLane auth op lane => Sys2Proof.Machine.execListLane auth op lane s
  | .readTotals auth op => Sys2Proof.Machine.execReadTotals auth op s
  | .readDrawer auth op lane => Sys2Proof.Machine.execReadDrawer auth op lane s
  | .readTransportNote auth op => Sys2Proof.Machine.execReadTransportNote auth op s
  | .readTransportEnvelope auth op => Sys2Proof.Machine.execReadTransportEnvelope auth op s
  | .readAlarms auth op => Sys2Proof.Machine.execReadAlarms auth op s
  | .quote auth op lane amount => Sys2Proof.Machine.execQuote auth op lane amount s
  | .commit auth op lane tag => Sys2Proof.Machine.execCommit auth op lane tag s
  | .dispenseAmount auth op lane amount => Sys2Proof.Machine.execDispenseAmount auth op lane amount s
  | .dispenseMix auth op lane n1 n2 n3 n4 n5 => Sys2Proof.Machine.execDispenseMix auth op lane n1 n2 n3 n4 n5 s
  | .cancelBundle auth op h => Sys2Proof.Machine.execCancelBundle auth op h s
  | .noteLeaderEnd empty => Sys2Proof.Machine.execNoteLeaderEnd empty s
  | .encoderPulse t a b => Sys2Proof.Machine.execEncoderPulse t a b s
  | .itemEnd t m => Sys2Proof.Machine.execItemEnd t m s
  | .noteLengthLimit => Sys2Proof.Machine.execNoteLengthLimit s
  | .notePresenceLimit => Sys2Proof.Machine.execNotePresenceLimit s
  | .pickFailure => Sys2Proof.Machine.execPickFailure s
  | .diverterExit => Sys2Proof.Machine.execDiverterExit s
  | .stackerEmpty => Sys2Proof.Machine.execStackerEmpty s
  | .stackerDumpTimeout => Sys2Proof.Machine.execStackerDumpTimeout s
  | .stackerWaitExpiry => Sys2Proof.Machine.execStackerWaitExpiry s
  | .bundleArrival lane => Sys2Proof.Machine.execBundleArrival lane s
  | .chuteTimeout => Sys2Proof.Machine.execChuteTimeout s
  | .diverterExitTimeout => Sys2Proof.Machine.execDiverterExitTimeout s
  | .noteEncoderStall => Sys2Proof.Machine.execNoteEncoderStall s
  | .clearTransportNote auth op => Sys2Proof.Machine.execClearTransportNote auth op s
  | .clearTransportEnvelope auth op => Sys2Proof.Machine.execClearTransportEnvelope auth op s
  | .presenceSwitchOpen p => Sys2Proof.Machine.execPresenceSwitchOpen p s
  | .presenceSwitchClose p => Sys2Proof.Machine.execPresenceSwitchClose p s
  | .presentDrawer auth op lane => Sys2Proof.Machine.execPresentDrawer auth op lane s
  | .retractDrawer auth op lane => Sys2Proof.Machine.execRetractDrawer auth op lane s
  | .drawerArriveOut lane => Sys2Proof.Machine.execDrawerArriveOut lane s
  | .drawerArriveHome lane => Sys2Proof.Machine.execDrawerArriveHome lane s
  | .drawerMotionTimeout lane => Sys2Proof.Machine.execDrawerMotionTimeout lane s
  | .takeTimerExpiry lane => Sys2Proof.Machine.execTakeTimerExpiry lane s
  | .traySensorChange lane occupied => Sys2Proof.Machine.execTraySensorChange lane occupied s
  | .drawerSwitchChange lane switch closed => Sys2Proof.Machine.execDrawerSwitchChange lane switch closed s
  | .declareTransit auth op lane tag => Sys2Proof.Machine.execDeclareTransit auth op lane tag s
  | .resolveRetract auth op h => Sys2Proof.Machine.execResolveRetract auth op h s
  | .acceptDeposit auth op h tag => Sys2Proof.Machine.execAcceptDeposit auth op h tag s
  | .resumeLane auth op lane => Sys2Proof.Machine.execResumeLane auth op lane s
  | .laneReset auth op lane => Sys2Proof.Machine.execLaneReset auth op lane s
  | .throatSensorChange throat here => Sys2Proof.Machine.execThroatSensorChange throat here s
  | .envelopeLeaderEnd => Sys2Proof.Machine.execEnvelopeLeaderEnd s
  | .intakeTimeout => Sys2Proof.Machine.execIntakeTimeout s
  | .envelopeLengthLimit thickness skew => Sys2Proof.Machine.execEnvelopeLengthLimit thickness skew s
  | .envelopePresenceLimit => Sys2Proof.Machine.execEnvelopePresenceLimit s
  | .gatePassage => Sys2Proof.Machine.execGatePassage s
  | .imprinterReport printed => Sys2Proof.Machine.execImprinterReport printed s
  | .binEntry bin => Sys2Proof.Machine.execBinEntry bin s
  | .forwardTimeout => Sys2Proof.Machine.execForwardTimeout s
  | .returnTimeout => Sys2Proof.Machine.execReturnTimeout s
  | .returnWaitExpiry throat => Sys2Proof.Machine.execReturnWaitExpiry throat s
  | .recaptureTimeout => Sys2Proof.Machine.execRecaptureTimeout s
  | .envelopeEncoderStall => Sys2Proof.Machine.execEnvelopeEncoderStall s
  | .claimEnvelope auth op h => Sys2Proof.Machine.execClaimEnvelope auth op h s
  | .releaseClaim auth op h => Sys2Proof.Machine.execReleaseClaim auth op h s
  | .loadCassette auth op position denomination count thickness length => Sys2Proof.Machine.execLoadCassette auth op position denomination count thickness length s
  | .unloadCassette auth op position => Sys2Proof.Machine.execUnloadCassette auth op position s
  | .reconcile auth op position counted => Sys2Proof.Machine.execReconcile auth op position counted s
  | .emptyRejectVault auth op => Sys2Proof.Machine.execEmptyRejectVault auth op s
  | .reconcileRv auth op counted => Sys2Proof.Machine.execReconcileRv auth op counted s
  | .collectBin auth op bin => Sys2Proof.Machine.execCollectBin auth op bin s
  | .insertBin auth op bin => Sys2Proof.Machine.execInsertBin auth op bin s
  | .scanCycleStart => Sys2Proof.Machine.execScanCycleStart s
  | .loopClassChange channel cls => Sys2Proof.Machine.execLoopClassChange channel cls s
  | .blankingTailExpiry zone => Sys2Proof.Machine.execBlankingTailExpiry zone s
  | .restoreZone auth op zone => Sys2Proof.Machine.execRestoreZone auth op zone s
  | .setZoneEnable auth op mask => Sys2Proof.Machine.execSetZoneEnable auth op mask s
  | .clearZoneEnable auth op mask => Sys2Proof.Machine.execClearZoneEnable auth op mask s
  | .setDelegation auth op zone set => Sys2Proof.Machine.execSetDelegation auth op zone set s
  | .setZoneModeTest auth op zone => Sys2Proof.Machine.execSetZoneModeTest auth op zone s
  | .setZoneModeArmed auth op zone => Sys2Proof.Machine.execSetZoneModeArmed auth op zone s
  | .injectTrip auth op zone => Sys2Proof.Machine.execInjectTrip auth op zone s
  | .openGrant auth op area => Sys2Proof.Machine.execOpenGrant auth op area s
  | .confirmGrant auth op area => Sys2Proof.Machine.execConfirmGrant auth op area s
  | .closeGrant auth op area => Sys2Proof.Machine.execCloseGrant auth op area s
  | .proposalLapse area => Sys2Proof.Machine.execProposalLapse area s
  | .grantExpiry area => Sys2Proof.Machine.execGrantExpiry area s
  | .writeSetting auth op id index value => Sys2Proof.Machine.execWriteSetting auth op id index value s
  | .loopConversion code => Sys2Proof.Machine.execLoopConversion code s
  | .byteReceived b stop => Sys2Proof.Machine.execByteReceived b stop s
  | .responseSent => Sys2Proof.Machine.execResponseSent s

end Sys2Proof.Machine
end

