-- ==== Sys2Proof/Safety.lean ====
section
/-! DEFINITION. What counts as a sound state of the part, in the terms that statements use: the laws that
the manual's rules keep at every step, the requests that the first checks admit, and short names for
what a command leaves behind. -/

namespace Sys2Proof.Machine

/-! ## The laws of a sound state -/

/-- Every slot's generation is 1 to 255 (R1). -/
def Ct.generationsLegal (ct : Ct) : Bool := ct.slots.toList.all fun sl => sl.gen != 0

/-- A record's tallies are in balance (R8); only a STOCK record has any. -/
def Record.balanced : Record → Bool
  | .stock st => st.balanced
  | _ => true

/-- The tallies of every live stock are in balance (R8). -/
def Ct.talliesBalanced (ct : Ct) : Bool :=
  ct.slots.toList.all fun sl => (sl.record.map Record.balanced).getD true

/-- The counters stay in their ranges: the next quote tag 1 to 255 (R51), the commit sequence 0 to 65,535
(R54), the next capture number 1 to 999,999 (R112). -/
def State.countersLegal (s : State) : Bool :=
  (1 ≤ s.dpl.nextTag && s.dpl.nextTag ≤ 255) && s.dpl.sequence ≤ 65535
    && (1 ≤ s.ecc.nextNumber && s.ecc.nextNumber ≤ 999999)

/-- A zone is as its kind fixes it: a hold-up zone is enabled, goes to CENTRAL and never to CONSOLE (R146,
R150); a forcing zone has no loop, so no class and no trouble (R135, R141). -/
def Zone.lawful (w : Zone) (z : ZoneId) : Bool :=
  (!isHoldup z || (w.enable && w.delegation.central && !w.delegation.console))
    && (!isForcing z || (w.cls = .none && !w.trouble))

/-- Every zone is as its kind fixes it, and no forcing zone is in the scan cycle (R136). -/
def Azu.lawful (a : Azu) : Bool :=
  (allZones.all fun z => a.zones[z].lawful z) && a.cycle.all fun z => !isForcing z

/-- A setting's value, and its pending value when it holds one, are in its range (R172). -/
def Held.inRange (h : Held) (r : Nat × Nat) : Bool :=
  let good (v : Nat) : Bool := r.1 ≤ v && v ≤ r.2
  good h.value && (h.pending.map good).getD true

/-- The settings of the table, each with its lane, transport or track (10, section 10.9). -/
def Setting.all : List Setting :=
  [.fittedLanes, .bundleLimit, .pickRetry, .rejectLimit, .stackerWait, .takeTimeout,
   .autoPresent .l1, .autoPresent .l2, .autoPresent .l3, .autoPresent .l4,
   .countView .l1, .countView .l2, .countView .l3, .countView .l4,
   .lowMark, .rvCapacity, .captureEnable, .imprint, .binCapacity, .binHeightLimit, .grantDuration,
   .scanStart, .scanEnd, .threshold .note, .threshold .envelope, .gainA .note, .gainA .envelope,
   .gainB .note, .gainB .envelope, .skew .note, .skew .envelope, .lengthTolerance, .envLengthMin,
   .envLengthMax, .envThicknessMax]

/-- Every setting is in its range (R172). -/
def Settings.inRange (c : Settings) : Bool := Setting.all.all fun x => (x.held c).inRange x.range

/-- The tags of the live quotes. -/
def Dpl.tags (d : Dpl) : List Nat := d.liveQuotes.map (·.tag)

/-- The live quotes of a lane. -/
def Dpl.quotesOf (d : Dpl) (l : Lane) : List Quote := d.liveQuotes.filter (·.lane = l)

/-- The quote table as R51 keeps it: no two live entries share a tag, the next tag is held by none, each
lane has at most two, and of two one is NEWER and one OLDER. -/
def Dpl.quotesLegal (d : Dpl) : Bool :=
  d.tags.Nodup && !d.tags.contains d.nextTag &&
    Lane.all.all fun l =>
      (d.quotesOf l).length ≤ 2
        && ((d.quotesOf l).length < 2 || ((d.quotesOf l).filter (·.newer)).length = 1)

/-- A transport's two baseline windows hold the same number of codes, at most 16 (R29). -/
def Gauge.windowsLegal (g : Gauge) : Bool :=
  g.winA.length = g.winB.length && g.winA.length ≤ Config.windowSize

/-- A drawer's motor is driven exactly while it is EXTENDING or RETRACTING (R86), and never while its lane
is locked (R101). -/
def Ldc.driveLawful (d : Ldc) : Bool :=
  d.motor = (d.state = .extending || d.state = .retracting) && (d.locks = 0 || !d.motor)

/-- A lane's lock solenoid is engaged exactly while the lane is fitted and locked (R85, R100, R102). -/
def State.solenoidLawful (s : State) (l : Lane) : Bool :=
  (s.ldc.get l).solenoid = (s.fitted l && s.locked l)

/-- The drives are lawful: every drawer's motor and lock solenoid, and no mechanism is driven under a power warning
(R84, R104, R120). -/
def State.drivesLawful (s : State) : Bool :=
  (Lane.all.all fun l => (s.ldc.get l).driveLawful && s.solenoidLawful l)
    && (!s.pins.warning
      || (!s.ntc.motor && !s.ntc.dump && !s.ecc.motor && Lane.all.all fun l => !(s.ldc.get l).motor))

/-- The ranges that every step keeps: generations, counters, baseline windows, and the wall flags that 10,
section 10.8 leaves unused. -/
def State.rangesLegal (s : State) : Bool :=
  s.ct.generationsLegal && s.countersLegal && s.gmu.note.windowsLegal && s.gmu.envelope.windowsLegal
    && s.slp.wallFlags &&& 0xFC00 = 0

/-- The zones in force among those that meet a condition, as a set. -/
def Azu.forceSet (a : Azu) (named : ZoneId → Bool) : ZoneSet :=
  allZones.foldl (fun m z => addZone m z (named z && (a.zones[z]).inForce)) 0

/-- The hold sets agree with the zones in force (R18, R155, R157). -/
def State.holdsFollowZones (s : State) : Prop :=
  s.ct.holdDispenser = s.azu.forceSet holdsDispenser
    ∧ s.ct.holdReject = s.azu.forceSet holdsReject
    ∧ s.ct.holdCapture = s.azu.forceSet holdsCapture
    ∧ ∀ l, s.ct.holdLane.get l &&& ~~~ s.azu.forceSet (holdsLane · l) = 0

/-- A stock that a plan may name: live and not DOUBTFUL, with a count available. -/
def Ct.honours (ct : Ct) (h : Handle) (count : Nat) : Prop :=
  ∃ st, ct.stock? h = some st ∧ st.quality.isDoubtful = false ∧ count ≤ st.available

/-- Valid quotes and QUEUED bundles stand on live stocks that are not DOUBTFUL (R52, R62), and every QUEUED
bundle is in the queue (R56); the generations are legal, so that every live record has its handle (R1). -/
def State.plansHonourable (s : State) : Prop :=
  s.ct.generationsLegal = true
    ∧ (∀ q ∈ s.dpl.liveQuotes, q.valid = true → ∀ p ∈ q.parts, s.ct.honours p.stock p.count)
    ∧ ∀ h b, s.ct.bundle? h = some b → b.state = .queued →
        h ∈ s.dpl.queue ∧ ∀ p ∈ b.parts, s.ct.honours p.stock 0

/-- A saved state is present exactly in PAUSED, and is one that a pause saves (R82, R119). -/
def State.pausesLegal (s : State) : Prop :=
  (match s.ntc.saved with
    | none => s.ntc.state ≠ .paused
    | some st => s.ntc.state = .paused ∧ st ∈ [NoteState.leader, .picking, .stackedWait, .diverting])
    ∧ match s.ecc.saved with
      | none => s.ecc.state ≠ .paused
      | some st =>
        s.ecc.state = .paused ∧ st ∈ [EnvState.leader, .measuring, .forward, .reversing, .recapture]

/-! ## Requests -/

/-- The request that a command is: its CODE, its AUTH byte and its OPERATOR (10, section 10.4). -/
def requestOf : Instr → Option (Nat × Byte × Half)
  | .identify a o => some (0x01, a, o)
  | .readEvents a o => some (0x02, a, o)
  | .readSetting a o _ _ => some (0x03, a, o)
  | .readRecord a o _ => some (0x04, a, o)
  | .findByLocation a o _ _ => some (0x05, a, o)
  | .findEnvelope a o _ => some (0x06, a, o)
  | .listLane a o _ => some (0x07, a, o)
  | .readTotals a o => some (0x08, a, o)
  | .readDrawer a o _ => some (0x09, a, o)
  | .readTransportNote a o => some (0x0A, a, o)
  | .readTransportEnvelope a o => some (0x0A, a, o)
  | .readAlarms a o => some (0x0B, a, o)
  | .quote a o _ _ => some (0x20, a, o)
  | .commit a o _ _ => some (0x21, a, o)
  | .dispenseAmount a o _ _ => some (0x22, a, o)
  | .dispenseMix a o _ _ _ _ _ _ => some (0x22, a, o)
  | .cancelBundle a o _ => some (0x23, a, o)
  | .presentDrawer a o _ => some (0x30, a, o)
  | .retractDrawer a o _ => some (0x31, a, o)
  | .declareTransit a o _ _ => some (0x32, a, o)
  | .resolveRetract a o _ => some (0x33, a, o)
  | .acceptDeposit a o _ _ => some (0x34, a, o)
  | .resumeLane a o _ => some (0x35, a, o)
  | .laneReset a o _ => some (0x36, a, o)
  | .claimEnvelope a o _ => some (0x40, a, o)
  | .releaseClaim a o _ => some (0x41, a, o)
  | .loadCassette a o _ _ _ _ _ => some (0x50, a, o)
  | .unloadCassette a o _ => some (0x51, a, o)
  | .reconcile a o _ _ => some (0x52, a, o)
  | .emptyRejectVault a o => some (0x53, a, o)
  | .reconcileRv a o _ => some (0x54, a, o)
  | .collectBin a o _ => some (0x55, a, o)
  | .insertBin a o _ => some (0x56, a, o)
  | .clearTransportNote a o => some (0x57, a, o)
  | .clearTransportEnvelope a o => some (0x57, a, o)
  | .restoreZone a o _ => some (0x60, a, o)
  | .setZoneEnable a o _ => some (0x61, a, o)
  | .clearZoneEnable a o _ => some (0x62, a, o)
  | .setDelegation a o _ _ => some (0x63, a, o)
  | .setZoneModeTest a o _ => some (0x64, a, o)
  | .setZoneModeArmed a o _ => some (0x64, a, o)
  | .injectTrip a o _ => some (0x65, a, o)
  | .openGrant a o _ => some (0x68, a, o)
  | .confirmGrant a o _ => some (0x69, a, o)
  | .closeGrant a o _ => some (0x6A, a, o)
  | .writeSetting a o _ _ _ => some (0x70, a, o)
  | _ => none

/-- A request is taken, no earlier one being unanswered (R165), and the first checks admit it under a role
(R166): the AUTH byte names it, the OPERATOR is 1 to 9999, a teller's lane is fitted, and the table of 10,
section 10.4 admits the role for the CODE. -/
def State.admits (s : State) (code : Nat) (auth : Byte) (op : Half) (r : Role) : Prop :=
  s.slp.response = none ∧ roleOf auth = some r ∧ 1 ≤ op.toNat ∧ op.toNat ≤ 9999
    ∧ (∀ l, r = .teller l → s.fitted l = true) ∧ r.admitted code = true

/-- The selector fields of a request (lane, position, bin, zone, area) hold values that the request names (R166;
10, section 10.4). -/
def selectorsNamed : Instr → Bool
  | .listLane _ _ l | .readDrawer _ _ l | .quote _ _ l _ | .commit _ _ l _ | .dispenseAmount _ _ l _
  | .dispenseMix _ _ l _ _ _ _ _ | .presentDrawer _ _ l | .retractDrawer _ _ l
  | .declareTransit _ _ l _ | .resumeLane _ _ l | .laneReset _ _ l => (laneOf l).isSome
  | .loadCassette _ _ p _ _ _ _ | .unloadCassette _ _ p | .reconcile _ _ p _ => (posOf p).isSome
  | .collectBin _ _ b | .insertBin _ _ b => (binOf b).isSome
  | .restoreZone _ _ z | .setDelegation _ _ z _ | .setZoneModeTest _ _ z | .setZoneModeArmed _ _ z
  | .injectTrip _ _ z => (zoneOf z).isSome
  | .openGrant _ _ a | .confirmGrant _ _ a | .closeGrant _ _ a => (areaOf a).isSome
  | _ => true

/-- A refusal is a STATUS other than OK and ACCEPTED (10, section 10.5). -/
def Status.refuses : Status → Bool
  | .ok | .accepted => false
  | _ => true

/-- The state with another response, which is all that a read changes. -/
def State.answered (s : State) (code : Nat) (st : Status) (a : Answer) : State :=
  { s with slp := { s.slp with response := some ⟨code, st, a⟩ } }

/-- The response that a state holds. -/
def State.said (s : State) (code : Nat) (st : Status) (a : Answer) : Prop :=
  s.slp.response = some ⟨code, st, a⟩

/-! ## The link -/

/-- The receiver back in HUNT with its gap timer stopped, and nothing else changed (R163). -/
def State.hunting (s : State) : State :=
  { s with slp := { s.slp with receiver := .hunt, gap := .stopped } }

/-- The receiver in a phase with its gap timer restarted, and nothing else changed (R163). -/
def State.receiving (s : State) (r : Receiver) : State :=
  { s with slp := { s.slp with receiver := r, gap := .running Config.gapLimit } }

/-- The part after some bytes received with their stop bits, each as one command. -/
def State.feed (s : State) : List Byte → State
  | [] => s
  | b :: bs =>
    match exec (.byteReceived b true) s with
    | .next t => t.feed bs
    | _ => s

/-! ## Timers -/

/-- Every timer of the part. -/
def State.timers (s : State) : List Timer :=
  [s.slp.gap, s.ntc.pickTimer, s.ntc.exitTimer, s.ntc.stallTimer, s.ntc.waitTimer, s.ntc.dumpTimer,
   s.ntc.chuteTimer, s.ldc.l1.motion, s.ldc.l1.take, s.ldc.l2.motion, s.ldc.l2.take, s.ldc.l3.motion,
   s.ldc.l3.take, s.ldc.l4.motion, s.ldc.l4.take, s.ecc.throats.t1.wait, s.ecc.throats.t2.wait,
   s.ecc.intakeTimer, s.ecc.forwardTimer, s.ecc.returnTimer, s.ecc.recaptureTimer, s.ecc.stallTimer,
   s.azu.forcing.l1.tail, s.azu.forcing.l2.tail, s.azu.forcing.l3.tail, s.azu.forcing.l4.tail,
   s.azu.vibration.tail, s.azu.grants.dispenser.timer, s.azu.grants.reject.timer,
   s.azu.grants.capture.timer, s.azu.grants.wall.timer]

/-! ## Gauges -/

/-- What a track has found of an item once some samples' differences have been taken, from the item's first
sample on. -/
def TrackItem.follow (threshold start : Nat) (ds : List Nat) : TrackItem :=
  (ds.zipIdx start).foldl (fun tr p => tr.sample threshold p.2 p.1) TrackItem.empty

/-! ## Plans -/

/-- A vector of counts pays an amount with at most some notes (R48, its first three conditions). -/
def pays (cs : List Candidate) (counts : List Nat) (amount notes : Nat) : Prop :=
  counts.length = cs.length
    ∧ (∀ p ∈ cs.zip counts, p.2 ≤ p.1.available)
    ∧ counts.sum ≤ notes
    ∧ ((cs.zip counts).map fun p => p.2 * p.1.denom).sum = amount

/-- One vector is lexicographically greater than another, or equal to it (R48). -/
def lexGe : List Nat → List Nat → Prop
  | [], _ => True
  | _ :: _, [] => True
  | a :: as, b :: bs => b < a ∨ (a = b ∧ lexGe as bs)

/-! ## Zones -/

/-- What brings a zone into force at once: the trip of an enabled, ARMED zone of the scan cycle that is not
pending, its window closed (R139, R144), or the enable of an ARMED zone that is pending (R146). -/
def State.bringsIntoForce (s : State) (z : ZoneId) (c : Instr) : Prop :=
  let w := s.azu.zones[z]
  w.mode = .armed
    ∧ ((c = .loopClassChange z .tripped ∧ z ∈ s.azu.cycle ∧ isForcing z = false ∧ w.cls ≠ .tripped
          ∧ s.blanked z = false ∧ w.enable = true ∧ w.pending = false)
      ∨ ∃ auth op r, c = .setZoneEnable auth op (zoneBit z) ∧ s.admits 0x61 auth op r
          ∧ isHoldup z = false ∧ w.enable = false ∧ w.pending = true)

/-! ## Stopped transports -/

/-- The note transport stands JAMMED with no bundle, every mechanism of its stopped (R80, R83, R84). -/
def Ntc.jammedEmpty (n : Ntc) : Prop :=
  n.state = .jammed ∧ n.motor = false ∧ n.dump = false ∧ n.gate = none ∧ n.current = none
    ∧ n.pendingEnd = none ∧ n.pick = none ∧ n.path = []

/-- The envelope transport stands JAMMED with no envelope, stopped (R117, R120). -/
def Ecc.jammedEmpty (e : Ecc) : Prop :=
  e.state = .jammed ∧ e.motor = false ∧ e.feed = .stopped ∧ e.current = none ∧ e.inFlight = false

/-- What makes each of the note transport's five jam rows a jam (R80): its limit runs, or the gauges take an
item's samples. -/
def State.noteJamRow (s : State) : Instr → Prop
  | .notePresenceLimit => s.gmu.note.item.isSome = true ∧ s.sampling .note = true
  | .stackerDumpTimeout => s.ntc.dumpTimer.isRunning = true
  | .chuteTimeout => s.ntc.chuteTimer.isRunning = true
  | .diverterExitTimeout => s.ntc.exitTimer.isRunning = true
  | .noteEncoderStall => s.ntc.stallTimer.isRunning = true
  | _ => False

/-- What makes each of the envelope transport's four jam rows a jam (R117). -/
def State.envJamRow (s : State) : Instr → Prop
  | .envelopePresenceLimit => s.gmu.envelope.item.isSome = true ∧ s.sampling .envelope = true
  | .forwardTimeout => s.ecc.forwardTimer.isRunning = true
  | .returnTimeout => s.ecc.returnTimer.isRunning = true
  | .envelopeEncoderStall => s.ecc.stallTimer.isRunning = true
  | _ => False

/-- A bundle has failed in the transport: its handle names nothing, its lane's last outcome says so with
its amount and no notes (R25), and every live stock that its plan names is DOUBTFUL (R80). -/
def State.hasFailed (t : State) (h : Handle) (b : Bundle) (r : FailReason) : Prop :=
  t.ct.find h = none
    ∧ (∃ q, t.ct.last.get b.lane = some ⟨h, .failed r, b.amount, 0, q⟩)
    ∧ ∀ p ∈ b.parts, ∀ st, t.ct.stock? p.stock = some st → st.quality.isDoubtful = true

/-- A bundle is the one live bundle of its lane (R12). -/
def State.soleBundle (s : State) (h : Handle) (b : Bundle) : Prop :=
  ∀ p ∈ s.ct.bundles, p.2.lane = b.lane → p.1 = h

/-- A bundle has been taken (R93): its handle names nothing, its lane's last outcome is TAKEN with its
stacked notes (R25), those notes have moved from in_bundles to paid_out at each stock of its plan, which
named it once and held them, and every other record is as it was. -/
def State.tookBundle (s t : State) (h : Handle) (b : Bundle) : Prop :=
  t.ct.find h = none
    ∧ (∃ q, t.ct.last.get b.lane = some ⟨h, .taken, b.amount, b.stackedSum, q⟩)
    ∧ ((b.parts.map (·.stock)).Nodup → ∀ p ∈ b.parts, ∀ st, s.ct.stock? p.stock = some st →
        p.stacked ≤ st.inBundles →
        t.ct.stock? p.stock = some { st with
          paidOut := st.paidOut + p.stacked, inBundles := st.inBundles - p.stacked })
    ∧ ∀ k, k ≠ h → (∀ p ∈ b.parts, p.stock ≠ k) → t.ct.find k = s.ct.find k

/-- The reject vault is DOUBTFUL when it has a live record (R80, R14). -/
def State.vaultDoubtful (t : State) : Prop :=
  ∀ h v, t.ct.vault? = some (h, v) → v.quality.isDoubtful = true

end Sys2Proof.Machine
end

