-- ==== Sys2Proof/Certificates/Slice0/Obligations.lean ====
section
/-! DEFINITION. Statements for the provers, from the numbered rules of the manual: the machine and its queue,
the laws that every step keeps, power, the station link, the reads, the gauges, the planner, and what each
command does when it takes effect, with what it leaves alone. -/

open Sys2Proof Sys2Proof.Machine Host

/-! ## The machine and its queue -/

/-- A step with a command at the front of the queue is that command on the state with the queue's rest. -/
def Obligations.StepTakesFrontCommand : Prop :=
  ∀ (c : Instr) (rest : List Instr) (s : State),
    step { s with pending := c :: rest } = exec c { s with pending := rest }

/-- Every well-formed command answers a next state, and every other one the fault illFormed (log entry 8);
a next state has the queue it was given, so that a command is taken once. -/
def Obligations.WellFormedCommandsComplete : Prop :=
  ∀ (c : Instr) (s : State),
    (c.wf = true → ∃ t, exec c s = .next t ∧ t.pending = s.pending)
      ∧ (c.wf = false → ∃ m, exec c s = .fault (.illFormed m))

/-- With no command waiting a millisecond passes (log entry 2): the count rises by one, and while no timer
is in its last millisecond every running timer loses one millisecond and nothing else changes. -/
def Obligations.IdleStepPassesOneMillisecond : Prop :=
  ∀ s : State, s.pending = [] →
    ∃ t, step s = .next t ∧ t.ms = s.ms + 1
      ∧ ((∀ u ∈ s.timers, ∀ n, u = .running n → 2 ≤ n) →
          t.timers = s.timers.map Timer.tick ∧ t = s.pass)

/-! ## Reset and the laws that every step keeps -/

/-- A power-on with the backup lost, whatever the part held, leaves the reset state with the queue, when the
inputs are found as log entry 3 has them (R174, R178). In that state every slot is free with generation
1 (R1), no hold (R18), no last outcome (R25), no quote, tag 1, sequence 0, an empty queue (R46), capture
number 1 (R105), both transports in LEADER (R65, R105), every zone enabled, ARMED and unmarked (R135), every
grant CLOSED (R158), the settings at their defaults, and BACKUP_LOST the one flag set (R171). -/
def Obligations.PowerOnLostReachesReset : Prop :=
  (∀ (s : State) (held agrees : Bool), (held && agrees) = false →
      exec (.powerOn held agrees Pins.atReset) s = .next { State.reset with pending := s.pending })
    ∧ State.reset.retained = false
    ∧ (∀ sl ∈ State.reset.ct.slots.toList, sl = ⟨1, none⟩)
    ∧ State.reset.ct.holdDispenser = 0 ∧ State.reset.ct.holdReject = 0
    ∧ State.reset.ct.holdCapture = 0 ∧ (∀ l, State.reset.ct.holdLane.get l = 0)
    ∧ (∀ l, State.reset.ct.last.get l = none)
    ∧ State.reset.dpl.liveQuotes = [] ∧ State.reset.dpl.nextTag = 1 ∧ State.reset.dpl.sequence = 0
    ∧ State.reset.dpl.queue = [] ∧ State.reset.dpl.rvBlocked = false
    ∧ State.reset.ecc.nextNumber = 1 ∧ State.reset.ecc.inFlight = false
    ∧ State.reset.ntc.state = .leader ∧ State.reset.ntc.current = none
    ∧ State.reset.ecc.state = .leader ∧ State.reset.ecc.current = none
    ∧ (∀ z : ZoneId, (State.reset.azu.zones[z]).enable = true ∧ (State.reset.azu.zones[z]).mode = .armed
        ∧ (State.reset.azu.zones[z]).marked = false)
    ∧ (∀ a, (State.reset.azu.grants.get a).state = .closed)
    ∧ State.reset.set = Settings.default
    ∧ State.reset.slp.wallFlags = WallFlag.backupLost.mask ∧ (∀ l, State.reset.slp.laneFlags.get l = 0)
    ∧ State.reset.attn = true ∧ State.reset.pending = []

/-- The reset state satisfies every law that the statements below say each step keeps. -/
def Obligations.ResetSatisfiesTheLaws : Prop :=
  State.reset.ct.talliesBalanced = true ∧ State.reset.rangesLegal = true
    ∧ State.reset.azu.lawful = true ∧ State.reset.set.inRange = true
    ∧ State.reset.dpl.quotesLegal = true ∧ State.reset.drivesLawful = true
    ∧ State.reset.holdsFollowZones ∧ State.reset.plansHonourable ∧ State.reset.pausesLegal

/-- Every step keeps the tallies of every live stock in balance: picked_out is paid_out, handed, rejected
and in_bundles together (R8). -/
def Obligations.TalliesStayInBalance : Prop :=
  ∀ s t : State, s.ct.talliesBalanced = true → step s = .next t → t.ct.talliesBalanced = true

/-- Every step keeps the generations in 1 to 255 (R1, R3), the counters in their ranges (R51, R54, R112), the
baseline windows of both transports within 16 codes and of one length for both tracks (R29), and the
unused wall flags clear (10, section 10.8). -/
def Obligations.RangesStayLegal : Prop :=
  ∀ s t : State, s.rangesLegal = true → step s = .next t → t.rangesLegal = true

/-- Every step keeps the hold-up zones enabled and delegated to CENTRAL and not to CONSOLE (R146, R150), and
the forcing zones without class, trouble or place in the scan cycle (R135, R136, R141). -/
def Obligations.ZonesStayLawful : Prop :=
  ∀ s t : State, s.azu.lawful = true → step s = .next t → t.azu.lawful = true

/-- Every step keeps every setting and every pending value in its range (R172, R44). -/
def Obligations.SettingsStayInRange : Prop :=
  ∀ s t : State, s.set.inRange = true → step s = .next t → t.set.inRange = true

/-- Every step keeps the quote table as R51 states it: no two live quotes share a tag, the next tag is held
by none, a lane has at most two, and of two one is NEWER and one OLDER (R51, R53). -/
def Obligations.QuotesStayLegal : Prop :=
  ∀ s t : State, s.dpl.quotesLegal = true → step s = .next t → t.dpl.quotesLegal = true

/-- Every step keeps the drives lawful: a drawer's motor is driven exactly while it is EXTENDING or
RETRACTING (R86) and never while its lane is locked (R101), a lane's lock solenoid is engaged exactly while the
lane is fitted and locked (R85, R100, R102), and no motor or dump is driven under a power warning (R84, R104,
R120). -/
def Obligations.DrivesStayLawful : Prop :=
  ∀ s t : State, s.drivesLawful = true → step s = .next t → t.drivesLawful = true

/-- Every step keeps the hold sets in step with the zones: the DISPENSER, REJECT and CAPTURE sets hold
exactly the zones in force whose hold names the area, and a lane's set only zones in force whose hold
names the lane (R18, R144, R155, R157). -/
def Obligations.HoldSetsFollowZones : Prop :=
  ∀ s t : State, s.holdsFollowZones → step s = .next t → t.holdsFollowZones

/-- Every step keeps plans honourable: a VALID quote's parts name live stocks that are not DOUBTFUL, each
with at least the part's count available (R52), and every QUEUED bundle is in the present queue (R56) and
its plan names live stocks that are not DOUBTFUL (R62). -/
def Obligations.PlansStayHonourable : Prop :=
  ∀ s t : State, s.plansHonourable → step s = .next t → t.plansHonourable

/-- Every step keeps a saved state exactly while a transport is PAUSED: one of LEADER, PICKING,
STACKED_WAIT and DIVERTING for the note transport (R82), one of LEADER, MEASURING, FORWARD, REVERSING and
RECAPTURE for the envelope transport (R119). -/
def Obligations.PausesStayLegal : Prop :=
  ∀ s t : State, s.pausesLegal → step s = .next t → t.pausesLegal

/-! ## Power -/

/-- A power-on with the backup retained keeps the commit sequence, the capture number and all that R135 has the
zones keep, clears their deferred trips, frees the quotes, closes the grants, keeps each lane's lock causes and
saved context with the lock solenoid engaged where the lane is fitted and locked (R85), and leaves no bundle in the
transport: each that was there, the one bundle of its lane, has failed with reason POWER (R46, R105, R135, R158, R176). -/
def Obligations.PowerOnRetainedFailsWhatMoved : Prop :=
  ∀ (s : State) (inputs : Pins), ∃ t, exec (.powerOn true true inputs) s = .next t
    ∧ t.retained = true ∧ t.pins = inputs
    ∧ t.dpl.sequence = s.dpl.sequence ∧ t.dpl.liveQuotes = [] ∧ t.dpl.nextTag = 1
    ∧ t.ecc.nextNumber = s.ecc.nextNumber
    ∧ (∀ a, t.azu.grants.get a = Grant.shut)
    ∧ (∀ z : ZoneId, (t.azu.zones[z]).pending = (s.azu.zones[z]).pending
        ∧ (t.azu.zones[z]).repeated = (s.azu.zones[z]).repeated
        ∧ (t.azu.zones[z]).trouble = (s.azu.zones[z]).trouble
        ∧ (t.azu.zones[z]).injected = (s.azu.zones[z]).injected
        ∧ (t.azu.zones[z]).restoreNeeded = (s.azu.zones[z]).restoreNeeded
        ∧ (t.azu.zones[z]).enable = (s.azu.zones[z]).enable
        ∧ (t.azu.zones[z]).mode = (s.azu.zones[z]).mode
        ∧ (t.azu.zones[z]).delegation = (s.azu.zones[z]).delegation
        ∧ (t.azu.zones[z]).deferred = .clear)
    ∧ (∀ l, (t.ldc.get l).locks = (s.ldc.get l).locks ∧ (t.ldc.get l).saved = (s.ldc.get l).saved
        ∧ (t.ldc.get l).solenoid = (t.fitted l && s.locked l))
    ∧ (∀ h b, t.ct.bundle? h = some b → b.inTransport = false)
    ∧ ∀ h b, s.ct.bundle? h = some b → b.inTransport = true → s.soleBundle h b → t.hasFailed h b .power

/-- A power warning stops every mechanism and keeps every state: both motors and the dump stop, a moving
drawer is STOPPED with its motion halted, a running take timer keeps its time, a pause is left for its
saved state, and custody, plans, grants and flags stay (R84, R104, R120). -/
def Obligations.PowerWarningStopsTheMechanisms : Prop :=
  ∀ s : State, s.pins.warning = false → ∃ t, exec .powerWarning s = .next t
    ∧ t.pins = { s.pins with warning := true }
    ∧ t.ntc.motor = false ∧ t.ntc.dump = false ∧ t.ecc.motor = false ∧ t.ecc.feed = .stopped
    ∧ t.ntc.state = s.ntc.phase ∧ t.ntc.current = s.ntc.current
    ∧ t.ntc.stackerCount = s.ntc.stackerCount ∧ t.ecc.state = s.ecc.phase
    ∧ t.ecc.current = s.ecc.current
    ∧ (∀ l m, (s.ldc.get l).state = Motion.state m →
        (t.ldc.get l).state = .stopped ∧ (t.ldc.get l).halted = some m
          ∧ (t.ldc.get l).motor = false ∧ (t.ldc.get l).motion = .stopped)
    ∧ (∀ l, (∀ m, (s.ldc.get l).state ≠ Motion.state m) →
        (t.ldc.get l).state = (s.ldc.get l).state ∧ (t.ldc.get l).halted = (s.ldc.get l).halted)
    ∧ (∀ l, (t.ldc.get l).take = (s.ldc.get l).take.freeze)
    ∧ t.ct = s.ct ∧ t.dpl = s.dpl ∧ t.azu.grants = s.azu.grants ∧ t.azu.zones = s.azu.zones
    ∧ t.slp = s.slp

/-- A power warning that ends with the supply kept: a note transport that was picking fails its bundle with
reason POWER and stands JAMMED (R84), an envelope on its way leaves its transport JAMMED (R120), and an
unlocked lane's STOPPED drawer goes on in its halted motion under a new limit (R104), with its end switch
already closed too, which is the model's choice (log entry 62). -/
def Obligations.PowerWarningEndResumesOrJams : Prop :=
  ∀ s : State, s.pins.warning = true → ∃ t, exec .powerWarningEnd s = .next t
    ∧ t.pins = { s.pins with warning := false, stackerEmpty := t.pins.stackerEmpty }
    ∧ (s.ntc.phase = .picking → t.ntc.jammedEmpty ∧ t.wallFlag .transportJam = true
        ∧ ∀ h b, s.currentBundle = some (h, b) → h ∉ s.dpl.queue → s.soleBundle h b →
            t.hasFailed h b .power)
    ∧ (s.ecc.phase ∈ [EnvState.measuring, .forward, .reversing, .recapture] →
        t.ecc.jammedEmpty ∧ t.wallFlag .transportJam = true)
    ∧ (∀ l m, s.locked l = false → s.fitted l = true → (s.ldc.get l).restartHoming = false →
        (s.ldc.get l).state = .stopped → (s.ldc.get l).halted = some m →
        (t.ldc.get l).state = m.state ∧ (t.ldc.get l).motor = true
          ∧ (t.ldc.get l).motion = .running Config.motionLimit)

/-- A restart leader that waits begins once its hold sets are empty, with no pause and no power warning: the
motor runs under its stall limit and a run starts; nothing but that, its transport's leader and the
vibration zone's window changes (R65, R105, R28, R142). While a pause is in force the envelope transport's enters
PAUSED with LEADER saved and has still not begun, which is the model's choice (log entry 78). -/
def Obligations.RestartLeadersStart : Prop :=
  (∀ s : State, s.ntc.state = .leader → s.ntc.leader.started = false → s.ntc.current = none →
      s.ct.holdDispenser = 0 → s.ct.holdReject = 0 → s.pins.warning = false → s.pauseInForce = false →
      exec .noteRestartLeaderStart s = .next { s with
        ntc := { s.ntc with
          saved := none, diverter := .reject, leader := ⟨true, 0, false, false⟩, motor := true
          stallTimer := .running 100 }
        gmu := { s.gmu with note := ⟨true, true, 0, [], [], none⟩ }
        azu := { s.azu with vibration := ⟨true, .stopped⟩ } })
    ∧ ∀ s : State, s.ecc.state = .leader → s.ecc.leader.started = false → s.ecc.current = none →
      s.ct.holdCapture = 0 → s.pins.warning = false →
      (s.pauseInForce = false →
        exec .envelopeRestartLeaderStart s = .next { s with
          ecc := { s.ecc with
            saved := none, feed := .stopped, selector := s.leaderBin
            leader := ⟨true, 0, false, false⟩, motor := true, stallTimer := .running 100 }
          gmu := { s.gmu with envelope := ⟨true, true, 0, [], [], none⟩ }
          azu := { s.azu with vibration := ⟨true, .stopped⟩ } })
        ∧ (s.pauseInForce = true →
          ∃ t, exec .envelopeRestartLeaderStart s = .next t
            ∧ t.ecc.state = .paused ∧ t.ecc.saved = some .leader ∧ t.ecc.leader = s.ecc.leader
            ∧ t.ecc.motor = false ∧ t.ecc.feed = .stopped ∧ t.ecc.selector = s.ecc.selector
            ∧ t.ecc.throats = s.ecc.throats ∧ t.azu.zones = s.azu.zones
            ∧ t = { s with ecc := t.ecc, azu := t.azu })

/-! ## The station link -/

/-- The frame of a request is that request: from HUNT, the bytes of the frame that 10, section 10.2 gives a
request row, received one after another, leave exactly what the row itself leaves, for every operand of the row,
whether the request is taken or waits (R163 to R166). -/
def Obligations.FrameRunsItsRequest : Prop :=
  ∀ (c : Instr) (raw : RawRequest) (s : State), c.wf = true → requestBytes c = some raw →
    s.slp.receiver = .hunt →
    exec c s.hunting = .next (s.feed (frameOf raw))

/-- Frames are received and wait their turn. A line break, a gap in a frame, a bad frame and a request that finds
two waiting leave the receiver in HUNT with its gap timer stopped and touch nothing else; so does a byte whose
stop bit is zero; in HUNT only 0xC3 is taken, and a LENGTH outside 4 to 200 discards the frame (R163). While a
response is being built or sent, a sound frame of any content joins the requests that wait while fewer than two
do, and is dropped otherwise, and so does a request row (log entry 5); when the response has been sent the
oldest that waits is taken (R165). -/
def Obligations.FramesAreReceivedAndWait : Prop :=
  (∀ s : State, exec .lineBreak s = .next s.hunting ∧ exec .badFrame s = .next s.hunting
      ∧ exec .requestOverflow s = .next s.hunting
      ∧ (s.slp.gap.isRunning = true → exec .frameGapTimeout s = .next s.hunting))
    ∧ (∀ (s : State) (b : Byte), exec (.byteReceived b false) s = .next s.hunting)
    ∧ (∀ (s : State) (b : Byte), s.slp.receiver = .hunt →
        exec (.byteReceived b true) s = .next (if b = 0xC3 then s.receiving .count else s))
    ∧ (∀ (s : State) (b : Byte), s.slp.receiver = .count →
        exec (.byteReceived b true) s = .next
          (if 4 ≤ b.toNat ∧ b.toNat ≤ 200 then s.receiving (.collect b.toNat []) else s.hunting))
    ∧ (∀ (raw : RawRequest) (s : State), 4 ≤ raw.length → raw.length ≤ 200 →
      s.slp.receiver = .hunt → s.slp.response.isSome = true →
      s.feed (frameOf raw) = { s with slp := { s.slp with
        receiver := .hunt, gap := .stopped
        waiting := if s.slp.waiting.length < 2 then s.slp.waiting ++ [raw] else s.slp.waiting } })
    ∧ (∀ (c : Instr) (raw : RawRequest) (s : State), c.wf = true → requestBytes c = some raw →
      s.slp.response.isSome = true →
      exec c s = .next { s with slp := { s.slp with
        waiting := if s.slp.waiting.length < 2 then s.slp.waiting ++ [raw] else s.slp.waiting } })
    ∧ (∀ s : State, s.slp.waiting = [] →
        exec .responseSent s = .next { s with slp := { s.slp with response := none } })
    ∧ ∀ (c : Instr) (raw : RawRequest) (rest : List RawRequest) (s : State), c.wf = true →
        requestBytes c = some raw → s.slp.waiting = raw :: rest →
        exec .responseSent s = exec c { s with slp := { s.slp with response := none, waiting := rest } }

/-- The frame check finds every error confined to one byte: two messages that differ in exactly one byte
have different checks (a consequence of the code of R164). -/
def Obligations.CheckFindsByteErrors : Prop :=
  ∀ (before after : List Byte) (a b : Byte), a ≠ b →
    crc (before ++ a :: after) ≠ crc (before ++ b :: after)

/-- The first checks and their order, for every request row: an AUTH byte of no role and an OPERATOR outside
1 to 9999 are AUTHORITY, then a teller of a lane not fitted is NO_LANE, then a role that the table does not
admit is AUTHORITY, and last a lane, position, bin, zone or area that the request does not name is BAD_REQUEST, as
is a frame of a known CODE whose BODY is no request's: shorter or longer than the fields, or with another transport,
form or mode. A CODE not in the table is BAD_REQUEST before any of them. Each changes nothing but the response
(R166). -/
def Obligations.FirstChecksInOrder : Prop :=
  (∀ (c : Instr) (code : Nat) (auth : Byte) (op : Half) (s : State), requestOf c = some (code, auth, op) →
      s.slp.response = none →
      (roleOf auth = none → exec c s = .next (s.answered code .authority .empty))
        ∧ ∀ r, roleOf auth = some r →
          ((op.toNat = 0 ∨ 9999 < op.toNat) → exec c s = .next (s.answered code .authority .empty))
            ∧ (1 ≤ op.toNat → op.toNat ≤ 9999 →
                (∀ l, r = .teller l → s.fitted l = false →
                    exec c s = .next (s.answered code .noLane .empty))
                  ∧ ((∀ l, r = .teller l → s.fitted l = true) → r.admitted code = false →
                    exec c s = .next (s.answered code .authority .empty)))
            ∧ (s.admits code auth op r → selectorsNamed c = false →
                exec c s = .next (s.answered code .badRequest .empty)))
    ∧ (∀ (auth : Byte) (op : Half) (code : Byte) (body : List Byte) (r : Role) (s : State),
        code.toNat ∈ requestCodes → body.length ≤ 196 →
        (∀ c : Instr, c.wf = true → requestBytes c ≠ some (rawOf auth op code body)) →
        s.slp.receiver = .hunt → s.admits code.toNat auth op r →
        s.feed (frameOf (rawOf auth op code body)) = s.hunting.answered code.toNat .badRequest .empty)
    ∧ ∀ (auth : Byte) (op : Half) (code : Byte) (s : State), code.toNat ∉ requestCodes →
        s.slp.response = none →
        exec (.unknownRequest auth op code) s = .next (s.answered code.toNat .badRequest .empty)

/-- Every request that is taken is answered with its CODE, and one that is refused changes nothing but the response
(R166, R167). -/
def Obligations.RefusalsChangeNothing : Prop :=
  ∀ (c : Instr) (code : Nat) (auth : Byte) (op : Half) (s : State), requestOf c = some (code, auth, op) →
    s.slp.response = none →
    ∃ t st a, exec c s = .next t ∧ t.said code st a
      ∧ (st.refuses = true → t = s.answered code st a)

/-! ## Reads, settings and claims -/

/-- IDENTIFY, by every authority and in every condition, answers the part code 440 in two bytes, the letter A
and FITTED_LANES in one byte, and changes nothing (R173). -/
def Obligations.IdentifyAnswersThePart : Prop :=
  (∀ (s : State) (auth : Byte) (op : Half) (r : Role), s.admits 0x01 auth op r →
      exec (.identify auth op) s = .next (s.answered 0x01 .ok (.identify s.set.fittedLanes.value)))
    ∧ (∀ (r : Role), r.admitted 0x01 = true)
    ∧ ∀ n : Nat, (Answer.identify n).bytes 0x01 = [0xB8, 0x01, 0x41, BitVec.ofNat 8 n]

/-- READ_EVENTS: supervisor and service receive every flag and leave all clear, ATTN with them; a teller
receives its own lane's byte and the wall flags but ALARM_CHANGE, and leaves the other lanes, ALARM_CHANGE
and BACKUP_LOST as they were; nothing else changes (R170, R169). -/
def Obligations.ReadEventsReturnsAndClears : Prop :=
  ∀ (s : State) (auth : Byte) (op : Half) (r : Role), s.admits 0x02 auth op r →
    (r.isTeller = false → ∃ t, exec (.readEvents auth op) s = .next t ∧ t.attn = false
      ∧ t = { s with slp := { s.slp with
          laneFlags := ⟨0, 0, 0, 0⟩, wallFlags := 0
          response := some ⟨0x02, .ok, .events s.slp.laneFlags.l1 s.slp.laneFlags.l2
            s.slp.laneFlags.l3 s.slp.laneFlags.l4 s.slp.wallFlags⟩ } })
    ∧ ∀ l, r = .teller l →
      let own (k : Lane) : Byte := if k = l then s.slp.laneFlags.get k else 0
      exec (.readEvents auth op) s = .next { s with slp := { s.slp with
        laneFlags := s.slp.laneFlags.put l 0
        wallFlags := s.slp.wallFlags &&& 0x300
        response := some ⟨0x02, .ok,
          .events (own .l1) (own .l2) (own .l3) (own .l4) (s.slp.wallFlags &&& 0xFEFF)⟩ } }

/-- READ_SETTING answers the value in effect and the pending value and changes nothing. WRITE_SETTING by the
setting's writer stores the value clamped into its range: at once, or pending while it must wait, a value
equal to the one in effect clearing what was pending; every other setting stays, and a setting whose rule
gives it no effect of its own changes nothing else (R172, R44). LOW_MARK evaluates the low-mark flag of every live
stock against the new mark and sets STOCK_LOW once when one crosses it (R133). CAPTURE_ENABLE has the open
condition examined: when it ceases to hold every OPEN throat closes, and when it comes to hold every CLOSED one
opens, WAITING when its sensor reads PRESENT, unless the arbiter takes it in the same change (R106, R108).
RV_CAPACITY leaves the vault's record its capacity and has the queue examined (R10, R58). STACKER_WAIT moves the
time left of the stacker's wait by the difference of the two limits (model's choice, log entry 31). -/
def Obligations.SettingsAreReadAndWritten : Prop :=
  (∀ (s : State) (auth : Byte) (op : Half) (r : Role) (id index : Byte), s.admits 0x03 auth op r →
      (∀ x, settingOf id.toNat index.toNat = some x →
          exec (.readSetting auth op id index) s =
            .next (s.answered 0x03 .ok (.setting (x.held s.set).value (x.held s.set).pending)))
        ∧ (settingOf id.toNat index.toNat = none →
          exec (.readSetting auth op id index) s = .next (s.answered 0x03 .badRequest .empty)))
    ∧ ∀ (s : State) (auth : Byte) (op : Half) (r : Role) (id index : Byte) (value : Half) (x : Setting),
      s.admits 0x70 auth op r → settingOf id.toNat index.toNat = some x → x.writtenBy r = true →
      ∃ t v, exec (.writeSetting auth op id index value) s = .next t
        ∧ v = max x.range.1 (min x.range.2 value.toNat)
        ∧ t.said 0x70 .ok (.stored id index v (x.held t.set).pending.isSome)
        ∧ (s.writeWaits x = false → (x.held t.set).value = v ∧ (x.held t.set).pending = none)
        ∧ (s.writeWaits x = true → (x.held t.set).value = (x.held s.set).value
            ∧ (x.held t.set).pending = if v = (x.held s.set).value then none else some v)
        ∧ (∀ y, y ≠ x → y.held t.set = y.held s.set)
        ∧ (x ∉ [Setting.lowMark, .captureEnable, .rvCapacity, .stackerWait] →
            t = { s with set := t.set, slp := { s.slp with response := t.slp.response } })
        ∧ (x = .lowMark →
          let crosses : Prop := ∃ p ∈ s.ct.stocks, p.2.lowMark = false ∧ p.2.remaining ≤ v
          (∀ h st, s.ct.find h = some (.stock st) →
              t.ct.find h = some (.stock { st with lowMark := decide (st.remaining ≤ v) }))
            ∧ (∀ h y, s.ct.find h = some y → (∀ st, y ≠ .stock st) → t.ct.find h = some y)
            ∧ (crosses → t.slp.wallFlags = s.slp.wallFlags ||| WallFlag.stockLow.mask)
            ∧ (¬ crosses → t.slp.wallFlags = s.slp.wallFlags)
            ∧ t = { s with set := t.set, ct := t.ct, slp := { s.slp with
                wallFlags := t.slp.wallFlags, response := t.slp.response } })
        ∧ (x = .captureEnable →
          (t.openCondition = s.openCondition →
              t = { s with set := t.set, slp := { s.slp with response := t.slp.response } })
            ∧ (s.openCondition = true → t.openCondition = false →
              (∀ k, t.ecc.throats.get k =
                  if (s.ecc.throats.get k).state = .opened then
                    { s.ecc.throats.get k with state := .closed, shutterOpen := false }
                  else s.ecc.throats.get k)
                ∧ t = { s with set := t.set, ecc := { s.ecc with throats := t.ecc.throats }
                               slp := { s.slp with response := t.slp.response } })
            ∧ (s.openCondition = false → t.openCondition = true →
              (∀ k, (s.ecc.throats.get k).state = .closed → (t.ecc.throats.get k).shutterOpen = true
                  ∧ (s.pins.throat.get k = false → (t.ecc.throats.get k).state = .opened)
                  ∧ (s.pins.throat.get k = true → (t.ecc.throats.get k).state = .waiting
                      ∨ ((t.ecc.throats.get k).state = .intake ∧ t.ecc.lastServed = k
                        ∧ t.ecc.inFlight = true)))
                ∧ t.ct = s.ct ∧ t.ntc = s.ntc ∧ t.ldc = s.ldc ∧ t.pins = s.pins
                ∧ t.azu.zones = s.azu.zones))
        ∧ (x = .rvCapacity →
          s.ct.vault? = t.ct.vault?
            ∧ t = (({ s with set := t.set } : State).examineQueue).answered 0x70 .ok
                (.stored id index v false))
        ∧ (x = .stackerWait → t = { s with
            set := t.set
            ntc :=
              let gone := s.set.stackerWait * 1000 + s.ntc.waitPast
              match s.ntc.waitTimer with
              | .stopped => s.ntc
              | .running n => { s.ntc with
                  waitTimer := .running (n + v * 1000 - gone), waitPast := gone - (n + v * 1000) }
              | .frozen n => { s.ntc with
                  waitTimer := .frozen (n + v * 1000 - gone), waitPast := gone - (n + v * 1000) }
            slp := { s.slp with response := t.slp.response } })

/-- READ_RECORD answers the image of the record that the handle names, to a reader who may see it: the
record itself, the quality of R16 and the hold causes of R18; LIST_LANE answers the images of the lane's
live bundle and transit, absent ones left out, and its last outcome. Both change nothing (R4, R22, R25,
R168). -/
def Obligations.RecordsAreRead : Prop :=
  (∀ (s : State) (auth : Byte) (op : Half) (r : Role) (h : Handle), s.admits 0x04 auth op r →
      (s.ct.find h = none →
          exec (.readRecord auth op h) s = .next (s.answered 0x04 .noRecord .empty))
        ∧ ∀ x, s.ct.find h = some x →
          (r.maySee x = false → exec (.readRecord auth op h) s = .next (s.answered 0x04 .authority .empty))
            ∧ (r.maySee x = true → ∃ i,
                exec (.readRecord auth op h) s = .next (s.answered 0x04 .ok (.image i))
                  ∧ i.handle = h ∧ i.record = x ∧ i.quality = s.ct.shownQuality x
                  ∧ i.holds = s.ct.holdsOf x
                  ∧ (i.reduced = true ↔ (∃ l, r = .teller l ∧ s.set.countView.get l = 0) ∧ ∃ st, x = .stock st)))
    ∧ ∀ (s : State) (auth : Byte) (op : Half) (r : Role) (lane : Byte) (l : Lane),
      s.admits 0x07 auth op r → laneOf lane = some l → s.fitted l = true → r.mayName l = true →
      ∃ (b t : Option Image), exec (.listLane auth op lane) s = .next (s.answered 0x07 .ok (.lane b t (s.ct.last.get l)))
        ∧ b.map (fun i => (i.handle, i.record)) = (s.ct.bundleOf l).map (fun p => (p.1, Record.bundle p.2))
        ∧ t.map (fun i => (i.handle, i.record)) = (s.ct.transitOf l).map (fun p => (p.1, Record.transit p.2))

/-- FIND_BY_LOCATION answers the handles of exactly the live records at the place, each once, in ascending
slot order, at most 100 of them, with their number and the mark that more exist, and changes nothing
(R23); with the generations legal (R1). -/
def Obligations.FindByLocationListsThePlace : Prop :=
  ∀ (s : State) (auth : Byte) (op : Half) (r : Role) (area position : Byte) (w : Location),
    s.admits 0x05 auth op r → s.ct.generationsLegal = true →
    locationOf area.toNat position.toNat = some w → s.unfittedPlace w = false →
    ∃ hs : List Handle, exec (.findByLocation auth op area position) s =
        .next (s.answered 0x05 .ok (.handles (hs.take 100) hs.length (decide (100 < hs.length))))
      ∧ hs.Pairwise (fun h k => handleSlot h < handleSlot k)
      ∧ ∀ h, h ∈ hs ↔ ∃ x, s.ct.find h = some x ∧ x.location = w

/-- FIND_ENVELOPE answers the envelope of the lowest slot that carries the number, with how many carry it;
a number of 0 or above 999,999 is BAD_REQUEST, one that no live envelope carries is NO_RECORD, and nothing
changes (R24); with the generations legal (R1). -/
def Obligations.FindEnvelopeAnswersTheLowestSlot : Prop :=
  ∀ (s : State) (auth : Byte) (op : Half) (r : Role) (n : Quad),
    s.admits 0x06 auth op r → s.ct.generationsLegal = true →
    let carries (h : Handle) : Prop := ∃ e, s.ct.find h = some (.envelope e) ∧ e.number = n.toNat
    ((n.toNat = 0 ∨ 999999 < n.toNat) →
        exec (.findEnvelope auth op n) s = .next (s.answered 0x06 .badRequest .empty))
      ∧ (1 ≤ n.toNat → n.toNat ≤ 999999 → (∀ h, ¬ carries h) →
        exec (.findEnvelope auth op n) s = .next (s.answered 0x06 .noRecord .empty))
      ∧ (1 ≤ n.toNat → n.toNat ≤ 999999 → (∃ h, carries h) →
        ∃ (h : Handle) (hs : List Handle), exec (.findEnvelope auth op n) s = .next (s.answered 0x06 .ok (.found h hs.length))
          ∧ hs.Nodup ∧ (∀ k, k ∈ hs ↔ carries k) ∧ h ∈ hs
          ∧ ∀ k ∈ hs, handleSlot h ≤ handleSlot k)

/-- READ_TOTALS, READ_DRAWER, READ_TRANSPORT and READ_ALARMS answer what they show and change nothing: each
position's live stock with its value, the total of the live stocks with the worst of their qualities, "balance
open" while one is DIRTY, the vault, the bins with their envelope counts, and the claims (R26, R16, R17); a drawer
and a transport show their state as it stands (R65, R87, R105); the alarm view shows the zones, the relays, the
hold sets, of the fitted lanes alone, the grants, and the top zone, which is the first in the order of class and
number among the enabled zones that are pending and, when none is, among those with trouble; a teller is shown no
hold-up zone, not as top zone either, and no HOLDUP relay (R154). -/
def Obligations.ViewsShowTheState : Prop :=
  (∀ (s : State) (auth : Byte) (op : Half) (r : Role), s.admits 0x08 auth op r →
      ∃ v, exec (.readTotals auth op) s = .next (s.answered 0x08 .ok (.totals v))
        ∧ v.total = (s.ct.stocks.map fun p => (p.2.loaded - p.2.pickedOut) * p.2.denom).sum
        ∧ (∀ p ∈ s.ct.stocks, p.2.quality.rank ≤ v.quality.rank)
        ∧ (v.quality = .exact ∨ ∃ p ∈ s.ct.stocks, p.2.quality = v.quality)
        ∧ (v.balanceOpen = true ↔ ∃ p ∈ s.ct.stocks, p.2.balance = .dirty)
        ∧ v.claimed = (s.ct.envelopes.filter (·.2.claimed)).length
        ∧ (v.reduced = true ↔ ∃ l, r = .teller l ∧ s.set.countView.get l = 0)
        ∧ (∀ p, (v.stocks.get p).map (fun x => (x.denom, x.remaining, x.value, x.quality, x.balance)) =
            (s.ct.stockAt p).map fun q => (q.2.denom, q.2.loaded - q.2.pickedOut,
              (q.2.loaded - q.2.pickedOut) * q.2.denom, q.2.quality, q.2.balance))
        ∧ v.vault = s.ct.vault?.map (·.2)
        ∧ v.bin1 = (s.ct.binAt .b1).map (·.2) ∧ v.bin2 = (s.ct.binAt .b2).map (·.2))
    ∧ (∀ (s : State) (auth : Byte) (op : Half) (r : Role) (lane : Byte) (l : Lane),
      s.admits 0x09 auth op r → laneOf lane = some l → s.fitted l = true →
      exec (.readDrawer auth op lane) s = .next (s.answered 0x09 .ok (.drawer
        ⟨(s.ldc.get l).state, (s.ldc.get l).halted, s.pins.home.get l, s.pins.out.get l,
          s.pins.tray.get l, (s.ldc.get l).take, (s.ldc.get l).locks, (s.ldc.get l).saved,
          (s.ct.consignment l).map (·.handle)⟩)))
    ∧ (∀ (s : State) (auth : Byte) (op : Half) (r : Role), s.admits 0x0A auth op r →
      (∃ v, exec (.readTransportNote auth op) s = .next (s.answered 0x0A .ok (.noteTransport v))
          ∧ v.state = s.ntc.state ∧ v.saved = s.ntc.saved ∧ v.current = s.ntc.current
          ∧ v.pendingEnd = s.ntc.pendingEnd ∧ v.stackerCount = s.ntc.stackerCount
          ∧ v.pickFails = s.ntc.pickFails)
        ∧ ∃ v, exec (.readTransportEnvelope auth op) s = .next (s.answered 0x0A .ok (.envTransport v))
          ∧ v.state = s.ecc.state ∧ v.saved = s.ecc.saved ∧ v.throats = s.ecc.throats
          ∧ v.current = s.ecc.current ∧ v.nextNumber = s.ecc.nextNumber
          ∧ v.lastServed = s.ecc.lastServed
          ∧ v.bin1 = (s.ct.binAt .b1).map (fun p => (p.1, p.2.role))
          ∧ v.bin2 = (s.ct.binAt .b2).map (fun p => (p.1, p.2.role)))
    ∧ ∀ (s : State) (auth : Byte) (op : Half) (r : Role), s.admits 0x0B auth op r →
      ∃ v, exec (.readAlarms auth op) s = .next (s.answered 0x0B .ok (.alarms v))
        ∧ v.grants = s.azu.grants
        ∧ (∀ z : ZoneId, v.zones[z.val]? =
            some (if r.isTeller = true ∧ isHoldup z = true then none else some s.azu.zones[z]))
        ∧ v.outputs.intrusion = s.azu.outputs.intrusion
        ∧ v.outputs.holdup = (s.azu.outputs.holdup && !r.isTeller)
        ∧ v.outputs.trouble = s.azu.outputs.trouble ∧ v.outputs.test = s.azu.outputs.test
        ∧ v.outputs.panel = s.azu.outputs.panel
        ∧ v.holdDispenser = s.ct.holdDispenser ∧ v.holdReject = s.ct.holdReject
        ∧ v.holdCapture = s.ct.holdCapture
        ∧ (∀ l, v.holdLane.get l = if s.fitted l = true then s.ct.holdLane.get l else 0)
        ∧ let byRank : List ZoneId := [0, 1, 2, 3, 14, 4, 5, 6, 7, 8, 9, 10, 13, 11, 15, 12]
          let first (marked : Zone → Bool) : Option ZoneId := byRank.find? fun z =>
            !(r.isTeller && isHoldup z) && s.azu.zones[z].enable && marked s.azu.zones[z]
          v.top = match first (·.pending) with
            | some z => some ⟨z, true⟩
            | none => (first (·.trouble)).map fun z => ⟨z, false⟩

/-- CLAIM_ENVELOPE marks an unclaimed envelope, answers the number of claims, is FULL at 32 and changes
nothing for a claimed one, whose claim is answered with the number of claims too (model's choice, log entry 39: R20
says only that it is accepted); RELEASE_CLAIM clears the mark of an envelope in a bin and retires a collected
one. Nothing but that record and the response changes (R20, R3). -/
def Obligations.ClaimsAreMadeAndReleased : Prop :=
  (∀ (s : State) (auth : Byte) (op : Half) (r : Role) (h : Handle) (e : Envelope),
      s.admits 0x40 auth op r → s.ct.find h = some (.envelope e) →
      (e.claimed = true →
          exec (.claimEnvelope auth op h) s = .next (s.answered 0x40 .ok (.claims s.ct.claims)))
        ∧ (e.claimed = false → 32 ≤ s.ct.claims →
          exec (.claimEnvelope auth op h) s = .next (s.answered 0x40 .full .empty))
        ∧ (e.claimed = false → s.ct.claims < 32 → ∃ t,
          exec (.claimEnvelope auth op h) s = .next t
            ∧ t.said 0x40 .ok (.claims (s.ct.claims + 1))
            ∧ t.ct.find h = some (.envelope { e with claimed := true })
            ∧ (∀ k, k ≠ h → t.ct.find k = s.ct.find k)
            ∧ t = { s with ct := t.ct, slp := { s.slp with response := t.slp.response } }))
    ∧ ∀ (s : State) (auth : Byte) (op : Half) (r : Role) (h : Handle) (e : Envelope),
      s.admits 0x41 auth op r → s.ct.find h = some (.envelope e) →
      (e.claimed = false →
          exec (.releaseClaim auth op h) s = .next (s.answered 0x41 .state .empty))
        ∧ (e.claimed = true → ∃ t,
          exec (.releaseClaim auth op h) s = .next t ∧ t.said 0x41 .ok .empty
            ∧ (∀ k, k ≠ h → t.ct.find k = s.ct.find k)
            ∧ t = { s with ct := t.ct, slp := { s.slp with response := t.slp.response } }
            ∧ (e.place = .collected → t.ct.find h = none)
            ∧ ∀ c b, e.place = .inBin c b →
                t.ct.find h = some (.envelope { e with claimed := false }))

/-! ## The gauges -/

/-- The class of a note is that of the first test of R37 that holds, and an envelope's the first reason of
R42, with the thresholds as the rules write them: T at or above 13/8 of T_ref, T below 5/8 of T_ref, Ls in
half-millimetres against bounds in millimetres. -/
def Obligations.ClassesFollowTheTests : Prop :=
  (∀ (m : Measure) (atLimit : Bool) (tRef lRef ltol skewLimit : Nat),
      let c := classifyNote m atLimit tRef lRef ltol skewLimit
      let long : Prop := atLimit = true ∨ (m.ls : Int) > lRef + ltol
      let short : Prop := (m.ls : Int) < (lRef : Int) - ltol ∨ m.short = true
      let skew : Prop := m.skew > skewLimit
      let double : Prop := (m.t : Rat) ≥ 13 / 8 * tRef
      let thin : Prop := (m.t : Rat) < 5 / 8 * tRef
      (c = .long ↔ long) ∧ (c = .short ↔ ¬ long ∧ short) ∧ (c = .skew ↔ ¬ long ∧ ¬ short ∧ skew)
        ∧ (c = .double ↔ ¬ long ∧ ¬ short ∧ ¬ skew ∧ double)
        ∧ (c = .thin ↔ ¬ long ∧ ¬ short ∧ ¬ skew ∧ ¬ double ∧ thin)
        ∧ (c = .good ↔ ¬ long ∧ ¬ short ∧ ¬ skew ∧ ¬ double ∧ ¬ thin))
    ∧ ∀ (c : Settings) (m : Measure) (atLimit : Bool),
      let k := classifyEnvelope c m atLimit
      let badLength : Prop := atLimit = true ∨ m.short = true ∨ m.ls < 2 * c.envLengthMin
        ∨ 2 * (c.envLengthMax + 1) ≤ m.ls
      (k = .handBack .length ↔ badLength)
        ∧ (k = .handBack .thick ↔ ¬ badLength ∧ m.t > c.envThicknessMax)
        ∧ (k = .handBack .skew ↔ ¬ badLength ∧ ¬ m.t > c.envThicknessMax ∧ m.skew > c.skewEnv.value)
        ∧ (k = .accept ↔ ¬ badLength ∧ ¬ m.t > c.envThicknessMax ∧ ¬ m.skew > c.skewEnv.value)

/-- The estimate of an item is its measure over the reference rounded to the nearest whole number, halves
upward, and kept between 2 and 4; every class counts at least one note (R38). -/
def Obligations.EstimatesRoundToNearest : Prop :=
  (∀ x ref k : Nat, 0 < ref →
      (k : Rat) - 1 / 2 ≤ (x : Rat) / ref → (x : Rat) / ref < (k : Rat) + 1 / 2 →
      estimate x ref = max 2 (min 4 k))
    ∧ (∀ (m : Measure) (tRef lRef : Nat), countedNotes .long m tRef lRef = estimate m.ls lRef
        ∧ countedNotes .double m tRef lRef = estimate m.t tRef)
    ∧ ∀ (c : NoteClass) (m : Measure) (tRef lRef : Nat), 1 ≤ countedNotes c m tRef lRef

/-- A GOOD note moves its stock's references by (T - T_ref + 8)/16 and (Ls - L_ref + 16)/32, rounded down on
the signed value, and holds them within the learning bounds; a DOUBTFUL stock does not learn, and nothing
but the two references changes (R40, R41). -/
def Obligations.ReferencesLearnWithinBounds : Prop :=
  ∀ (st : Stock) (ref : ItemStock) (m : Measure),
    (st.quality.isDoubtful = true → st.learn ref m = st)
      ∧ (st.quality.isDoubtful = false →
        st.learn ref m = { st with tRef := (st.learn ref m).tRef, lRef := (st.learn ref m).lRef }
          ∧ (st.tLow ≤ st.tHigh →
              ((st.learn ref m).tRef : Int)
                = max (st.tLow : Int) (min (st.tHigh : Int) ((ref.tRef : Int) + ⌊(((m.t : Rat) - ref.tRef + 8) / 16)⌋))
              ∧ st.tLow ≤ (st.learn ref m).tRef ∧ (st.learn ref m).tRef ≤ st.tHigh)
          ∧ (st.lLow ≤ st.lHigh →
              ((st.learn ref m).lRef : Int)
                = max (st.lLow : Int) (min (st.lHigh : Int) ((ref.lRef : Int) + ⌊(((m.ls : Rat) - ref.lRef + 16) / 32)⌋))
              ∧ st.lLow ≤ (st.learn ref m).lRef ∧ (st.learn ref m).lRef ≤ st.lHigh))

/-- The samples of the gauges. A pulse in measuring travel outside a leader, with no item present, at the run's
first sample or with both differences below the threshold, is a gap sample: its codes enter the two windows, the
oldest leaving a full one, the index steps, the encoder-stall limit restarts, and nothing else changes (R27, R29,
R80, R117). One with a difference at or above the threshold starts an item, of the outstanding pick's stock with
its references as they stand (R30). With an item present each track takes the sample; an item that ends is its
ITEM_END row with the measurements, one whose presence reaches a limit is that limit's row, and any other goes on
(R31, R32). A track's leading edge is its first difference at or above the threshold, its trailing edge the first
of four below it in a row after that (R30, R31). Ls is the greater length, a track below 32 samples is short, the
thickness is made of the means over the bodies and the gains, and the skew is the distance of the leading edges
(R33 to R36). That Ls is the greater length at a limit too is the model's choice (log entry 70), and that an item
which ends at the very sample of a limit has ended is its reading (log entry 32). -/
def Obligations.GapSamplesEnterTheWindows : Prop :=
  ∀ (s : State) (a b : Sample),
    let gap (g : Gauge) (threshold : Nat) : Prop :=
      g.run = true ∧ g.measuring = true ∧ g.item = none
        ∧ (g.winA = [] ∨ (a.toNat - g.winA.sum / g.winA.length < threshold
            ∧ b.toNat - g.winB.sum / g.winB.length < threshold))
    let sampled (g : Gauge) : Gauge := { g with
      index := g.index + 1
      winA := (g.winA ++ [a.toNat]).drop (if g.winA.length < 16 then 0 else 1)
      winB := (g.winB ++ [b.toNat]).drop (if g.winB.length < 16 then 0 else 1) }
    (s.ntc.motor = true → s.ntc.state ≠ .leader → gap s.gmu.note s.set.thresholdNote.value →
        exec (.encoderPulse .note a b) s = .next { s with
          gmu := { s.gmu with note := sampled s.gmu.note }
          ntc := { s.ntc with stallTimer := .running 100 } })
      ∧ (s.ecc.motor = true → s.ecc.state ≠ .leader → gap s.gmu.envelope s.set.thresholdEnv.value →
        exec (.encoderPulse .envelope a b) s = .next { s with
          gmu := { s.gmu with envelope := sampled s.gmu.envelope }
          ecc := { s.ecc with stallTimer := .running 100 } })
      ∧ (let g := s.gmu.note
        let set := s.set.gauge .note
        let da := a.toNat - g.winA.sum / g.winA.length
        let db := b.toNat - g.winB.sum / g.winB.length
        let edge (d : Nat) : TrackItem :=
          if set.threshold ≤ d then ⟨some g.index, 0, none, [d]⟩ else ⟨none, 0, none, []⟩
        let on (item : GaugeItem) : State := { s with
          gmu := { s.gmu with note := { g with index := g.index + 1, item := some item } }
          ntc := { s.ntc with stallTimer := .running 100 } }
        s.ntc.motor = true → g.run = true → g.measuring = true →
        (∀ h st, g.item = none → g.winA ≠ [] → (set.threshold ≤ da ∨ set.threshold ≤ db) →
          s.ntc.state = .picking → s.ntc.pick = some h → s.ct.stock? h = some st →
          exec (.encoderPulse .note a b) s = .next { s with
            gmu := { s.gmu with note := { g with
              index := g.index + 1
              item := some ⟨g.index, edge da, edge db, some ⟨h, st.tRef, st.lRef⟩, false⟩ } }
            ntc := { s.ntc with
              stallTimer := .running 100, path := s.ntc.path ++ [⟨some h, false, false⟩]
              pick := none, pickTimer := .stopped, pickFails := s.ntc.pickFails.put st.pos 0 } })
        ∧ ∀ it, g.item = some it →
          let now : GaugeItem := { it with
            a := it.a.sample set.threshold g.index da, b := it.b.sample set.threshold g.index db }
          let m := now.measure g.index set.gainA set.gainB
          (now.ended = true → m.wf .note = true →
              exec (.encoderPulse .note a b) s = exec (.itemEnd .note m) (on now))
            ∧ (now.ended = false → it.classified = false → it.stock.isSome = true →
              g.index = it.start + 700 →
              exec (.encoderPulse .note a b) s = exec .noteLengthLimit (on now))
            ∧ (now.ended = false → it.classified = true → g.index = it.start + 1000 →
              exec (.encoderPulse .note a b) s = exec .notePresenceLimit (on now))
            ∧ (now.ended = false → g.index - it.start ≠ 700 → g.index - it.start ≠ 1000 →
              exec (.encoderPulse .note a b) s = .next (on now)))
      ∧ (let g := s.gmu.envelope
        let set := s.set.gauge .envelope
        let da := a.toNat - g.winA.sum / g.winA.length
        let db := b.toNat - g.winB.sum / g.winB.length
        let edge (d : Nat) : TrackItem :=
          if set.threshold ≤ d then ⟨some g.index, 0, none, [d]⟩ else ⟨none, 0, none, []⟩
        let on (item : GaugeItem) : State := { s with
          gmu := { s.gmu with envelope := { g with index := g.index + 1, item := some item } }
          ecc := { s.ecc with stallTimer := .running 100 } }
        s.ecc.motor = true → g.run = true → g.measuring = true →
        (∀ e, g.item = none → g.winA ≠ [] → (set.threshold ≤ da ∨ set.threshold ≤ db) →
          s.ecc.state = .measuring → s.ecc.current = some e → e.itemEnded = false →
          exec (.encoderPulse .envelope a b) s = .next { s with
            gmu := { s.gmu with envelope := { g with
              index := g.index + 1, item := some ⟨g.index, edge da, edge db, none, false⟩ } }
            ecc := { s.ecc with
              stallTimer := .running 100, intakeTimer := .stopped
              current := some { e with itemStarted := true } } })
        ∧ ∀ it, g.item = some it →
          let now : GaugeItem := { it with
            a := it.a.sample set.threshold g.index da, b := it.b.sample set.threshold g.index db }
          let m := now.measure g.index set.gainA set.gainB
          (now.ended = true → m.wf .envelope = true →
              exec (.encoderPulse .envelope a b) s = exec (.itemEnd .envelope m) (on now))
            ∧ (now.ended = false → it.classified = false → m.short = false → m.t ≤ 16316 →
              g.index = it.start + 640 →
              exec (.encoderPulse .envelope a b) s = exec (.envelopeLengthLimit m.t m.skew) (on now))
            ∧ (now.ended = false → it.classified = true → g.index = it.start + 900 →
              exec (.encoderPulse .envelope a b) s = exec .envelopePresenceLimit (on now))
            ∧ (now.ended = false → g.index - it.start ≠ 640 → g.index - it.start ≠ 900 →
              exec (.encoderPulse .envelope a b) s = .next (on now)))
      ∧ (∀ (threshold start : Nat) (ds : List Nat),
        let tr := TrackItem.follow threshold start ds
        let quiet (k : Nat) : Prop := start ≤ k ∧ k + 4 ≤ start + ds.length
          ∧ ∀ d ∈ (ds.drop (k - start)).take 4, d < threshold
        (∀ l, tr.lead = some l ↔ start ≤ l ∧ (∃ d, ds[l - start]? = some d ∧ threshold ≤ d)
            ∧ ∀ d ∈ ds.take (l - start), d < threshold)
          ∧ ∀ e, tr.trail = some e ↔
            ∃ l, tr.lead = some l ∧ l < e ∧ quiet e ∧ ∀ k, l < k → k < e → ¬ quiet k)
      ∧ ∀ (it : GaugeItem) (threshold limit gainA gainB : Nat) (da db : List Nat),
        it.a = TrackItem.follow threshold it.start da → it.b = TrackItem.follow threshold it.start db →
        da.length = db.length → it.start + da.length = limit + 1 →
        let span (tr : TrackItem) : Nat := (tr.lead.map fun l => tr.trail.getD limit - l).getD 0
        let mean (tr : TrackItem) (ds : List Nat) : Nat :=
          ((ds.drop (tr.lead.getD 0 + 8 - it.start)).take (span tr - 16)).sum / (span tr - 16)
        let m := it.measure limit gainA gainB
        m.ls = max (span it.a) (span it.b)
          ∧ (m.short = true ↔ span it.a < 32 ∨ span it.b < 32)
          ∧ m.t = (if span it.a < 32 ∨ span it.b < 32 then 0
              else (mean it.a da * gainA / 64 + mean it.b db * gainB / 64) / 2)
          ∧ (∀ x y, it.a.lead = some x → it.b.lead = some y → m.skew = (x - y) + (y - x))
          ∧ ((it.a.lead = none ∨ it.b.lead = none) → m.skew = 0)

/-! ## Plans, quotes and the queue -/

/-- The plan of R48 is the lexicographically greatest vector of counts that pays the amount: the depth-first
search answers a vector exactly when it is that one, and none exactly when no vector pays. -/
def Obligations.SearchFindsTheGreatestPlan : Prop :=
  ∀ (cs : List Candidate) (amount notes : Nat), (∀ c ∈ cs, 0 < c.denom) →
    (∀ v, searchPlan cs amount notes = some v ↔
        pays cs v amount notes ∧ ∀ w, pays cs w amount notes → lexGe v w)
      ∧ (searchPlan cs amount notes = none ↔ ∀ w, ¬ pays cs w amount notes)

/-- The candidates are the live stocks of the five positions that are neither DOUBTFUL nor held, by
denomination from highest to lowest and equal ones from C1 to C5, with their available counts (R47); over
them the greedy maximum of R49 is the greatest amount that any vector within the limits pays. -/
def Obligations.CandidatesAndGreedyMaximum : Prop :=
  (∀ s : State,
      s.candidates.Pairwise (fun c d => d.denom < c.denom ∨ (c.denom = d.denom ∧ c.pos.num < d.pos.num))
        ∧ ∀ c, c ∈ s.candidates ↔ ∃ st, s.ct.stockAt c.pos = some (c.handle, st)
            ∧ st.quality.isDoubtful = false ∧ s.ct.holdDispenser = 0
            ∧ c.denom = st.denom ∧ c.available = (st.loaded - st.pickedOut) - st.reserved)
    ∧ ∀ (cs : List Candidate) (notes : Nat), cs.Pairwise (fun c d => d.denom ≤ c.denom) →
        (∃ v, pays cs v (greedyMaximum cs notes) notes)
          ∧ ∀ v amount, pays cs v amount notes → amount ≤ greedyMaximum cs notes

/-- QUOTE for a fitted lane that the requester may name and that is not locked: with a plan, the quote is
stored VALID and NEWER under the next tag with the plan's parts, the lane's other quote becoming OLDER, and
the answer carries the tag; without one the refusal of R49 is answered and nothing changes. Custody, the
queue and the sequence stay (R51, R49); on a quote table as R51 keeps it. The plan is the one that the search
finds over the candidates within BUNDLE_LIMIT, its counts above 0 in candidate order (R48). An amount of 0 or
above 9,999,999 is BAD_REQUEST, and one that no vector pays is NO_PLAN with the greedy maximum, OVER_LIMIT when it
is above that and NO_COMBINATION otherwise (R49). -/
def Obligations.QuoteStoresThePlan : Prop :=
  ∀ (s : State) (auth : Byte) (op : Half) (r : Role) (lane : Byte) (l : Lane) (amount : Quad),
    s.admits 0x20 auth op r → laneOf lane = some l → s.fitted l = true → r.mayName l = true →
    s.locked l = false → s.dpl.quotesLegal = true →
    (∀ parts, s.planAmount amount.toNat = .ok parts → ∃ t,
        exec (.quote auth op lane amount) s = .next t
          ∧ t.said 0x20 .ok (.quote s.dpl.nextTag l amount.toNat (s.planFigures parts)
              (parts.map (·.count)).sum (s.planQuality parts))
          ∧ ⟨s.dpl.nextTag, l, amount.toNat, parts, true, true⟩ ∈ t.dpl.liveQuotes
          ∧ (∀ q ∈ t.dpl.quotesOf l, q.tag ≠ s.dpl.nextTag → q.newer = false)
          ∧ (∀ k, k ≠ l → t.dpl.quotesOf k = s.dpl.quotesOf k)
          ∧ t.dpl.queue = s.dpl.queue ∧ t.dpl.sequence = s.dpl.sequence
          ∧ t = { s with dpl := t.dpl, slp := { s.slp with response := t.slp.response } })
      ∧ (∀ e, s.planAmount amount.toNat = .error e →
          exec (.quote auth op lane amount) s = .next (s.answered 0x20 e.status e.detail))
      ∧ (∀ counts, 1 ≤ amount.toNat → amount.toNat ≤ 9999999 →
          searchPlan s.candidates amount.toNat s.set.bundleLimit = some counts →
          s.planAmount amount.toNat = .ok
            (((s.candidates.zip counts).filter fun p => 0 < p.2).map fun p => ⟨p.1.handle, p.2⟩))
      ∧ ((amount.toNat = 0 ∨ 9999999 < amount.toNat) →
          exec (.quote auth op lane amount) s = .next (s.answered 0x20 .badRequest .empty))
      ∧ (1 ≤ amount.toNat → amount.toNat ≤ 9999999 →
          (∀ v, ¬ pays s.candidates v amount.toNat s.set.bundleLimit) →
          (∀ c ∈ s.candidates, 0 < c.denom) →
          let most := greedyMaximum s.candidates s.set.bundleLimit
          exec (.quote auth op lane amount) s = .next (s.answered 0x20 .noPlan
            (.noPlan (if most < amount.toNat then .overLimit else .noCombination) none most)))

/-- A plan is committed while the note transport is at work: COMMIT of a valid quote of the lane, DISPENSE of
an amount and DISPENSE of a mix each create a QUEUED bundle with the plan's parts, the amount and the next
sequence number, which joins the queue's tail; every stock of the plan reserves its count; the sequence
steps; COMMIT frees its quote (R53, R54, R55, R56). COMMIT answers the bundle's handle, and DISPENSE the handle with
the plan's parts in full (R134; that they follow the handle is the model's reading, log entry 52). With a slot free
and its generation legal (R1, R2). -/
def Obligations.CommitsJoinTheQueue : Prop :=
  ∀ (s : State) (l : Lane) (slot : Nat) (g : Byte),
    s.fitted l = true → s.locked l = false → s.ct.bundleOf l = none → s.ntc.state ≠ .idle →
    s.ct.freeSlot = some slot → s.ct.slots[slot]? = some ⟨g, none⟩ → s.ct.generationsLegal = true →
    let h := handleOf g slot
    let queued (code amount : Nat) (parts : List QuotePart) (answer : Answer) (t : State) : Prop :=
      t.said code .accepted answer
        ∧ t.ct.find h = some (.bundle
            ⟨l, amount, s.dpl.sequence, parts.map (fun p => ⟨p.stock, p.count, 0⟩), 0, .queued⟩)
        ∧ t.dpl.queue = s.dpl.queue ++ [h]
        ∧ t.dpl.sequence = (s.dpl.sequence + 1) % 65536
        ∧ (∀ p ∈ parts, ∀ st, s.ct.stock? p.stock = some st →
            ∃ st', t.ct.stock? p.stock = some st' ∧ st'.reserved = st.reserved + p.count
              ∧ st'.remaining = st.remaining)
        ∧ (∀ k, k ≠ h → (∀ p ∈ parts, p.stock ≠ k) → t.ct.find k = s.ct.find k)
        ∧ t.ntc = s.ntc ∧ t.gmu = s.gmu ∧ t.ldc = s.ldc ∧ t.ecc = s.ecc ∧ t.azu = s.azu
        ∧ t.set = s.set ∧ t.pins = s.pins
    let named (auth : Byte) (op : Half) (code : Nat) : Prop :=
      s.dpl.sequence ≤ 65535 ∧ ∃ r, s.admits code auth op r ∧ r.mayName l = true
    (∀ (auth : Byte) (op : Half) (lane tag : Byte) (q : Quote), named auth op 0x21 →
        laneOf lane = some l → s.dpl.quoteTagged tag.toNat = some q → q.lane = l → q.valid = true →
        (q.parts.map (·.stock)).Nodup →
        ∃ t, exec (.commit auth op lane tag) s = .next t ∧ queued 0x21 q.amount q.parts (.handle h) t
          ∧ t.dpl.quoteTagged tag.toNat = none)
      ∧ (∀ (auth : Byte) (op : Half) (lane : Byte) (amount : Quad) (parts : List QuotePart),
        named auth op 0x22 → laneOf lane = some l → s.planAmount amount.toNat = .ok parts →
        ∃ t, exec (.dispenseAmount auth op lane amount) s = .next t
          ∧ queued 0x22 amount.toNat parts (.dispensed h (s.planFigures parts)) t)
      ∧ ∀ (auth : Byte) (op : Half) (lane n1 n2 n3 n4 n5 : Byte) (parts : List QuotePart),
        named auth op 0x22 → laneOf lane = some l →
        s.planMix ⟨n1.toNat, n2.toNat, n3.toNat, n4.toNat, n5.toNat⟩ = .ok parts →
        ∃ t, exec (.dispenseMix auth op lane n1 n2 n3 n4 n5) s = .next t
          ∧ queued 0x22 (s.planAmountOf parts) parts (.dispensed h (s.planFigures parts)) t

/-- CANCEL_BUNDLE of a QUEUED bundle that is not held retires it with outcome CANCELLED and no notes, takes
it out of the queue, and gives each stock of its plan back what was reserved for it; the answer carries
those figures, one stock and count for each part (model's choice, log entry 41: R60 says only that it carries the
reservation released); BUNDLE_DONE is set; the mechanisms stay. One of a bundle already ROUTING or later is
refused with STATE (R60, R61, R25). One of a bundle in the transport is ACCEPTED: with an ending pending it
changes nothing else; in PICKING with a pick outstanding or an item in the path the ending CANCELLED is pending
and nothing else changes; otherwise, in LEADER, PICKING or STACKED_WAIT or a pause of one of these, the bundle ends
CANCELLED at once, its stacked notes go to the vault, and the transport is IDLE, or dumps with notes in the
stacker, after the lift of a pause (R76, R74, R75, R82). With the generations legal (R1). -/
def Obligations.CancelReleasesTheReservation : Prop :=
  ∀ (s : State) (auth : Byte) (op : Half) (r : Role) (h : Handle) (b : Bundle),
    s.admits 0x23 auth op r → s.ct.find h = some (.bundle b) → r.mayName b.lane = true →
    s.ct.holdsOf (.bundle b) = 0 →
    (b.state = .queued → (b.parts.map (·.stock)).Nodup → s.fitted b.lane = true →
      ∃ t q, exec (.cancelBundle auth op h) s = .next t
        ∧ t.said 0x23 .ok (.released (b.parts.map fun p => (p.stock, p.target - p.stacked)))
        ∧ t.ct.find h = none ∧ t.ct.last.get b.lane = some ⟨h, .cancelled, b.amount, 0, q⟩
        ∧ t.dpl.queue = s.dpl.queue.filter (· != h)
        ∧ t.laneFlag b.lane .bundleDone = true
        ∧ (∀ p ∈ b.parts, ∀ st, s.ct.stock? p.stock = some st → ∃ st',
            t.ct.stock? p.stock = some st'
              ∧ st'.reserved = st.reserved - (p.target - p.stacked)
              ∧ st'.remaining = st.remaining ∧ st'.quality = st.quality)
        ∧ t.ntc = s.ntc ∧ t.gmu = s.gmu ∧ t.ldc = s.ldc ∧ t.ecc = s.ecc ∧ t.azu = s.azu
        ∧ t.set = s.set ∧ t.pins = s.pins)
    ∧ (b.state ∉ [BundleState.queued, .picking, .stacked] →
      exec (.cancelBundle auth op h) s = .next (s.answered 0x23 .state .empty))
    ∧ ((b.state = .picking ∨ b.state = .stacked) → s.currentBundle = some (h, b) →
      let begun : Prop := s.ntc.pick ≠ none ∨ s.ntc.path ≠ []
      let accepted (n : Ntc) : State :=
        { s with ntc := n, slp := { s.slp with response := some ⟨0x23, .accepted, .empty⟩ } }
      (s.ntc.pendingEnd ≠ none → exec (.cancelBundle auth op h) s = .next (accepted s.ntc))
        ∧ (s.ntc.pendingEnd = none → s.ntc.phase = .picking → begun →
          exec (.cancelBundle auth op h) s =
            .next (accepted { s.ntc with pendingEnd := some .cancelled }))
        ∧ (s.ntc.pendingEnd = none → s.dpl.queue = [] → s.ct.generationsLegal = true →
          (s.ntc.phase = .leader ∨ (s.ntc.phase = .picking ∧ ¬ begun) ∨ s.ntc.phase = .stackedWait) →
          ∃ t q, exec (.cancelBundle auth op h) s = .next t ∧ t.said 0x23 .accepted .empty
            ∧ t.ct.find h = none
            ∧ t.ct.last.get b.lane = some ⟨h, .cancelled, b.amount, 0, q⟩
            ∧ (∀ hv v, s.ct.vault? = some (hv, v) → v.count + b.stackedSum ≤ v.capacity →
                t.ct.vault? = some (hv, { v with count := v.count + b.stackedSum }))
            ∧ (s.fitted b.lane = true → t.laneFlag b.lane .bundleDone = true)
            ∧ t.ntc.current = none ∧ t.ntc.pendingEnd = none ∧ t.ntc.motor = false
            ∧ t.ntc.pick = none ∧ t.ntc.path = [] ∧ t.gmu.note.run = false
            ∧ (s.ntc.stackerCount = 0 → t.ntc.state = .idle)
            ∧ (0 < s.ntc.stackerCount → s.ntc.state ≠ .paused → t.ntc.state = .diverting
                ∧ (s.pins.warning = false → t.ntc.dump = true ∧ t.ntc.dumpTimer = .running 3000))
            ∧ (0 < s.ntc.stackerCount → s.ntc.state = .paused →
                t.ntc.state = .paused ∧ t.ntc.saved = some .diverting ∧ t.ntc.dump = false)
            ∧ t.ldc = s.ldc ∧ t.ecc = s.ecc ∧ t.pins = s.pins ∧ t.azu.zones = s.azu.zones))

/-- The queue is examined oldest entry first: with the note transport IDLE the first entry whose bundle meets
every condition of R57 is handed over, its bundle PICKING and the transport's, and leaves the queue; when
none does, custody and the queue stay; and RV_FULL and the mark follow R59. -/
def Obligations.QueueIsExaminedOldestFirst : Prop :=
  ∀ s : State, s.ntc.state = .idle →
    let ready (h : Handle) : Bool := s.entryMeets (fun b => s.mayStart b && s.spaceFor b) h
    (∀ before h after, s.dpl.queue = before ++ h :: after → (∀ k ∈ before, ready k = false) →
        ready h = true →
        (∃ b, s.ct.bundle? h = some b
            ∧ s.examineQueue.ct.find h = some (.bundle { b with state := .picking }))
          ∧ s.examineQueue.ntc.current = some h
          ∧ (s.pauseInForce = false → s.examineQueue.ntc.state = .leader
              ∧ s.examineQueue.ntc.motor = true ∧ s.examineQueue.gmu.note = Gauge.runStart)
          ∧ (s.pauseInForce = true → s.examineQueue.ntc.state = .paused
              ∧ s.examineQueue.ntc.saved = some .leader)
          ∧ h ∉ s.examineQueue.dpl.queue ∧ s.examineQueue.dpl.rvBlocked = false)
      ∧ ((∀ k ∈ s.dpl.queue, ready k = false) →
        s.examineQueue.ct = s.ct ∧ s.examineQueue.dpl.queue = s.dpl.queue
          ∧ s.examineQueue.ntc = s.ntc
          ∧ (s.examineQueue.dpl.rvBlocked = true ↔ ∃ k ∈ s.dpl.queue, s.entryMeets s.mayStart k = true)
          ∧ (s.dpl.rvBlocked = false → s.examineQueue.dpl.rvBlocked = true →
              s.examineQueue.wallFlag .rvFull = true))

/-- The present queue rebuilt at power-on holds exactly the QUEUED bundles, each once, by age: the commit
sequence counter less the bundle's sequence, modulo 65,536, greatest first (R63); with the generations
legal (R1). -/
def Obligations.QueueIsRebuiltByAge : Prop :=
  ∀ s : State, s.ct.generationsLegal = true → s.dpl.sequence ≤ 65535 →
    (∀ p ∈ s.ct.bundles, p.2.sequence ≤ 65535) →
    s.rebuildQueue.dpl.queue.Nodup
      ∧ (∀ h, h ∈ s.rebuildQueue.dpl.queue ↔ ∃ b, s.ct.bundle? h = some b ∧ b.state = .queued)
      ∧ s.rebuildQueue.dpl.queue.Pairwise (fun h k => ∀ b c, s.ct.bundle? h = some b →
          s.ct.bundle? k = some c →
          ((s.dpl.sequence : Int) - c.sequence) % 65536 ≤ ((s.dpl.sequence : Int) - b.sequence) % 65536)

/-! ## The note transport -/

/-- A jam of the note transport, at the presence limit, the dump limit, the chute limit, the diverter-exit
limit or the encoder-stall limit: the transport stands JAMMED with everything stopped, the reject vault is
DOUBTFUL and TRANSPORT_JAM is set; a bundle in it has failed with reason JAM, its plan's stocks DOUBTFUL;
the stacker count, the lanes, the envelope transport, the zones and the grants stay (R80, R75, R78, R32);
with the generations legal (R1). -/
def Obligations.NoteJamsFailTheBundle : Prop :=
  ∀ (c : Instr) (s : State), s.noteJamRow c → s.ct.generationsLegal = true →
    ∃ t, exec c s = .next t ∧ t.ntc.jammedEmpty ∧ t.wallFlag .transportJam = true ∧ t.vaultDoubtful
      ∧ (∀ h b, s.currentBundle = some (h, b) → h ∉ s.dpl.queue → t.hasFailed h b .jam)
      ∧ t.ntc.stackerCount = s.ntc.stackerCount ∧ t.ntc.pickFails = s.ntc.pickFails
      ∧ t.ldc = s.ldc ∧ t.ecc = s.ecc ∧ t.pins = s.pins ∧ t.azu.zones = s.azu.zones
      ∧ t.azu.grants = s.azu.grants ∧ t.gmu.envelope = s.gmu.envelope

/-- Leaders of the note transport. At the end of a bundle's leader the first pick is commanded from the plan's
current part under the pick limit (R66, R67). At the end of a clear's leader the transport is IDLE with an
empty stacker when no item was seen and the stacker reads empty, JAMMED with a DOUBTFUL vault when an item
was seen, and dumps first when the stacker does not read empty (R81), its motor stopped before the dump (model's
choice, log entry 43: R81 and R28 do not say whether it goes on). CLEAR_TRANSPORT of a JAMMED transport
under an OPEN grant with no hold starts such a leader (R81, R28). -/
def Obligations.NoteLeadersStartAndEnd : Prop :=
  (∀ (s : State) (empty : Bool) (h : Handle) (b : Bundle) (p : Part),
      s.ntc.state = .leader → s.ntc.motor = true → s.ntc.leader.dumping = false →
      s.gmu.note.item = none → s.currentBundle = some (h, b) → s.ntc.pendingEnd = none →
      b.currentPart = some p →
      exec (.noteLeaderEnd empty) s = .next { s with
        pins := { s.pins with stackerEmpty := empty }
        ntc := { s.ntc with
          state := .picking, pick := some p.stock, lastPick := some p.stock
          pickTimer := .running 400 } })
    ∧ (∀ (s : State) (empty : Bool),
      s.ntc.state = .leader → s.ntc.motor = true → s.ntc.leader.dumping = false →
      s.gmu.note.item = none → s.ntc.current = none → s.dpl.queue = [] →
      s.ct.generationsLegal = true →
      ∃ t, exec (.noteLeaderEnd empty) s = .next t ∧ t.ntc.motor = false
        ∧ t.ldc = s.ldc ∧ t.ecc = s.ecc ∧ t.azu.zones = s.azu.zones
        ∧ (empty = true → s.ntc.leader.itemSeen = false →
            t.ntc.state = .idle ∧ t.ntc.stackerCount = 0 ∧ t.ct = s.ct
              ∧ t.wallFlag .transportJam = true)
        ∧ (empty = true → s.ntc.leader.itemSeen = true →
            t.ntc.state = .jammed ∧ t.vaultDoubtful ∧ t.wallFlag .transportJam = true)
        ∧ (empty = false → t.ntc.state = .leader ∧ t.ntc.dump = true
            ∧ t.ntc.dumpTimer = .running 3000 ∧ t.ct = s.ct))
    ∧ ∀ (s : State) (auth : Byte) (op : Half) (r : Role), s.admits 0x57 auth op r →
      s.grantOpen .dispenser = true → s.ct.holdDispenser = 0 → s.ct.holdReject = 0 →
      s.ntc.state = .jammed → s.pins.warning = false → s.pauseInForce = false →
      exec (.clearTransportNote auth op) s = .next { s with
        ntc := { s.ntc with
          state := .leader, saved := none, diverter := .reject, leader := ⟨true, 0, false, false⟩
          motor := true, stallTimer := .running 100 }
        gmu := { s.gmu with note := ⟨true, true, 0, [], [], none⟩ }
        azu := { s.azu with vibration := ⟨true, .stopped⟩ }
        slp := { s.slp with response := some ⟨0x57, .accepted, .empty⟩ } }

/-- The count of a note. A GOOD note within what its stock still holds adds one to picked_out and in_bundles,
takes one from the reservation, teaches the references, and is stacked; a note that reaches the length
limit is LONG, and its estimate goes to picked_out and rejected and into the vault, ESTIMATED, and is one
more reject of the bundle, which at the reject limit is to end (R68, R39, R37, R38, R73, R132). The estimate
of the LONG note is made of the greater track length, which is the model's choice (log entry 70), read from the
edges that the gauge holds at the limit (log entry 32). While no sample is taken neither row changes anything, which
is the model's choice for an event that cannot happen (log entry 6). -/
def Obligations.NotesAreCounted : Prop :=
  (∀ (s : State) (m : Measure), s.sampling .note = false → m.wf .note = true →
      exec (.itemEnd .note m) s = .next s ∧ exec .noteLengthLimit s = .next s)
    ∧ (∀ (s : State) (m : Measure) (it : GaugeItem) (ref : ItemStock) (st : Stock) (k : Handle) (b : Bundle)
      (p : Part), m.wf .note = true → s.sampling .note = true → s.gmu.note.item = some it →
      it.stock = some ref → it.classified = false → s.ct.stock? ref.stock = some st → st.pickedOut < st.loaded →
      s.currentBundle = some (k, b) → b.currentPart = some p →
      classifyNote m false ref.tRef ref.lRef s.set.lengthTolerance.value s.set.skewNote.value = .good →
      ∃ t b', exec (.itemEnd .note m) s = .next t
        ∧ t.ct.stock? ref.stock = some { st.learn ref m with
            pickedOut := st.pickedOut + 1, inBundles := st.inBundles + 1
            reserved := st.reserved - 1, balance := .dirty
            lowMark := decide (st.loaded - (st.pickedOut + 1) ≤ s.set.lowMark) }
        ∧ t.ct.bundle? k = some b' ∧ b'.stackedSum = b.stackedSum + 1 ∧ b'.rejects = b.rejects
        ∧ b'.parts.map (·.target) = b.parts.map (·.target)
        ∧ (∀ x, x ≠ ref.stock → x ≠ k → t.ct.find x = s.ct.find x)
        ∧ t.ntc.stackerCount = s.ntc.stackerCount + 1 ∧ t.ntc.diverter = .stack
        ∧ t.ntc.exitTimer = .running 300 ∧ t.gmu.note.item = none
        ∧ t.ldc = s.ldc ∧ t.ecc = s.ecc ∧ t.azu = s.azu)
    ∧ ∀ (s : State) (it : GaugeItem) (ref : ItemStock) (st : Stock) (k : Handle) (b : Bundle)
      (hv : Handle) (v : Vault), s.sampling .note = true → s.gmu.note.item = some it → it.stock = some ref →
      it.classified = false → s.ct.stock? ref.stock = some st → s.currentBundle = some (k, b) →
      s.ntc.pendingEnd = none → s.ct.vault? = some (hv, v) → s.ct.generationsLegal = true →
      let n := estimate (max (it.a.length (it.start + 700)) (it.b.length (it.start + 700))) ref.lRef
      st.pickedOut + n ≤ st.loaded → v.count + n ≤ v.capacity →
      ∃ t, exec .noteLengthLimit s = .next t
        ∧ t.ct.stock? ref.stock = some { st with
            pickedOut := st.pickedOut + n, rejected := st.rejected + n, balance := .dirty
            quality := st.quality.worse .estimated
            lowMark := decide (st.loaded - (st.pickedOut + n) ≤ s.set.lowMark) }
        ∧ t.ct.vault? = some (hv, { v with count := v.count + n, quality := v.quality.worse .estimated })
        ∧ t.ct.bundle? k = some { b with rejects := b.rejects + 1 }
        ∧ t.ntc.diverter = .reject ∧ t.ntc.stackerCount = s.ntc.stackerCount
        ∧ t.ntc.pendingEnd =
            (if s.set.rejectLimit ≤ b.rejects + 1 then some (.failed .rejectLimit) else none)
        ∧ (∃ it', t.gmu.note.item = some it' ∧ it'.classified = true ∧ it'.start = it.start)
        ∧ t.ldc = s.ldc ∧ t.ecc = s.ecc ∧ t.azu = s.azu

/-- A pick failure, the pick limit having run out in PICKING. Below PICK_RETRY the count rises and the
current part is picked again, and nothing else changes (R70). At PICK_RETRY the count returns to 0 and the
stock is DOUBTFUL; a substitute takes over what the closed part misses, reserved for it, when one is found
and the plan has fewer than five parts; with none the bundle fails with reason EMPTY (R70, R71, R74). -/
def Obligations.PickFailuresRetryThenSubstitute : Prop :=
  ∀ (s : State) (h k : Handle) (st : Stock) (b : Bundle) (p : Part),
    s.ntc.state = .picking → s.ntc.pickTimer.isRunning = true → s.ntc.pick = some h →
    s.ct.stock? h = some st → s.ntc.pendingEnd = none → s.currentBundle = some (k, b) →
    b.currentPart = some p → p.stock = h → s.ntc.path = [] → s.ct.generationsLegal = true →
    (s.ntc.pickFails.get st.pos + 1 < s.set.pickRetry →
      exec .pickFailure s = .next { s with ntc := { s.ntc with
        pickFails := s.ntc.pickFails.put st.pos (s.ntc.pickFails.get st.pos + 1)
        pick := some h, lastPick := some h, pickTimer := .running 400 } })
    ∧ (s.set.pickRetry ≤ s.ntc.pickFails.get st.pos + 1 → s.dpl.queue = [] →
      (b.parts.map (·.stock)).Nodup → st.quality.isDoubtful = false →
      let missing := p.target - p.stacked
      let fits (c : Candidate) : Bool :=
        c.denom = st.denom && !b.names c.handle && decide (missing ≤ c.available)
      ∃ t, exec .pickFailure s = .next t ∧ t.ntc.pickFails = s.ntc.pickFails.put st.pos 0
        ∧ (∃ st', t.ct.stock? h = some st' ∧ st'.quality = .doubtful .pickFail
            ∧ st'.reserved = st.reserved - missing ∧ st'.remaining = st.remaining)
        ∧ (∀ c, s.candidates.find? fits = some c → b.parts.length < 5 → ∃ b',
            t.ct.bundle? k = some b' ∧ b'.state = b.state
              ∧ b'.parts = b.parts.map
                  (fun q => if q.stock = h then { q with target := q.stacked } else q)
                    ++ [⟨c.handle, missing, 0⟩]
              ∧ (∃ sc sc', s.ct.stock? c.handle = some sc ∧ t.ct.stock? c.handle = some sc'
                  ∧ sc'.reserved = sc.reserved + missing)
              ∧ t.ntc.state = .picking ∧ t.ntc.pickTimer = .running 400
              ∧ t.ntc.pick = b'.currentPart.map (·.stock))
        ∧ (s.candidates.find? fits = none →
            t.ct.find k = none
              ∧ (∃ q, t.ct.last.get b.lane = some ⟨k, .failed .empty, b.amount, 0, q⟩)
              ∧ t.ntc.current = none ∧ t.ntc.pick = none))

/-- The end of a bundle's time in the note transport. At the diverter exit of the last item a complete bundle
is STACKED, waiting for its lane under STACKER_WAIT, or ROUTING at once through the opened chute gate when
the lane is ready; otherwise the next pick is commanded (R67, R69, R77). The arrival delivers it (R78), and with
AUTO_PRESENT on, the lane not locked and no power warning, the drawer starts out in the same change (R88), under
the motion limit whatever its out switch reads, which is the model's choice (log entry 62). A
wait that runs out fails it with reason STACKER_TIMEOUT, its notes into the vault, and the stacker is dumped
(R79, R74, R75); when the stacker then reads empty the transport is IDLE (R75). -/
def Obligations.BundlesLeaveTheTransport : Prop :=
  (∀ (s : State) (it : PathItem) (k : Handle) (b : Bundle),
      s.ntc.state = .picking → s.ntc.pick = none → s.ntc.path = [it] → it.ended = true →
      s.ntc.pendingEnd = none → s.pins.warning = false → s.currentBundle = some (k, b) →
      ∃ t, exec .diverterExit s = .next t ∧ t.ntc.path = [] ∧ t.ntc.exitTimer = .stopped
        ∧ (∀ p, b.complete = false → b.currentPart = some p →
            t.ntc.state = .picking ∧ t.ntc.pick = some p.stock
              ∧ t.ntc.pickTimer = .running 400 ∧ t.ct = s.ct)
        ∧ (b.complete = true → s.laneReady b.lane = false →
            t.ct.bundle? k = some { b with state := .stacked } ∧ t.ntc.state = .stackedWait
              ∧ t.ntc.waitTimer = .running (s.set.stackerWait * 1000) ∧ t.ntc.motor = false
              ∧ t.ntc.gate = s.ntc.gate
              ∧ (s.fitted b.lane = true → t.laneFlag b.lane .bundleStacked = true))
        ∧ (b.complete = true → s.laneReady b.lane = true →
            t.ct.bundle? k = some { b with state := .routing } ∧ t.ntc.state = .routing
              ∧ t.ntc.gate = some b.lane ∧ t.ntc.chuteTimer = .running 2000
              ∧ t.ntc.stackerCount = 0 ∧ t.ntc.motor = false)
        ∧ (∀ x, x ≠ k → t.ct.find x = s.ct.find x) ∧ t.ldc = s.ldc ∧ t.ecc = s.ecc)
    ∧ (∀ (s : State) (k : Handle) (b : Bundle),
      s.ntc.state = .routing → s.currentBundle = some (k, b) → s.dpl.queue = [] →
      let presents : Prop :=
        s.set.autoPresent.get b.lane = 1 ∧ s.locked b.lane = false ∧ s.pins.warning = false
      ∃ t, exec (.bundleArrival b.lane) s = .next t
        ∧ t.ct.bundle? k = some { b with state := .delivered }
        ∧ (∀ x, x ≠ k → t.ct.find x = s.ct.find x)
        ∧ t.ntc.state = .idle ∧ t.ntc.current = none ∧ t.ntc.gate = none
        ∧ t.ntc.chuteTimer = .stopped ∧ t.ecc = s.ecc ∧ t.azu.zones = s.azu.zones
        ∧ (¬ presents → t.ldc = s.ldc)
        ∧ (presents → t.ldc = s.ldc.put b.lane { s.ldc.get b.lane with
              state := .extending, halted := none, motor := true, motion := .running 4000 }
            ∧ t.azu.forcing = s.azu.forcing.put b.lane ⟨true, .stopped⟩)
        ∧ (s.fitted b.lane = true → t.laneFlag b.lane .bundleDelivered = true))
    ∧ (∀ (s : State) (k : Handle) (b : Bundle),
      s.ntc.state = .stackedWait → s.ntc.waitTimer.isRunning = true →
      s.currentBundle = some (k, b) → 0 < s.ntc.stackerCount → s.pins.warning = false →
      s.ct.generationsLegal = true →
      ∃ t q, exec .stackerWaitExpiry s = .next t ∧ t.ct.find k = none
        ∧ t.ct.last.get b.lane = some ⟨k, .failed .stackerTimeout, b.amount, 0, q⟩
        ∧ (∀ hv v, s.ct.vault? = some (hv, v) → v.count + b.stackedSum ≤ v.capacity →
            t.ct.vault? = some (hv, { v with count := v.count + b.stackedSum }))
        ∧ (∀ h st, s.ct.stock? h = some st → ∃ st', t.ct.stock? h = some st'
            ∧ st'.quality = st.quality ∧ st'.pickedOut = st.pickedOut)
        ∧ t.ntc.state = .diverting ∧ t.ntc.current = none ∧ t.ntc.dump = true
        ∧ t.ntc.dumpTimer = .running 3000 ∧ t.ntc.waitTimer = .stopped
        ∧ t.ldc = s.ldc ∧ t.ecc = s.ecc)
    ∧ ∀ s : State, s.ntc.state = .diverting → s.ntc.dump = true → s.dpl.queue = [] →
      ∃ t, exec .stackerEmpty s = .next t ∧ t.ntc.state = .idle ∧ t.ntc.stackerCount = 0
        ∧ t.ntc.dump = false ∧ t.ntc.dumpTimer = .stopped ∧ t.ct = s.ct ∧ t.ldc = s.ldc
        ∧ t.ecc = s.ecc ∧ t.pins = { s.pins with stackerEmpty := true }

/-! ## Lanes and drawers -/

/-- PRESENT_DRAWER and RETRACT_DRAWER, when none of their refusals applies, start the motion and are
ACCEPTED: the drawer is EXTENDING or RETRACTING, its motor driven under a motion limit of 4 s, its forcing
zone's window open, the take timer stopped by a retraction, and nothing else changes (R89, R92, R86, R142). A
take timer that runs out retracts an OUT drawer in the same way (R91). A motion limit that runs out leaves
the drawer JAMMED with its motor stopped and DRAWER_JAM set (R86). That a motion starts so with its end switch
already closed is the model's choice (log entry 62). -/
def Obligations.DrawerMotionsStartAndFail : Prop :=
  ∀ (s : State) (l : Lane), s.locked l = false → s.pins.warning = false →
    let moving (st : DrawerState) (take : Timer) : State := { s with
      ldc := s.ldc.put l { s.ldc.get l with
        state := st, halted := none, motor := true, motion := .running 4000, take := take }
      azu := { s.azu with forcing := s.azu.forcing.put l ⟨true, .stopped⟩ } }
    (∀ (auth : Byte) (op : Half) (r : Role) (lane : Byte), laneOf lane = some l → s.fitted l = true →
        r.mayName l = true → s.routingInto l = false →
        (s.admits 0x30 auth op r → (s.ldc.get l).state = .home → s.notPresentable l = false →
            exec (.presentDrawer auth op lane) s =
              .next ((moving .extending (s.ldc.get l).take).answered 0x30 .accepted .empty))
          ∧ (s.admits 0x31 auth op r →
            ((s.ldc.get l).state = .out ∨ (s.ldc.get l).state = .extending) →
            exec (.retractDrawer auth op lane) s =
              .next ((moving .retracting .stopped).answered 0x31 .accepted .empty)))
      ∧ ((s.ldc.get l).state = .out → (s.ldc.get l).take.isRunning = true →
        exec (.takeTimerExpiry l) s = .next (moving .retracting .stopped))
      ∧ (((s.ldc.get l).state = .extending ∨ (s.ldc.get l).state = .retracting) →
        (s.ldc.get l).motion.isRunning = true → s.fitted l = true →
        ∃ t, exec (.drawerMotionTimeout l) s = .next t
          ∧ t.ldc = s.ldc.put l { s.ldc.get l with
              state := .jammed, halted := none, motor := false, motion := .stopped }
          ∧ t.laneFlag l .drawerJam = true ∧ t.ct = s.ct ∧ t.ntc = s.ntc ∧ t.ecc = s.ecc
          ∧ t.azu.zones = s.azu.zones)

/-- The arrivals of a drawer. OUT presents the tray's outbound consignment and starts the take timer (R90).
HOME judges the tray: EMPTY, an outbound bundle has been taken, its notes move to paid_out and it is retired
TAKEN; OCCUPIED, a PRESENTED bundle has come back, RETRACTED; OCCUPIED with no consignment, a customer's
deposit is taken into custody as an AT_TELLER transit in the lowest free slot (R94, R93, R2, R25). The motor
stops, the flag is set, and the other lanes and the mechanisms stay; with the generations legal (R1). -/
def Obligations.DrawerArrivalsJudgeTheTray : Prop :=
  ∀ (s : State) (l : Lane), s.ct.generationsLegal = true → s.fitted l = true →
    ((s.ldc.get l).state = .extending → s.pins.warning = false →
      ∃ t, exec (.drawerArriveOut l) s = .next t
        ∧ t.ldc = s.ldc.put l { s.ldc.get l with
            state := .out, halted := none, motor := false, motion := .stopped
            take := .running (s.set.takeTimeout * 1000), restartHoming := false }
        ∧ t.laneFlag l .drawerOut = true ∧ t.ntc = s.ntc ∧ t.ecc = s.ecc
        ∧ (∀ h b, s.ct.consignment l = some (.bundle h b) → b.state = .delivered →
            t.ct.bundle? h = some { b with state := .presented }
              ∧ ∀ k, k ≠ h → t.ct.find k = s.ct.find k)
        ∧ (∀ h u, s.ct.consignment l = some (.transit h u) → u.direction = .out → u.state = .loaded →
            t.ct.transit? h = some { u with state := .presented }
              ∧ t.laneFlag l .transitChange = true)
        ∧ (s.ct.consignment l = none → t.ct = s.ct))
    ∧ ((s.ldc.get l).state = .retracting → (s.ldc.get l).restartHoming = false →
      s.ntc.state ≠ .stackedWait →
      ∃ t, exec (.drawerArriveHome l) s = .next t
        ∧ t.ldc = s.ldc.put l { s.ldc.get l with
            state := .home, halted := none, motor := false, motion := .stopped }
        ∧ t.laneFlag l .drawerHome = true ∧ t.ntc = s.ntc ∧ t.ecc = s.ecc
        ∧ (∀ h b, s.ct.consignment l = some (.bundle h b) → b.outbound = true →
            s.pins.tray.get l = false → s.tookBundle t h b)
        ∧ (∀ h b, s.ct.consignment l = some (.bundle h b) → b.state = .presented →
            s.pins.tray.get l = true → t.ct.bundle? h = some { b with state := .retracted }
              ∧ ∀ k, k ≠ h → t.ct.find k = s.ct.find k)
        ∧ (∀ slot g, s.ct.consignment l = none → s.pins.tray.get l = true →
            s.ct.freeSlot = some slot → s.ct.slots[slot]? = some ⟨g, none⟩ →
            t.ct.find (handleOf g slot) = some (.transit ⟨l, .inward, 0, .atTeller, .exact⟩)
              ∧ t.laneFlag l .transitChange = true))

/-- The tray and the switches of a fitted lane. A tray that empties with the home switch open while it holds
an outbound bundle is a take (R93), and the take timer of an OUT drawer starts again (R91). A switch that
opens at a drawer no one drives, its lane unlocked, is a forcing event (R99): with the window closed and
the forcing zone enabled, ARMED and not pending, the zone is pending and needs a restore (R139, R141), the
zone holds the lane (R155), and the lane is locked with its context saved, its lock solenoid engaged and
LANE_LOCKED set (R100). -/
def Obligations.SensorsTakeAndLock : Prop :=
  ∀ (s : State) (l : Lane), s.fitted l = true → s.ct.generationsLegal = true →
    (∀ h b, s.ct.consignment l = some (.bundle h b) → b.outbound = true →
      s.pins.tray.get l = true → s.pins.home.get l = false → s.ntc.state ≠ .stackedWait →
      ∃ t, exec (.traySensorChange l false) s = .next t ∧ s.tookBundle t h b
        ∧ t.pins = { s.pins with tray := s.pins.tray.put l false }
        ∧ ((s.ldc.get l).state = .out → s.locked l = false → s.pins.warning = false →
            (t.ldc.get l).take = .running (s.set.takeTimeout * 1000))
        ∧ t.ntc = s.ntc ∧ t.ecc = s.ecc ∧ t.azu = s.azu)
    ∧ (s.pins.home.get l = true → (s.ldc.get l).motor = false → (s.ldc.get l).locks = 0 →
      s.blanked l.forcingZone = false → (s.azu.zones[l.forcingZone]).pending = false →
      (s.azu.zones[l.forcingZone]).enable = true → (s.azu.zones[l.forcingZone]).mode = .armed →
      ∃ t, exec (.drawerSwitchChange l .home false) s = .next t
        ∧ t.pins = { s.pins with home := s.pins.home.put l false }
        ∧ (t.azu.zones[l.forcingZone]).pending = true
        ∧ (t.azu.zones[l.forcingZone]).restoreNeeded = true
        ∧ (∀ z : ZoneId, z ≠ l.forcingZone → t.azu.zones[z] = s.azu.zones[z])
        ∧ t.ct.holdLane.get l = s.ct.holdLane.get l ||| zoneBit l.forcingZone
        ∧ (t.ldc.get l).locks = zoneBit l.forcingZone ∧ (t.ldc.get l).motor = false
        ∧ (t.ldc.get l).solenoid = true
        ∧ (∃ c, (t.ldc.get l).saved = some c
            ∧ c.consignment = (s.ct.consignment l).map (·.handle))
        ∧ t.laneFlag l .laneLocked = true
        ∧ (∀ k, k ≠ l → t.ldc.get k = s.ldc.get k)
        ∧ (∀ h, t.ct.find h = s.ct.find h) ∧ t.ecc = s.ecc)

/-- The settlements. DECLARE_TRANSIT puts an item of the OCCUPIED tray of a HOME drawer into custody as a
LOADED transit in the lowest free slot, and answers its handle (R96, R2). RESOLVE_RETRACT of a RETRACTED
bundle, its drawer HOME and its tray EMPTY, moves its notes to handed and retires it HANDED, and of a
RETURNED transit retires it (R97). ACCEPT_DEPOSIT of an inbound transit with a tag of 1 to 65,535 retires
it and answers its image with the tag (R98). Nothing but custody, its flags and the response changes. -/
def Obligations.SettlementsEndCustody : Prop :=
  ∀ (s : State) (auth : Byte) (op : Half) (r : Role) (l : Lane),
    r.mayName l = true → s.locked l = false → s.fitted l = true → s.ntc.state ≠ .stackedWait →
    (∀ lane tag slot g, s.admits 0x32 auth op r → laneOf lane = some l → tag.toNat ≤ 65535 →
      s.routingInto l = false → s.pins.warning = false → (s.ldc.get l).state = .home →
      s.pins.tray.get l = true → s.ct.consignment l = none →
      s.ct.freeSlot = some slot → s.ct.slots[slot]? = some ⟨g, none⟩ → g ≠ 0 →
      ∃ t, exec (.declareTransit auth op lane tag) s = .next t
        ∧ t.said 0x32 .ok (.handle (handleOf g slot))
        ∧ t.ct.find (handleOf g slot) = some (.transit ⟨l, .out, tag.toNat, .loaded, .exact⟩)
        ∧ (∀ k, k ≠ handleOf g slot → t.ct.find k = s.ct.find k)
        ∧ t.laneFlag l .transitChange = true ∧ t = { s with ct := t.ct, slp := t.slp })
    ∧ (∀ h b, s.admits 0x33 auth op r → s.ct.find h = some (.bundle b) → b.lane = l →
      s.ct.holdsOf (.bundle b) = 0 → b.state = .retracted → (s.ldc.get l).state = .home →
      s.pins.tray.get l = false →
      ∃ t q, exec (.resolveRetract auth op h) s = .next t ∧ t.said 0x33 .ok .empty
        ∧ t.ct.find h = none ∧ t.ct.last.get l = some ⟨h, .handed, b.amount, b.stackedSum, q⟩
        ∧ ((b.parts.map (·.stock)).Nodup → ∀ p ∈ b.parts, ∀ st, s.ct.stock? p.stock = some st →
            p.stacked ≤ st.inBundles → ∃ st', t.ct.stock? p.stock = some st'
              ∧ st'.handed = st.handed + p.stacked ∧ st'.inBundles = st.inBundles - p.stacked
              ∧ st'.remaining = st.remaining)
        ∧ t.laneFlag l .bundleDone = true
        ∧ t = { s with ct := t.ct, dpl := t.dpl, slp := t.slp } ∧ t.dpl.queue = s.dpl.queue)
    ∧ (∀ h u, s.admits 0x33 auth op r → s.ct.find h = some (.transit u) → u.lane = l →
      s.ct.holdsOf (.transit u) = 0 → u.state = .returned → (s.ldc.get l).state = .home →
      s.pins.tray.get l = false →
      ∃ t, exec (.resolveRetract auth op h) s = .next t ∧ t.said 0x33 .ok .empty
        ∧ t.ct.find h = none ∧ (∀ k, k ≠ h → t.ct.find k = s.ct.find k)
        ∧ t.laneFlag l .transitChange = true ∧ t = { s with ct := t.ct, slp := t.slp })
    ∧ ∀ h u tag, s.admits 0x34 auth op r → s.ct.find h = some (.transit u) → u.lane = l →
      s.ct.holdsOf (.transit u) = 0 → u.direction = .inward → 1 ≤ tag.toNat → tag.toNat ≤ 65535 →
      (s.ldc.get l).state = .home → s.pins.tray.get l = false →
      ∃ t i, exec (.acceptDeposit auth op h tag) s = .next t ∧ t.said 0x34 .ok (.image i)
        ∧ i.handle = h ∧ i.record = .transit { u with tag := tag.toNat }
        ∧ t.ct.find h = none ∧ (∀ k, k ≠ h → t.ct.find k = s.ct.find k)
        ∧ t.laneFlag l .transitChange = true ∧ t = { s with ct := t.ct, slp := t.slp }

/-- RESUME_LANE is refused with the zones still pending while one of the lock causes is; otherwise the lock
ends: the lock solenoid is released, the causes and the saved context are cleared, LANE_LOCKED is set, and the
drawer goes out when it was going or standing out with a consignment that is still there, and home otherwise (R102). The note transport stays,
but where the resume judges a restart homing at the home switch and doubts a plan's stocks (R177). LANE_RESET clears
the lane's flags; it sends an unlocked drawer home, under a limit of 4 s from the reset even when it is RETRACTING
already (model's choice, log entry 45), and turns a locked one's saved state to RETRACTING, which keeps the lock
(R103, R171). -/
def Obligations.LocksEndAndLanesReset : Prop :=
  ∀ (s : State) (auth : Byte) (op : Half) (r : Role) (lane : Byte) (l : Lane),
    laneOf lane = some l → s.fitted l = true →
    (s.admits 0x35 auth op r → s.locked l = true → s.causesPending l ≠ 0 →
      exec (.resumeLane auth op lane) s =
        .next (s.answered 0x35 .state (.zonesPending (s.causesPending l))))
    ∧ (s.admits 0x35 auth op r → s.locked l = true → s.causesPending l = 0 →
      s.pins.warning = false → s.dpl.queue = [] → s.ntc.state ≠ .stackedWait →
      ∃ t, exec (.resumeLane auth op lane) s = .next t ∧ t.said 0x35 .ok .empty
        ∧ t.locked l = false ∧ (t.ldc.get l).saved = none ∧ (t.ldc.get l).solenoid = false
        ∧ t.laneFlag l .laneLocked = true
        ∧ t.ecc = s.ecc ∧ t.azu.zones = s.azu.zones
        ∧ (∀ k, k ≠ l → t.ldc.get k = s.ldc.get k)
        ∧ ((s.ldc.get l).restartHoming = false → t.ntc = s.ntc)
        ∧ (s.resumesOut l = true → s.pins.out.get l = false →
            (t.ldc.get l).state = .extending ∧ (t.ldc.get l).motor = true
              ∧ (t.ldc.get l).motion = .running 4000 ∧ t.ct = s.ct ∧ t.ntc = s.ntc)
        ∧ (s.resumesOut l = false → s.pins.home.get l = false →
            (t.ldc.get l).state = .retracting ∧ (t.ldc.get l).motor = true
              ∧ (t.ldc.get l).motion = .running 4000 ∧ (t.ldc.get l).take = .stopped ∧ t.ct = s.ct
              ∧ t.ntc = s.ntc))
    ∧ (s.admits 0x36 auth op r → s.locked l = false → (s.ldc.get l).state ≠ .home →
      s.pins.home.get l = false → s.pins.warning = false →
      exec (.laneReset auth op lane) s = .next { s with
        ldc := s.ldc.put l { s.ldc.get l with
          state := .retracting, halted := none, motor := true, motion := .running 4000
          take := .stopped }
        azu := { s.azu with forcing := s.azu.forcing.put l ⟨true, .stopped⟩ }
        slp := { s.slp with
          laneFlags := s.slp.laneFlags.put l 0, response := some ⟨0x36, .ok, .empty⟩ } })
    ∧ (s.admits 0x36 auth op r → s.locked l = true → ∀ c, (s.ldc.get l).saved = some c →
      (s.ldc.get l).state ≠ .jammed →
      exec (.laneReset auth op lane) s = .next { s with
        ldc := s.ldc.put l { s.ldc.get l with saved := some { c with state := .retracting } }
        slp := { s.slp with
          laneFlags := s.slp.laneFlags.put l 0, response := some ⟨0x36, .ok, .empty⟩ } })

/-! ## Envelopes -/

/-- The intake of an envelope. At an OPEN throat a sensor that changes to PRESENT has the idle transport take
the throat, or of two waiting throats the one not served last, its leader running under the stall limit; the
leader's end starts the feed inward into MEASURING under the intake limit, or of a throat taken for recapture into
RECAPTURE under the recapture limit, out of measuring travel; an envelope of class ACCEPT goes FORWARD to the bin
chosen, under the forward limit; one of class RETURN, or with no bin, or that reaches the length limit is returned,
the transport REVERSING; an intake limit that runs out with the sensor EMPTY leaves the transport IDLE and the
throat as the open condition has it, and with the sensor PRESENT leaves the throat WAITING; the arbiter then takes
a waiting throat (R107 to R111, R42, R43, R115, R116). That the feed runs on as FORWARD begins is the model's choice
(log entry 59). While no sample is taken the rows of the item's end and of the limit change nothing, which is the
model's choice for an event that cannot happen (log entry 6). -/
def Obligations.EnvelopesAreTakenIn : Prop :=
  let taken (u : State) (x : Throat) : Prop :=
    u.ecc.state = .leader ∧ u.ecc.motor = true ∧ u.ecc.lastServed = x ∧ u.ecc.inFlight = true
      ∧ u.ecc.feed = .stopped ∧ (u.ecc.throats.get x).state = .intake
      ∧ ∃ c, u.ecc.current = some c ∧ c.throat = x ∧ c.recapture = false
  let returned (s u : State) (e : CurrentEnv) (k : EnvClass) : Prop :=
    u.ecc.state = .reversing ∧ u.ecc.feed = .reverse ∧ u.ecc.motor = true
      ∧ u.ecc.returnTimer = .running 3000 ∧ u.ecc.intakeTimer = .stopped
      ∧ u.gmu.envelope.measuring = false
      ∧ (u.ecc.throats.get e.throat).state = .returning
      ∧ (u.ecc.throats.get e.throat).shutterOpen = true
      ∧ u.ecc.throats.get e.throat.other = s.ecc.throats.get e.throat.other
      ∧ (∃ c, u.ecc.current = some c ∧ c.throat = e.throat ∧ c.cls = some k ∧ c.meas.isSome = true
          ∧ c.number = e.number)
      ∧ u.ct = s.ct ∧ u.ntc = s.ntc ∧ u.ldc = s.ldc ∧ u.pins = s.pins ∧ u.slp = s.slp
  (∀ (s : State) (t : Throat), s.pins.throat.get t = false → (s.ecc.throats.get t).state = .opened →
      s.ecc.state = .idle → s.pins.warning = false → s.azu.grants.capture.state = .closed →
      s.openCondition = true → s.pauseInForce = false →
      ((s.ecc.throats.get t.other).state ∉ [ThroatState.waiting, .returnWait] →
        ∃ u, exec (.throatSensorChange t true) s = .next u
          ∧ u.pins = { s.pins with throat := s.pins.throat.put t true }
          ∧ (u.ecc.throats.get t).state = .intake
          ∧ (u.ecc.throats.get t).shutterOpen = (s.ecc.throats.get t).shutterOpen
          ∧ u.ecc.throats.get t.other = s.ecc.throats.get t.other
          ∧ u.ecc.state = .leader ∧ u.ecc.lastServed = t ∧ u.ecc.inFlight = true
          ∧ (∃ e, u.ecc.current = some e ∧ e.throat = t ∧ e.recapture = false ∧ e.cls = none
              ∧ e.dest = none ∧ e.number = none)
          ∧ u.ecc.motor = true ∧ u.ecc.feed = .stopped ∧ u.ecc.stallTimer = .running 100
          ∧ u.ecc.nextNumber = s.ecc.nextNumber
          ∧ u.gmu = { s.gmu with envelope := Gauge.runStart }
          ∧ u.ct = s.ct ∧ u.ntc = s.ntc ∧ u.ldc = s.ldc ∧ u.slp = s.slp)
        ∧ ((s.ecc.throats.get t.other).state = .waiting →
          ∃ u, exec (.throatSensorChange t true) s = .next u ∧ taken u s.ecc.lastServed.other
            ∧ u.pins = { s.pins with throat := s.pins.throat.put t true }
            ∧ (u.ecc.throats.get s.ecc.lastServed).state = .waiting
            ∧ u.ct = s.ct ∧ u.ntc = s.ntc ∧ u.ldc = s.ldc ∧ u.slp = s.slp))
    ∧ (∀ (s : State) (e : CurrentEnv), s.ecc.state = .leader → s.ecc.motor = true →
      s.gmu.envelope.item = none → s.ecc.current = some e →
      (e.recapture = false →
        exec .envelopeLeaderEnd s = .next { s with ecc := { s.ecc with
          state := .measuring, feed := .inward, intakeTimer := .running 2000
          current := some { e with sensorAtFeed := s.pins.throat.get e.throat } } })
        ∧ (e.recapture = true →
          exec .envelopeLeaderEnd s = .next { s with
            gmu := { s.gmu with envelope := { s.gmu.envelope with measuring := false } }
            ecc := { s.ecc with
              state := .recapture, feed := .inward, recaptureTimer := .running 3000
              current := some { e with
                sensorAtFeed := s.pins.throat.get e.throat
                dest := s.ct.activeBin.map fun p => p.2.bin } } }))
    ∧ (∀ (s : State) (m : Measure) (thickness skew : Nat), s.sampling .envelope = false →
      m.wf .envelope = true → thickness ≤ 16316 →
      exec (.itemEnd .envelope m) s = .next s ∧ exec (.envelopeLengthLimit thickness skew) s = .next s)
    ∧ (∀ (s : State) (e : CurrentEnv) (it : GaugeItem), s.sampling .envelope = true →
      s.gmu.envelope.item = some it → it.classified = false → s.ecc.state = .measuring →
      s.ecc.current = some e →
      (∀ (m : Measure) (b : BinId), m.wf .envelope = true → classifyEnvelope s.set m false = .accept →
        s.chooseBin false = some b →
        exec (.itemEnd .envelope m) s = .next { s with
          gmu := { s.gmu with envelope := { s.gmu.envelope with item := none } }
          ecc := { s.ecc with
            state := .forward, forwardTimer := .running 3000
            current := some { e with
              cls := some .accept, meas := some m, dest := some b, itemEnded := true }
            leader := { s.ecc.leader with pulses := 0 } } })
        ∧ (s.pins.warning = false → s.pins.throat.get e.throat = false →
          (∀ (m : Measure), m.wf .envelope = true →
            (classifyEnvelope s.set m false ≠ .accept ∨ s.chooseBin false = none) →
            ∃ u, exec (.itemEnd .envelope m) s = .next u ∧ u.gmu.envelope.item = none
              ∧ returned s u e (classifyEnvelope s.set m false))
          ∧ ∀ thickness skew : Nat, thickness ≤ 16316 →
            ∃ u, exec (.envelopeLengthLimit thickness skew) s = .next u
              ∧ returned s u e (.handBack .length)))
    ∧ ∀ (s : State) (e : CurrentEnv), s.ecc.state = .measuring → s.ecc.current = some e →
      s.ecc.intakeTimer.isRunning = true →
      let other := s.ecc.throats.get e.throat.other
      let frame (u : State) : Prop := u.ecc.feed = .stopped ∧ u.ecc.intakeTimer = .stopped
        ∧ u.ct = s.ct ∧ u.ntc = s.ntc ∧ u.ldc = s.ldc ∧ u.pins = s.pins ∧ u.slp = s.slp
      let idle (u : State) : Prop := u.ecc.state = .idle ∧ u.ecc.current = none ∧ u.ecc.inFlight = false
        ∧ u.ecc.motor = false ∧ u.ecc.throats.get e.throat.other = other
      let taking : Prop := s.openCondition = true ∧ s.azu.grants.capture.state = .closed
        ∧ s.pauseInForce = false
      ∃ u, exec .intakeTimeout s = .next u ∧ frame u
        ∧ (s.pins.throat.get e.throat = false → other.state ∉ [ThroatState.waiting, .returnWait] →
          idle u ∧ (u.ecc.throats.get e.throat).state = (if s.openCondition then .opened else .closed)
            ∧ (u.ecc.throats.get e.throat).shutterOpen = s.openCondition)
        ∧ (s.pins.throat.get e.throat = false → other.state = .waiting → taking →
          taken u e.throat.other ∧ (u.ecc.throats.get e.throat).state = .opened)
        ∧ (s.pins.throat.get e.throat = true → other.state ∉ [ThroatState.waiting, .returnWait] →
          (s.openCondition = false → idle u ∧ (u.ecc.throats.get e.throat).state = .waiting
              ∧ (u.ecc.throats.get e.throat).shutterOpen = true)
            ∧ (taking → taken u e.throat ∧ u.ecc.throats.get e.throat.other = other))

/-- The capture of an envelope. At the gate it takes the next capture number, which steps, 999,999 to 1, the
selector is set to its bin, and the imprinter is commanded when IMPRINT is on; the imprinter's report marks
it printed; the bin-entry sensor of its bin puts it into custody as an ENVELOPE record in the lowest free
slot with its number and measurements, the bin's count rising by one and its height by T; a bin that this
fills is FULL and a STANDBY bin takes over; the transport is IDLE and its throat as the open condition has
it; every other record stays (R112 to R114, R2). With the generations legal (R1). That the gate and the bin are
taken so under a power warning, and the bin in PAUSED, is the model's choice where R119 and R120 are silent (log
entry 66); that the feed stays as it stood at the gate is its choice too (log entry 59), and that the throat settles
by the open condition alone, whatever its sensor reads, is its reading (log entry 29). -/
def Obligations.EnvelopesAreCaptured : Prop :=
  (∀ (s : State) (e : CurrentEnv) (b : BinId), (s.ecc.state = .forward ∨ s.ecc.state = .recapture) →
      s.ecc.current = some e → e.number = none → s.destination e = some b →
      exec .gatePassage s = .next { s with ecc := { s.ecc with
        selector := b
        nextNumber := if 999999 ≤ s.ecc.nextNumber then 1 else s.ecc.nextNumber + 1
        current := some { e with
          dest := some b, number := some s.ecc.nextNumber
          printing := decide (s.set.imprint = 1) } } })
    ∧ (∀ (s : State) (e : CurrentEnv) (printed : Bool), s.ecc.current = some e → e.printing = true →
      exec (.imprinterReport printed) s = .next { s with ecc := { s.ecc with
        current := some { e with printing := false, imprinted := e.imprinted || printed } } })
    ∧ ∀ (s : State) (e : CurrentEnv) (n slot : Nat) (b : BinId) (h : Handle) (v : Bin) (m : Measure)
      (g : Byte), (s.ecc.state = .forward ∨ s.ecc.state = .recapture) → s.ecc.current = some e →
      e.number = some n → e.dest = some b → e.meas = some m → s.ct.binAt b = some (h, v) →
      s.ct.generationsLegal = true → s.ct.freeSlot = some slot →
      s.ct.slots[slot]? = some ⟨g, none⟩ →
      (s.ecc.throats.get e.throat.other).state ∉ [ThroatState.waiting, .returnWait] →
      let full : Prop := v.capacity ≤ v.count + 1 ∨ v.heightLimit ≤ v.height + m.t
      ∃ t w, exec (.binEntry b) s = .next t
        ∧ t.ct.find (handleOf g slot) = some (.envelope
            ⟨n, e.throat, .inBin h b, m.ls, m.t, e.imprinted, e.recapture, false, .exact⟩)
        ∧ t.ct.find h = some (.bin w)
        ∧ w = { v with count := v.count + 1, height := v.height + m.t, role := w.role }
        ∧ (full → w.role = .full) ∧ (¬ full → w.role = v.role)
        ∧ (full → v.role = .active → ∀ k x, s.ct.binAt b.other = some (k, x) → x.role = .standby →
            t.ct.find k = some (.bin { x with role := .active }) ∧ t.wallFlag .binSwitch = true)
        ∧ (full → v.role = .active → s.ct.binAt b.other = none → t.wallFlag .binFull = true)
        ∧ (∀ k x, s.ct.find k = some x → (∀ y, x ≠ .bin y) → t.ct.find k = some x)
        ∧ t.wallFlag .envelopeCaptured = true
        ∧ t.ecc.state = .idle ∧ t.ecc.current = none ∧ t.ecc.inFlight = false ∧ t.ecc.motor = false
        ∧ t.ecc.nextNumber = s.ecc.nextNumber
        ∧ (t.ecc.throats.get e.throat).state = (if t.openCondition then .opened else .closed)
        ∧ t.ntc = s.ntc ∧ t.ldc = s.ldc ∧ t.pins = s.pins ∧ t.azu.zones = s.azu.zones

/-- What stops the envelope transport and what brings an envelope back. At the presence limit, the forward
limit, the return limit or the encoder-stall limit it stands JAMMED with nothing recorded, the ACTIVE bin
DOUBTFUL and TRANSPORT_JAM set (R117); CLEAR_TRANSPORT under an OPEN grant starts a leader (R118). A returned
envelope at the mouth starts the return wait, which keeps its measurements; a wait that runs out makes the
throat overdue, and with the transport IDLE the arbiter takes it (R115, R108); a recapture limit that runs out finds by the throat sensor a feed that failed, the throat
going back overdue with its measurements, a jam, or the envelope removed (R116; that a sensor PRESENT at the
limit is a failed feed whatever it read at the start of the feed, and that the throat goes back with its shutter
open, are the model's choices, log entries 64 and 65); with an ACTIVE bin that is not held
the arbiter takes an overdue throat again in the same step, the other one first when it is overdue too (R108). That the kept measurements are the current envelope's from the
taking on is the model's choice (log entry 72), and that the arrival at the mouth is taken in PAUSED too is its
reading (log entry 15). -/
def Obligations.EnvelopesComeBackOrJam : Prop :=
  (∀ (c : Instr) (s : State), s.envJamRow c → s.ct.generationsLegal = true →
      ∃ t, exec c s = .next t ∧ t.ecc.jammedEmpty ∧ t.wallFlag .transportJam = true
        ∧ (∀ h v, s.ct.activeBin = some (h, v) → s.ct.binAt v.bin = some (h, v) →
            t.ct.find h = some (.bin { v with quality := v.quality.worse (.doubtful .jam) }))
        ∧ (∀ k x, s.ct.find k = some x → (∀ y, x ≠ .bin y) → t.ct.find k = some x)
        ∧ (∀ e, s.ecc.current = some e → (t.ecc.throats.get e.throat).state =
            (if s.pins.throat.get e.throat then .waiting else .closed))
        ∧ t.ntc = s.ntc ∧ t.ldc = s.ldc ∧ t.pins = s.pins ∧ t.azu.zones = s.azu.zones
        ∧ t.azu.grants = s.azu.grants)
    ∧ (∀ (s : State) (auth : Byte) (op : Half) (r : Role), s.admits 0x57 auth op r →
      s.grantOpen .capture = true → s.ct.holdCapture = 0 → s.ecc.state = .jammed →
      s.pins.warning = false → s.pauseInForce = false →
      exec (.clearTransportEnvelope auth op) s = .next { s with
        ecc := { s.ecc with
          state := .leader, saved := none, feed := .stopped, selector := s.leaderBin
          leader := ⟨true, 0, false, false⟩, motor := true, stallTimer := .running 100 }
        gmu := { s.gmu with envelope := ⟨true, true, 0, [], [], none⟩ }
        azu := { s.azu with vibration := ⟨true, .stopped⟩ }
        slp := { s.slp with response := some ⟨0x57, .accepted, .empty⟩ } })
    ∧ (∀ (s : State) (e : CurrentEnv), s.ecc.current = some e →
      (s.ecc.throats.get e.throat).state = .returning → s.pins.throat.get e.throat = false →
      (s.ecc.throats.get e.throat.other).state ∉ [ThroatState.waiting, .returnWait] →
      ∃ t, exec (.throatSensorChange e.throat true) s = .next t
        ∧ t.ecc.throats = s.ecc.throats.put e.throat ⟨.returnWait, true, .running 30000, false, e.meas⟩
        ∧ t.ecc.state = .idle ∧ t.ecc.current = none ∧ t.ecc.inFlight = false ∧ t.ecc.motor = false
        ∧ t.ecc.feed = .stopped ∧ t.ecc.returnTimer = .stopped
        ∧ t.ct = s.ct ∧ t.ntc = s.ntc ∧ t.ldc = s.ldc ∧ t.slp = s.slp)
    ∧ (∀ (s : State) (t : Throat), (s.ecc.throats.get t).state = .returnWait →
      (s.ecc.throats.get t).wait.isRunning = true → s.ecc.state ≠ .idle →
      exec (.returnWaitExpiry t) s = .next { s with ecc := { s.ecc with
        throats := s.ecc.throats.put t { s.ecc.throats.get t with wait := .stopped, overdue := true } } })
    ∧ (∀ (s : State) (t : Throat), (s.ecc.throats.get t).state = .returnWait →
      (s.ecc.throats.get t).wait.isRunning = true → s.ecc.state = .idle →
      let u := s.ecc.throats.get t
      let other := s.ecc.throats.get t.other
      let retakes : Prop := s.ct.activeBin ≠ none ∧ s.ct.holdCapture = 0
      (¬ retakes → other.state ≠ .waiting →
        exec (.returnWaitExpiry t) s = .next { s with ecc := { s.ecc with
          throats := s.ecc.throats.put t { u with wait := .stopped, overdue := true } } })
        ∧ (retakes → s.azu.grants.capture.state = .closed → s.pins.warning = false → s.pauseInForce = false →
          (¬ (other.state = .returnWait ∧ other.overdue = true) ∨ s.ecc.lastServed = t.other) →
          ∃ v, exec (.returnWaitExpiry t) s = .next v
            ∧ v.ecc.state = .leader ∧ v.ecc.motor = true ∧ v.ecc.lastServed = t ∧ v.ecc.inFlight = true
            ∧ (∃ c, v.ecc.current = some c ∧ c.throat = t ∧ c.recapture = true ∧ c.meas = u.kept)
            ∧ (v.ecc.throats.get t).state = .intake ∧ v.ecc.throats.get t.other = other
            ∧ v.ct = s.ct ∧ v.ntc = s.ntc ∧ v.ldc = s.ldc ∧ v.pins = s.pins ∧ v.slp = s.slp))
    ∧ ∀ (s : State) (e : CurrentEnv), s.ecc.state = .recapture → s.ecc.current = some e →
      s.ecc.recaptureTimer.isRunning = true →
      let u := s.ecc.throats.get e.throat
      let back : ThroatUnit := { u with
        state := .returnWait, shutterOpen := true, wait := .stopped, overdue := true }
      let other := s.ecc.throats.get e.throat.other
      let stood (t : State) : Prop := t.ecc.current = none ∧ t.ecc.inFlight = false ∧ t.ecc.motor = false
      let retakes : Prop := s.ct.activeBin ≠ none ∧ s.ct.holdCapture = 0
      ∃ t, exec .recaptureTimeout s = .next t ∧ t.ecc.feed = .stopped ∧ t.ecc.recaptureTimer = .stopped
        ∧ (s.pins.throat.get e.throat = true → ¬ retakes → stood t ∧ t.ecc.state = .idle ∧ t.ct = s.ct
            ∧ t.ecc.throats = s.ecc.throats.put e.throat back)
        ∧ (s.pins.throat.get e.throat = true → retakes → s.azu.grants.capture.state = .closed →
            s.pins.warning = false → s.pauseInForce = false →
            let takes (x : Throat) (m : Option Measure) : Prop :=
              t.ecc.state = .leader ∧ t.ecc.motor = true ∧ t.ecc.lastServed = x ∧ t.ecc.inFlight = true
                ∧ (∃ c, t.ecc.current = some c ∧ c.throat = x ∧ c.recapture = true ∧ c.meas = m)
                ∧ (t.ecc.throats.get x).state = .intake ∧ t.ct = s.ct
            (¬ (other.state = .returnWait ∧ other.overdue = true) → takes e.throat u.kept)
              ∧ (other.state = .returnWait → other.overdue = true → s.ecc.lastServed = e.throat →
                takes e.throat.other other.kept ∧ t.ecc.throats.get e.throat = back))
        ∧ (s.pins.throat.get e.throat = false → e.sensorAtFeed = true →
            t.ecc.jammedEmpty ∧ t.wallFlag .transportJam = true)
        ∧ (s.pins.throat.get e.throat = false → e.sensorAtFeed = false →
            other.state ∉ [ThroatState.waiting, .returnWait] →
            stood t ∧ t.ecc.state = .idle ∧ t.ct = s.ct ∧ (t.ecc.throats.get e.throat).kept = none
              ∧ (t.ecc.throats.get e.throat).state = (if s.openCondition then .opened else .closed))
        ∧ t.ntc = s.ntc ∧ t.ldc = s.ldc ∧ t.pins = s.pins

/-! ## The exchange -/

/-- LOAD_CASSETTE at an empty position with its cassette seated, under the DISPENSER grant, creates the stock
with its figures clamped, in the lowest free slot, and answers it; UNLOAD_CASSETTE retires a stock that
nothing stands on, its slot's generation stepping 255 to 1, and answers its closing record; RECONCILE of a
seated stock sets loaded to the counted notes and those picked, EXACT and CLEAN. An unload and a RECONCILE leave
no VALID quote naming the stock (R52). Nothing but that record, the quotes, the pick-failure count of a load, the
flags and the response changes (R122 to R125, R2, R3, R132). A presence switch that opens makes a live stock DOUBTFUL(MISSING), keeping a first cause, and
sets STOCK_DOUBT, and nothing else changes when no bundle waits or is in the transport; one that closes
changes the presence mark alone (R126, R14, R15). With the generations legal (R1). -/
def Obligations.CassettesAreExchanged : Prop :=
  (∀ (s : State) (p : CassettePos),
    exec (.presenceSwitchClose p) s =
        .next { s with pins := { s.pins with presence := s.pins.presence.put p true } }
      ∧ (s.pins.presence.get p = true → s.ct.stockAt p = none →
        exec (.presenceSwitchOpen p) s =
          .next { s with pins := { s.pins with presence := s.pins.presence.put p false } })
      ∧ ∀ (h : Handle) (st : Stock), s.pins.presence.get p = true → s.ct.stockAt p = some (h, st) →
        s.dpl.queue = [] → s.ntc.current = none → s.ct.generationsLegal = true →
        ∃ t, exec (.presenceSwitchOpen p) s = .next t
          ∧ t.pins = { s.pins with presence := s.pins.presence.put p false }
          ∧ t.ct.find h = some (.stock { st with quality := st.quality.worse (.doubtful .missing) })
          ∧ (∀ k, k ≠ h → t.ct.find k = s.ct.find k)
          ∧ (st.quality.isDoubtful = false → t.wallFlag .stockDoubt = true)
          ∧ t = { s with ct := t.ct, dpl := t.dpl, slp := t.slp, pins := t.pins })
    ∧ ∀ (s : State) (auth : Byte) (op : Half) (r : Role) (position : Byte) (p : CassettePos),
    posOf position = some p → s.grantOpen .dispenser = true → s.ct.generationsLegal = true →
    (∀ (denomination : Quad) (count thickness length : Half) (slot : Nat) (g : Byte),
      s.admits 0x50 auth op r → 1 ≤ denomination.toNat → denomination.toNat ≤ 65535 →
      s.ct.stockAt p = none → s.pins.presence.get p = true → s.ct.freeSlot = some slot →
      s.ct.slots[slot]? = some ⟨g, none⟩ →
      let n := min 3000 count.toNat
      let th := max 40 (min 250 thickness.toNat)
      let len := max 100 (min 200 length.toNat)
      ∃ t, exec (.loadCassette auth op position denomination count thickness length) s = .next t
        ∧ t.said 0x50 .ok (.loaded (handleOf g slot) n th len (3 * th / 4) (5 * th / 4)
            (3 * (2 * len) / 4) (5 * (2 * len) / 4))
        ∧ t.ct.find (handleOf g slot) = some (.stock
            ⟨p, denomination.toNat, n, 0, 0, 0, 0, 0, 0, th, len, th, 2 * len, 3 * th / 4, 5 * th / 4,
              3 * (2 * len) / 4, 5 * (2 * len) / 4, .initial, decide (n ≤ s.set.lowMark), .exact⟩)
        ∧ (∀ k, k ≠ handleOf g slot → t.ct.find k = s.ct.find k)
        ∧ (n ≤ s.set.lowMark → t.wallFlag .stockLow = true)
        ∧ t = { s with
            ct := t.ct, slp := t.slp
            ntc := { s.ntc with pickFails := s.ntc.pickFails.put p 0 } })
    ∧ (∀ (h : Handle) (st : Stock), s.admits 0x51 auth op r → s.ct.stockAt p = some (h, st) →
      s.ct.holdDispenser = 0 → st.reserved = 0 → st.inBundles = 0 →
      (∀ q ∈ s.ct.bundles, q.2.names h = false) →
      ∃ t, exec (.unloadCassette auth op position) s = .next t ∧ t.said 0x51 .ok (.closing h st)
        ∧ t.ct.find h = none ∧ (∀ k, k ≠ h → t.ct.find k = s.ct.find k)
        ∧ t.ct.slots[handleSlot h]? = some ⟨if handleGen h = 255 then 1 else handleGen h + 1, none⟩
        ∧ (∀ q ∈ t.dpl.liveQuotes, q.valid = true → ∀ x ∈ q.parts, x.stock ≠ h)
        ∧ t.dpl.queue = s.dpl.queue ∧ t = { s with ct := t.ct, dpl := t.dpl, slp := t.slp })
    ∧ ∀ (counted : Half) (h : Handle) (st : Stock), s.admits 0x52 auth op r →
      s.ct.stockAt p = some (h, st) → counted.toNat ≤ 3000 → s.pins.presence.get p = true →
      st.reserved ≤ counted.toNat →
      let new : Stock := { st with
        loaded := counted.toNat + st.pickedOut, quality := .exact, balance := .clean
        lowMark := if st.loaded - st.pickedOut = counted.toNat then st.lowMark
          else decide (counted.toNat ≤ s.set.lowMark) }
      ∃ t, exec (.reconcile auth op position counted) s = .next t
        ∧ t.ct.find h = some (.stock new) ∧ (∀ k, k ≠ h → t.ct.find k = s.ct.find k)
        ∧ t.said 0x52 .ok (.reconciled st new)
        ∧ (∀ q ∈ t.dpl.liveQuotes, q.valid = true → ∀ x ∈ q.parts, x.stock ≠ h)
        ∧ t.dpl.queue = s.dpl.queue ∧ t = { s with ct := t.ct, dpl := t.dpl, slp := t.slp }

/-- EMPTY_REJECT_VAULT retires the old vault record and creates an empty one of RV_CAPACITY, EXACT; RECONCILE_RV
sets the note count to the counted one, EXACT; COLLECT_BIN retires the bin's record and its unclaimed
envelopes, moves its claimed ones to COLLECTED, makes a STANDBY bin ACTIVE in its place, and answers its figures with
the lowest and the highest capture number inside, none for an empty bin, and how many it retired and moved; INSERT_BIN
creates an empty bin, ACTIVE when none is and STANDBY otherwise. Each is answered with its figures, and no
other record changes (R128 to R131, R21, R114, R2). With the generations legal (R1), and with no bundle
waiting where the vault's space changes (R58). -/
def Obligations.ContainersAreExchanged : Prop :=
  ∀ (s : State) (auth : Byte) (op : Half) (r : Role), s.ct.generationsLegal = true →
    (s.admits 0x53 auth op r → s.grantOpen .reject = true → s.vaultBusy = false → s.dpl.queue = [] →
      s.ct.freeSlot ≠ none →
      ∃ t h, exec (.emptyRejectVault auth op) s = .next t
        ∧ t.said 0x53 .ok (.vaultEmptied (s.ct.vault?.map (·.2)) h s.set.rvCapacity)
        ∧ s.ct.find h = none ∧ t.ct.find h = some (.vault ⟨0, s.set.rvCapacity, .exact⟩)
        ∧ (∀ hv v, s.ct.vault? = some (hv, v) → t.ct.find hv = none)
        ∧ (∀ k, k ≠ h → (∀ v, s.ct.vault? ≠ some (k, v)) → t.ct.find k = s.ct.find k)
        ∧ t.dpl.queue = [] ∧ t = { s with ct := t.ct, dpl := t.dpl, slp := t.slp })
    ∧ (∀ (counted : Half) (h : Handle) (v : Vault), s.admits 0x54 auth op r →
      s.grantOpen .reject = true → s.ct.vault? = some (h, v) → counted.toNat ≤ v.capacity →
      s.vaultBusy = false → s.dpl.queue = [] →
      ∃ t, exec (.reconcileRv auth op counted) s = .next t
        ∧ t.said 0x54 .ok (.vaultCount v { v with count := counted.toNat, quality := .exact })
        ∧ t.ct.find h = some (.vault { v with count := counted.toNat, quality := .exact })
        ∧ (∀ k, k ≠ h → t.ct.find k = s.ct.find k)
        ∧ t.dpl.queue = [] ∧ t = { s with ct := t.ct, dpl := t.dpl, slp := t.slp })
    ∧ (∀ (bin : Byte) (b : BinId) (h : Handle) (v : Bin), s.admits 0x55 auth op r → binOf bin = some b →
      s.grantOpen .capture = true → s.ct.binAt b = some (h, v) → s.ct.holdCapture = 0 →
      s.clearingEnv = false →
      let inside (k : Handle) (e : Envelope) : Prop :=
        s.ct.find k = some (.envelope e) ∧ ∃ c, e.place = .inBin h c
      ∃ t lo hi retired moved, exec (.collectBin auth op bin) s = .next t
        ∧ t.said 0x55 .ok (.collected v lo hi retired moved) ∧ t.ct.find h = none
        ∧ (∀ x, lo = some x ↔ (∃ k e, inside k e ∧ e.number = x) ∧ ∀ k e, inside k e → x ≤ e.number)
        ∧ (∀ y, hi = some y ↔ (∃ k e, inside k e ∧ e.number = y) ∧ ∀ k e, inside k e → e.number ≤ y)
        ∧ (∃ ks : List Handle, ks.Nodup ∧ retired = ks.length
            ∧ ∀ k, k ∈ ks ↔ ∃ e, inside k e ∧ e.claimed = false)
        ∧ (∃ ks : List Handle, ks.Nodup ∧ moved = ks.length
            ∧ ∀ k, k ∈ ks ↔ ∃ e, inside k e ∧ e.claimed = true)
        ∧ (∀ k e, inside k e → e.claimed = false → t.ct.find k = none)
        ∧ (∀ k e, inside k e → e.claimed = true →
            t.ct.find k = some (.envelope { e with place := .collected }))
        ∧ (∀ k x, s.ct.find k = some x → (∀ y, x ≠ .bin y) → (∀ e, x = .envelope e → ¬ inside k e) →
            t.ct.find k = some x)
        ∧ (∀ k w, s.ct.binAt b.other = some (k, w) → t.ct.find k = some (.bin
            (if v.role = .active ∧ w.role = .standby then { w with role := .active } else w)))
        ∧ t = { s with ct := t.ct, slp := t.slp })
    ∧ ∀ (bin : Byte) (b : BinId) (slot : Nat) (g : Byte), s.admits 0x56 auth op r →
      binOf bin = some b → s.grantOpen .capture = true → s.ct.binAt b = none →
      s.ct.freeSlot = some slot → s.ct.slots[slot]? = some ⟨g, none⟩ →
      let role : BinRole := if s.ct.activeBin.isSome then .standby else .active
      let limit := s.set.binHeightLimit * 1000
      ∃ t, exec (.insertBin auth op bin) s = .next t
        ∧ t.said 0x56 .ok (.inserted (handleOf g slot) role s.set.binCapacity limit)
        ∧ t.ct.find (handleOf g slot) = some (.bin ⟨b, 0, 0, s.set.binCapacity, limit, role, .exact⟩)
        ∧ (∀ k, k ≠ handleOf g slot → t.ct.find k = s.ct.find k)
        ∧ t = { s with ct := t.ct, slp := t.slp }

/-! ## Zones and grants -/

/-- The scanner and the windows. A new cycle holds each loop channel of the range once and every hold-up channel,
and its channels outside are UNSCANNED (R136, R138). A conversion counts toward a class change, and the third
in a row in another band makes it (R137). A loop that goes TRIPPED trips its zone, repeated when it was
pending, or defers the trip while the zone's window is open; one that goes NORMAL ends its trouble, and SHORT
and OPEN begin one (R139, R140, R143). A forcing window's tail that runs out closes it, and a deferred
forcing event is taken when its switch still stands there and dropped otherwise (R142, R143). Every other
zone stays. What brings a zone into force, a trip or the enable of a pending zone, acts at once. A DISPENSER or REJECT hold stops a note transport at
work: JAMMED, its bundle FAILED with reason DOOR; in IDLE, ROUTING and JAMMED it stays; a REJECT hold makes the vault
DOUBTFUL (R83, R156). A CAPTURE hold makes the bins and the envelopes in them DOUBTFUL(DOOR), returns an envelope that
is measured or on its way to the gate, drops a leader, its throat waiting or overdue again, and leaves one past the
gate (R111, R156). Z12 pauses both transports: state saved, mechanisms and imprinter stopped, timers frozen, runs and
items kept (R82, R119). -/
def Obligations.ZonesFollowTheirLoops : Prop :=
  (∀ s : State,
      let first := s.set.scanStart
      let last := s.set.scanEnd
      let inRange (z : ZoneId) : Prop :=
        if first ≤ last then first ≤ z.val ∧ z.val ≤ last else first ≤ z.val ∨ z.val ≤ last
      ∃ t, exec .scanCycleStart s = .next t
        ∧ t.azu.cycle.Nodup ∧ t.azu.converted = 0
        ∧ (∀ z : ZoneId, z ∈ t.azu.cycle ↔ isForcing z = false ∧ (inRange z ∨ isHoldup z = true))
        ∧ (∀ z ∈ t.azu.cycle, (t.azu.zones[z]).cls ≠ .unscanned)
        ∧ (∀ z : ZoneId, isForcing z = false → z ∉ t.azu.cycle → (t.azu.zones[z]).cls = .unscanned)
        ∧ (∀ z : ZoneId, (t.azu.zones[z]).pending = (s.azu.zones[z]).pending
            ∧ (t.azu.zones[z]).enable = (s.azu.zones[z]).enable
            ∧ (t.azu.zones[z]).mode = (s.azu.zones[z]).mode)
        ∧ t = { s with azu := t.azu, slp := t.slp })
    ∧ (∀ (s : State) (code : Sample) (z : ZoneId), s.azu.cycle[s.azu.converted]? = some z →
      let w := s.azu.zones[z]
      let n := code.toNat
      let band : LoopClass :=
        if n < 400 then .short else if n < 1800 then .normal else if n < 3600 then .tripped else .openLoop
      let row := if band = w.candidate then w.count + 1 else 1
      let with_ (new : Zone) : State := { s with azu := { s.azu with
        zones := s.azu.zones.set z new, converted := s.azu.converted + 1 } }
      (band = w.cls → exec (.loopConversion code) s = .next (with_ { w with count := 0 }))
        ∧ (band ≠ w.cls → row < 3 →
          exec (.loopConversion code) s = .next (with_ { w with candidate := band, count := row }))
        ∧ (band ≠ w.cls → 3 ≤ row → ∃ t, exec (.loopConversion code) s = .next t
          ∧ (t.azu.zones[z]).cls = band ∧ (t.azu.zones[z]).count = 0
          ∧ (∀ x : ZoneId, x ≠ z → t.azu.zones[x] = s.azu.zones[x])))
    ∧ (∀ (s : State) (z : ZoneId) (c : LoopClass), (Instr.loopClassChange z c).wf = true →
      z ∈ s.azu.cycle → (s.azu.zones[z]).cls ≠ c →
      let w := s.azu.zones[z]
      ∃ t, exec (.loopClassChange z c) s = .next t
        ∧ (∀ x : ZoneId, x ≠ z → t.azu.zones[x] = s.azu.zones[x])
        ∧ (t.azu.zones[z]).cls = c ∧ (t.azu.zones[z]).enable = w.enable
        ∧ (t.azu.zones[z]).mode = w.mode ∧ (t.azu.zones[z]).delegation = w.delegation
        ∧ (c = .tripped → s.blanked z = false → (t.azu.zones[z]).pending = true
            ∧ (t.azu.zones[z]).repeated = (w.repeated || w.pending)
            ∧ (t.azu.zones[z]).trouble = false)
        ∧ (c = .tripped → s.blanked z = true → (t.azu.zones[z]).pending = w.pending
            ∧ (t.azu.zones[z]).deferred = .loop)
        ∧ (c ≠ .tripped → (t.azu.zones[z]).pending = w.pending
            ∧ (t.azu.zones[z]).trouble = decide (c ≠ .normal)
            ∧ (w.cls = .tripped → w.pending = true → (t.azu.zones[z]).restoreNeeded = true))
        ∧ (c ≠ .tripped → t = { s with azu := t.azu, slp := t.slp })
        ∧ t.azu.grants = s.azu.grants ∧ t.pins = s.pins)
    ∧ (∀ (s : State) (l : Lane), (s.azu.forcing.get l).tail.isRunning = true →
      let z := l.forcingZone
      let w := s.azu.zones[z]
      let shut (zones : Vector Zone 16) : State := { s with azu := { s.azu with
        forcing := s.azu.forcing.put l ⟨false, .stopped⟩, zones := zones } }
      (w.deferred = .clear →
          exec (.blankingTailExpiry z) s = .next (shut s.azu.zones))
        ∧ ∀ switch closed, w.deferred = .forcing switch closed →
          (s.switchAt l switch ≠ closed → exec (.blankingTailExpiry z) s =
            .next (shut (s.azu.zones.set z { w with deferred := .clear })))
          ∧ (s.switchAt l switch = closed → ∃ t, exec (.blankingTailExpiry z) s = .next t
            ∧ (t.azu.zones[z]).pending = true ∧ (t.azu.zones[z]).restoreNeeded = true
            ∧ (t.azu.zones[z]).deferred = .clear
            ∧ t.azu.forcing.get l = ⟨false, .stopped⟩
            ∧ (∀ x : ZoneId, x ≠ z → t.azu.zones[x] = s.azu.zones[x])))
    ∧ ∀ (s : State) (z : ZoneId) (c : Instr), s.bringsIntoForce z c → s.ct.generationsLegal = true →
      ∃ t, exec c s = .next t
        ∧ ((holdsDispenser z = true ∨ holdsReject z = true) →
          (s.ntc.phase ∈ [NoteState.picking, .stackedWait, .diverting]
              ∨ (s.ntc.phase = .leader ∧ (s.ntc.leader.started = true ∨ s.ntc.current ≠ none
                ∨ (s.ct.holdDispenser = 0 ∧ s.ct.holdReject = 0))) →
            t.ntc.jammedEmpty ∧ t.wallFlag .transportJam = true ∧ t.gmu.note.run = false
              ∧ ∀ h b, s.currentBundle = some (h, b) → h ∉ s.dpl.queue → t.hasFailed h b .door)
          ∧ (s.ntc.phase ∈ [NoteState.idle, .routing, .jammed] → t.ntc = s.ntc)
          ∧ (holdsReject z = true → t.vaultDoubtful))
        ∧ (holdsCapture z = true →
          (∀ k v, s.ct.find k = some (.bin v) →
              t.ct.find k = some (.bin { v with quality := v.quality.worse (.doubtful .door) }))
          ∧ (∀ k e, s.ct.find k = some (.envelope e) → t.ct.find k = some (.envelope
              (if e.place = .collected then e
                else { e with quality := e.quality.worse (.doubtful .door) })))
          ∧ (∀ e, s.ecc.current = some e → s.pins.warning = false → s.pins.throat.get e.throat = false →
              (s.ecc.state = .measuring ∨ (s.ecc.state = .forward ∧ e.number = none)) →
              t.ecc.state = .reversing ∧ t.ecc.feed = .reverse ∧ t.ecc.motor = true
                ∧ t.ecc.returnTimer = .running 3000 ∧ t.ecc.current = some e
                ∧ (t.ecc.throats.get e.throat).state = .returning)
          ∧ (∀ e, s.ecc.current = some e → s.ecc.state = .leader →
              t.ecc.state = .idle ∧ t.ecc.current = none ∧ t.ecc.inFlight = false
                ∧ t.ecc.motor = false ∧ t.gmu.envelope.run = false
                ∧ (t.ecc.throats.get e.throat).state = (if e.recapture then .returnWait else .waiting)
                ∧ (e.recapture = true → (t.ecc.throats.get e.throat).overdue = true)
                ∧ (t.ecc.throats.get e.throat).kept = (s.ecc.throats.get e.throat).kept)
          ∧ (∀ e n, s.ecc.current = some e → e.number = some n → s.ecc.phase ≠ .leader →
              s.ecc.phase ≠ .measuring →
              t.ecc.state = s.ecc.state ∧ t.ecc.current = some e ∧ t.ecc.feed = s.ecc.feed
                ∧ t.ecc.motor = s.ecc.motor))
        ∧ (z.val = 12 → t.ct = s.ct ∧ t.ldc = s.ldc ∧ t.gmu = s.gmu ∧ t.pins = s.pins
          ∧ t.ntc = (if s.ntc.state ∈ [NoteState.leader, .picking, .stackedWait, .diverting] then
              { s.ntc with
                state := .paused, saved := some s.ntc.state, motor := false, dump := false
                stallTimer := s.ntc.stallTimer.freeze, pickTimer := s.ntc.pickTimer.freeze
                exitTimer := s.ntc.exitTimer.freeze, waitTimer := s.ntc.waitTimer.freeze
                dumpTimer := s.ntc.dumpTimer.freeze }
              else s.ntc)
          ∧ t.ecc = (if s.ecc.state ∈ [EnvState.leader, .measuring, .forward, .reversing, .recapture] then
              { s.ecc with
                state := .paused, saved := some s.ecc.state, motor := false, feed := .stopped
                stallTimer := s.ecc.stallTimer.freeze, intakeTimer := s.ecc.intakeTimer.freeze
                forwardTimer := s.ecc.forwardTimer.freeze, returnTimer := s.ecc.returnTimer.freeze
                recaptureTimer := s.ecc.recaptureTimer.freeze }
              else s.ecc)
          ∧ (s.ecc.state ≠ .idle → s.ecc.state ≠ .jammed → t.imprinterOn = false))

/-- The zone requests. RESTORE_ZONE of a loop that is TRIPPED or UNDETERMINED is refused with its class, and
clears a zone's marks otherwise (R145). SET_ZONE_ENABLE and CLEAR_ZONE_ENABLE write the enable of the zones
of the mask but for the hold-up zones, which stay enabled, and answer all sixteen (R146); with no zone changing
force, nothing but the zones, the flags and the response changes. SET_DELEGATION writes the set, of a hold-up zone
only its PANEL member (R150); that a byte's bits above the three have no effect is the model's reading of a field
that the manual gives no more of (log entry 33). SET_ZONE_MODE takes a zone that is not pending
to TEST, refuses one that is pending, and brings one back to ARMED with its marks dropped (R147, R149).
INJECT_TRIP trips a zone in TEST and is refused for one that is ARMED (R148). Every other zone stays. -/
def Obligations.ZoneRequestsChangeTheirZones : Prop :=
  ∀ (s : State) (auth : Byte) (op : Half) (r : Role),
    (∀ (zone : Byte) (z : ZoneId), zoneOf zone = some z →
      let w := s.azu.zones[z]
      (s.admits 0x60 auth op r →
          ((w.cls = .tripped ∨ w.cls = .undetermined) →
            exec (.restoreZone auth op zone) s =
              .next (s.answered 0x60 .state (.loopClass w.cls)))
          ∧ (w.cls ≠ .tripped → w.cls ≠ .undetermined →
            let new : Zone := { w with
              pending := false, repeated := false, injected := false, restoreNeeded := false }
            ∃ t, exec (.restoreZone auth op zone) s = .next t ∧ t.said 0x60 .ok (.zone new)
              ∧ t.azu.zones[z] = new
              ∧ (∀ x : ZoneId, x ≠ z → t.azu.zones[x] = s.azu.zones[x])
              ∧ t.azu.grants = s.azu.grants ∧ t.ldc = s.ldc
              ∧ t.pins = { s.pins with stackerEmpty := t.pins.stackerEmpty }
              ∧ (w.inForce = false → t = { s with azu := t.azu, slp := t.slp })))
        ∧ (∀ set : Byte, s.admits 0x63 auth op r →
          let d : Delegation := if isHoldup z then ⟨false, set.getLsbD 1, true⟩
            else ⟨set.getLsbD 0, set.getLsbD 1, set.getLsbD 2⟩
          ∃ t, exec (.setDelegation auth op zone set) s = .next t ∧ t.said 0x63 .ok (.delegation d)
            ∧ t.azu = { s.azu with zones := s.azu.zones.set z { w with delegation := d } }
            ∧ t = { s with azu := t.azu, slp := t.slp })
        ∧ (s.admits 0x64 auth op r → w.mode = .armed → isHoldup z = false →
          (w.pending = true →
            exec (.setZoneModeTest auth op zone) s = .next (s.answered 0x64 .state .empty))
          ∧ (w.pending = false → ∃ t, exec (.setZoneModeTest auth op zone) s = .next t
            ∧ t.said 0x64 .ok .empty
            ∧ t.azu = { s.azu with zones := s.azu.zones.set z { w with mode := .test } }
            ∧ t = { s with azu := t.azu, slp := t.slp }))
        ∧ (s.admits 0x64 auth op r → w.mode = .test → w.cls ≠ .tripped →
          ∃ t, exec (.setZoneModeArmed auth op zone) s = .next t ∧ t.said 0x64 .ok .empty
            ∧ t.azu = { s.azu with zones := s.azu.zones.set z { w with
                pending := false, repeated := false, injected := false, restoreNeeded := false
                mode := .armed } }
            ∧ t = { s with azu := t.azu, slp := t.slp })
        ∧ (s.admits 0x65 auth op r →
          (w.mode = .armed →
            exec (.injectTrip auth op zone) s = .next (s.answered 0x65 .state .empty))
          ∧ (w.mode = .test → ∃ t, exec (.injectTrip auth op zone) s = .next t
            ∧ t.said 0x65 .ok .empty ∧ (t.azu.zones[z]).pending = true
            ∧ (t.azu.zones[z]).repeated = (w.repeated || w.pending)
            ∧ (w.pending = false → (t.azu.zones[z]).injected = true)
            ∧ (t.azu.zones[z]).mode = .test
            ∧ (∀ x : ZoneId, x ≠ z → t.azu.zones[x] = s.azu.zones[x])
            ∧ t = { s with azu := t.azu, slp := t.slp })))
    ∧ ∀ (mask : Half),
      let written (on : Bool) (z : ZoneId) : Zone :=
        if mask.getLsbD z.val = true ∧ isHoldup z = false then { s.azu.zones[z] with enable := on }
        else s.azu.zones[z]
      (s.admits 0x61 auth op r → ∃ t m, exec (.setZoneEnable auth op mask) s = .next t
          ∧ t.said 0x61 .ok (.enables m) ∧ (∀ z : ZoneId, t.azu.zones[z] = written true z)
          ∧ (∀ z : ZoneId, m.getLsbD z.val = (written true z).enable)
          ∧ t.azu.grants = s.azu.grants
          ∧ ((∀ z : ZoneId, (written true z).inForce = (s.azu.zones[z]).inForce) →
              t = { s with azu := t.azu, slp := t.slp }))
        ∧ (s.admits 0x62 auth op r → ∃ t m, exec (.clearZoneEnable auth op mask) s = .next t
          ∧ t.said 0x62 .ok (.enables m) ∧ (∀ z : ZoneId, t.azu.zones[z] = written false z)
          ∧ (∀ z : ZoneId, m.getLsbD z.val = (written false z).enable)
          ∧ t.azu.grants = s.azu.grants
          ∧ ((∀ z : ZoneId, (written false z).inForce = (s.azu.zones[z]).inForce) →
              t = { s with azu := t.azu, slp := t.slp }))

/-- Service grants. OPEN_GRANT of a CLOSED grant whose mechanism is not at work proposes it for 60 s;
CONFIRM_GRANT by another operator opens it for GRANT_DURATION minutes, by the same operator it is refused;
CLOSE_GRANT ends it when its door loop is NORMAL and names the door otherwise; a proposal lapses and an OPEN
grant runs out. Each sets GRANT_CHANGE; no zone and no record changes when no trip is deferred and no bundle
waits, and of the envelope transport nothing does but for CAPTURE, whose OPEN throats close when its grant
opens (R158 to R162, R106). That another area's grant leaves it as it is at its end, where R161 says of no area that
the arbiter examines the throats, is the model's reading (log entry 24). -/
def Obligations.GrantsOpenAndEnd : Prop :=
  ∀ (s : State) (a : Area),
    let granted (g : Grant) : State := { s with
      azu := { s.azu with grants := s.azu.grants.put a g }
      slp := { s.slp with wallFlags := s.slp.wallFlags ||| 0x80 } }
    let ended (t : State) : Prop :=
      t.azu.grants = s.azu.grants.put a ⟨.closed, none, none, .stopped⟩
        ∧ t.wallFlag .grantChange = true ∧ t.azu.zones = s.azu.zones ∧ t.ct = s.ct ∧ t.ntc = s.ntc
        ∧ t.ldc = s.ldc ∧ t.pins = s.pins ∧ (a ≠ .capture → t.ecc = s.ecc)
    let settled : Prop := (∀ z ∈ blankedZones a, (s.azu.zones[z]).deferred = .clear) ∧ s.dpl.queue = []
    (∀ (auth : Byte) (op : Half) (r : Role) (area : Byte), areaOf area = some a →
      (s.admits 0x68 auth op r → (s.azu.grants.get a).state = .closed → s.areaBusy a = false →
          exec (.openGrant auth op area) s = .next
            ((granted ⟨.proposed, some op.toNat, none, .running 60000⟩).answered 0x68 .ok
              (.grant a (.running 60000))))
        ∧ (∀ k, s.admits 0x69 auth op r → (s.azu.grants.get a).state = .proposed →
          (s.azu.grants.get a).proposer = some k →
          let opened := granted
            ⟨.opened, some k, some op.toNat, .running (s.set.grantDuration * 60000)⟩
          (k = op.toNat →
            exec (.confirmGrant auth op area) s = .next (s.answered 0x69 .authority .empty))
          ∧ (k ≠ op.toNat → s.areaBusy a = false →
            (a ≠ .capture →
              exec (.confirmGrant auth op area) s = .next (opened.answered 0x69 .ok .empty))
            ∧ (a = .capture → ∃ t, exec (.confirmGrant auth op area) s = .next t
              ∧ t = { opened.answered 0x69 .ok .empty with ecc := t.ecc }
              ∧ t.ecc = { s.ecc with throats := t.ecc.throats }
              ∧ ∀ x, t.ecc.throats.get x =
                  if s.openCondition = true ∧ (s.ecc.throats.get x).state = .opened then
                    { s.ecc.throats.get x with state := .closed, shutterOpen := false }
                  else s.ecc.throats.get x)))
        ∧ (s.admits 0x6A auth op r → (s.azu.grants.get a).state = .opened →
          ((s.azu.zones[doorZone a]).cls ≠ .normal →
            exec (.closeGrant auth op area) s = .next (s.answered 0x6A .doorOpen
              (.doorOpen (doorZone a) (s.azu.zones[doorZone a]).cls)))
          ∧ ((s.azu.zones[doorZone a]).cls = .normal → settled →
            ∃ t, exec (.closeGrant auth op area) s = .next t ∧ t.said 0x6A .ok .empty ∧ ended t)))
      ∧ ((s.azu.grants.get a).state = .proposed → (s.azu.grants.get a).timer.isRunning = true →
        ∃ t, exec (.proposalLapse a) s = .next t ∧ ended t)
      ∧ ((s.azu.grants.get a).state = .opened → (s.azu.grants.get a).timer.isRunning = true → settled →
        ∃ t, exec (.grantExpiry a) s = .next t ∧ ended t)
end

