-- ==== Sys2Proof/Laws/State.lean ====
section
/-! SUPPORT. The lemmas of the state's updates: what a read of one block gives after a change of one
block, and what a family's read gives after its write. -/

namespace Sys2Proof

@[simp] theorem PerLane.get_put_same {α : Type} (p : PerLane α) (k : Lane) (v : α) : (p.put k v).get k = v := by
  cases k <;> rfl

theorem PerLane.get_put_other {α : Type} (p : PerLane α) {j k : Lane} (v : α) (h : j ≠ k) :
    (p.put k v).get j = p.get j := by
  cases j <;> cases k <;> first | rfl | exact absurd rfl h

theorem PerLane.get_put {α : Type} (p : PerLane α) (j k : Lane) (v : α) :
    (p.put k v).get j = if j = k then v else p.get j := by
  split
  · next h => rw [h, PerLane.get_put_same]
  · next h => exact PerLane.get_put_other p v h

@[simp] theorem PerLane.put_get {α : Type} (p : PerLane α) (k : Lane) : p.put k (p.get k) = p := by
  cases k <;> rfl

theorem PerLane.ext_get {α : Type} {p q : PerLane α} (h : ∀ k, p.get k = q.get k) : p = q := by
  obtain ⟨a0, a1, a2, a3⟩ := p
  obtain ⟨b0, b1, b2, b3⟩ := q
  have h0 : a0 = b0 := h .l1
  have h1 : a1 = b1 := h .l2
  have h2 : a2 = b2 := h .l3
  have h3 : a3 = b3 := h .l4
  simp only [h0, h1, h2, h3]

@[simp] theorem PerPos.get_put_same {α : Type} (p : PerPos α) (k : CassettePos) (v : α) : (p.put k v).get k = v := by
  cases k <;> rfl

theorem PerPos.get_put_other {α : Type} (p : PerPos α) {j k : CassettePos} (v : α) (h : j ≠ k) :
    (p.put k v).get j = p.get j := by
  cases j <;> cases k <;> first | rfl | exact absurd rfl h

theorem PerPos.get_put {α : Type} (p : PerPos α) (j k : CassettePos) (v : α) :
    (p.put k v).get j = if j = k then v else p.get j := by
  split
  · next h => rw [h, PerPos.get_put_same]
  · next h => exact PerPos.get_put_other p v h

@[simp] theorem PerPos.put_get {α : Type} (p : PerPos α) (k : CassettePos) : p.put k (p.get k) = p := by
  cases k <;> rfl

theorem PerPos.ext_get {α : Type} {p q : PerPos α} (h : ∀ k, p.get k = q.get k) : p = q := by
  obtain ⟨a0, a1, a2, a3, a4⟩ := p
  obtain ⟨b0, b1, b2, b3, b4⟩ := q
  have h0 : a0 = b0 := h .c1
  have h1 : a1 = b1 := h .c2
  have h2 : a2 = b2 := h .c3
  have h3 : a3 = b3 := h .c4
  have h4 : a4 = b4 := h .c5
  simp only [h0, h1, h2, h3, h4]

@[simp] theorem PerThroat.get_put_same {α : Type} (p : PerThroat α) (k : Throat) (v : α) : (p.put k v).get k = v := by
  cases k <;> rfl

theorem PerThroat.get_put_other {α : Type} (p : PerThroat α) {j k : Throat} (v : α) (h : j ≠ k) :
    (p.put k v).get j = p.get j := by
  cases j <;> cases k <;> first | rfl | exact absurd rfl h

theorem PerThroat.get_put {α : Type} (p : PerThroat α) (j k : Throat) (v : α) :
    (p.put k v).get j = if j = k then v else p.get j := by
  split
  · next h => rw [h, PerThroat.get_put_same]
  · next h => exact PerThroat.get_put_other p v h

@[simp] theorem PerThroat.put_get {α : Type} (p : PerThroat α) (k : Throat) : p.put k (p.get k) = p := by
  cases k <;> rfl

theorem PerThroat.ext_get {α : Type} {p q : PerThroat α} (h : ∀ k, p.get k = q.get k) : p = q := by
  obtain ⟨a0, a1⟩ := p
  obtain ⟨b0, b1⟩ := q
  have h0 : a0 = b0 := h .t1
  have h1 : a1 = b1 := h .t2
  simp only [h0, h1]

@[simp] theorem PerArea.get_put_same {α : Type} (p : PerArea α) (k : Area) (v : α) : (p.put k v).get k = v := by
  cases k <;> rfl

theorem PerArea.get_put_other {α : Type} (p : PerArea α) {j k : Area} (v : α) (h : j ≠ k) :
    (p.put k v).get j = p.get j := by
  cases j <;> cases k <;> first | rfl | exact absurd rfl h

theorem PerArea.get_put {α : Type} (p : PerArea α) (j k : Area) (v : α) :
    (p.put k v).get j = if j = k then v else p.get j := by
  split
  · next h => rw [h, PerArea.get_put_same]
  · next h => exact PerArea.get_put_other p v h

@[simp] theorem PerArea.put_get {α : Type} (p : PerArea α) (k : Area) : p.put k (p.get k) = p := by
  cases k <;> rfl

theorem PerArea.ext_get {α : Type} {p q : PerArea α} (h : ∀ k, p.get k = q.get k) : p = q := by
  obtain ⟨a0, a1, a2, a3⟩ := p
  obtain ⟨b0, b1, b2, b3⟩ := q
  have h0 : a0 = b0 := h .dispenser
  have h1 : a1 = b1 := h .reject
  have h2 : a2 = b2 := h .capture
  have h3 : a3 = b3 := h .wall
  simp only [h0, h1, h2, h3]

namespace Machine

/-! ### onCt -/

@[simp] theorem State.onCt_ct (s : State) (f : Ct → Ct) : (s.onCt f).ct = f s.ct := rfl
@[simp] theorem State.onCt_dpl (s : State) (f : Ct → Ct) : (s.onCt f).dpl = s.dpl := rfl
@[simp] theorem State.onCt_ntc (s : State) (f : Ct → Ct) : (s.onCt f).ntc = s.ntc := rfl
@[simp] theorem State.onCt_gmu (s : State) (f : Ct → Ct) : (s.onCt f).gmu = s.gmu := rfl
@[simp] theorem State.onCt_ldc (s : State) (f : Ct → Ct) : (s.onCt f).ldc = s.ldc := rfl
@[simp] theorem State.onCt_ecc (s : State) (f : Ct → Ct) : (s.onCt f).ecc = s.ecc := rfl
@[simp] theorem State.onCt_azu (s : State) (f : Ct → Ct) : (s.onCt f).azu = s.azu := rfl
@[simp] theorem State.onCt_slp (s : State) (f : Ct → Ct) : (s.onCt f).slp = s.slp := rfl
@[simp] theorem State.onCt_set (s : State) (f : Ct → Ct) : (s.onCt f).set = s.set := rfl
@[simp] theorem State.onCt_retained (s : State) (f : Ct → Ct) : (s.onCt f).retained = s.retained := rfl
@[simp] theorem State.onCt_ms (s : State) (f : Ct → Ct) : (s.onCt f).ms = s.ms := rfl
@[simp] theorem State.onCt_pins (s : State) (f : Ct → Ct) : (s.onCt f).pins = s.pins := rfl
@[simp] theorem State.onCt_pending (s : State) (f : Ct → Ct) : (s.onCt f).pending = s.pending := rfl

/-! ### onDpl -/

@[simp] theorem State.onDpl_ct (s : State) (f : Dpl → Dpl) : (s.onDpl f).ct = s.ct := rfl
@[simp] theorem State.onDpl_dpl (s : State) (f : Dpl → Dpl) : (s.onDpl f).dpl = f s.dpl := rfl
@[simp] theorem State.onDpl_ntc (s : State) (f : Dpl → Dpl) : (s.onDpl f).ntc = s.ntc := rfl
@[simp] theorem State.onDpl_gmu (s : State) (f : Dpl → Dpl) : (s.onDpl f).gmu = s.gmu := rfl
@[simp] theorem State.onDpl_ldc (s : State) (f : Dpl → Dpl) : (s.onDpl f).ldc = s.ldc := rfl
@[simp] theorem State.onDpl_ecc (s : State) (f : Dpl → Dpl) : (s.onDpl f).ecc = s.ecc := rfl
@[simp] theorem State.onDpl_azu (s : State) (f : Dpl → Dpl) : (s.onDpl f).azu = s.azu := rfl
@[simp] theorem State.onDpl_slp (s : State) (f : Dpl → Dpl) : (s.onDpl f).slp = s.slp := rfl
@[simp] theorem State.onDpl_set (s : State) (f : Dpl → Dpl) : (s.onDpl f).set = s.set := rfl
@[simp] theorem State.onDpl_retained (s : State) (f : Dpl → Dpl) : (s.onDpl f).retained = s.retained := rfl
@[simp] theorem State.onDpl_ms (s : State) (f : Dpl → Dpl) : (s.onDpl f).ms = s.ms := rfl
@[simp] theorem State.onDpl_pins (s : State) (f : Dpl → Dpl) : (s.onDpl f).pins = s.pins := rfl
@[simp] theorem State.onDpl_pending (s : State) (f : Dpl → Dpl) : (s.onDpl f).pending = s.pending := rfl

/-! ### onNtc -/

@[simp] theorem State.onNtc_ct (s : State) (f : Ntc → Ntc) : (s.onNtc f).ct = s.ct := rfl
@[simp] theorem State.onNtc_dpl (s : State) (f : Ntc → Ntc) : (s.onNtc f).dpl = s.dpl := rfl
@[simp] theorem State.onNtc_ntc (s : State) (f : Ntc → Ntc) : (s.onNtc f).ntc = f s.ntc := rfl
@[simp] theorem State.onNtc_gmu (s : State) (f : Ntc → Ntc) : (s.onNtc f).gmu = s.gmu := rfl
@[simp] theorem State.onNtc_ldc (s : State) (f : Ntc → Ntc) : (s.onNtc f).ldc = s.ldc := rfl
@[simp] theorem State.onNtc_ecc (s : State) (f : Ntc → Ntc) : (s.onNtc f).ecc = s.ecc := rfl
@[simp] theorem State.onNtc_azu (s : State) (f : Ntc → Ntc) : (s.onNtc f).azu = s.azu := rfl
@[simp] theorem State.onNtc_slp (s : State) (f : Ntc → Ntc) : (s.onNtc f).slp = s.slp := rfl
@[simp] theorem State.onNtc_set (s : State) (f : Ntc → Ntc) : (s.onNtc f).set = s.set := rfl
@[simp] theorem State.onNtc_retained (s : State) (f : Ntc → Ntc) : (s.onNtc f).retained = s.retained := rfl
@[simp] theorem State.onNtc_ms (s : State) (f : Ntc → Ntc) : (s.onNtc f).ms = s.ms := rfl
@[simp] theorem State.onNtc_pins (s : State) (f : Ntc → Ntc) : (s.onNtc f).pins = s.pins := rfl
@[simp] theorem State.onNtc_pending (s : State) (f : Ntc → Ntc) : (s.onNtc f).pending = s.pending := rfl

/-! ### onGmu -/

@[simp] theorem State.onGmu_ct (s : State) (f : Gmu → Gmu) : (s.onGmu f).ct = s.ct := rfl
@[simp] theorem State.onGmu_dpl (s : State) (f : Gmu → Gmu) : (s.onGmu f).dpl = s.dpl := rfl
@[simp] theorem State.onGmu_ntc (s : State) (f : Gmu → Gmu) : (s.onGmu f).ntc = s.ntc := rfl
@[simp] theorem State.onGmu_gmu (s : State) (f : Gmu → Gmu) : (s.onGmu f).gmu = f s.gmu := rfl
@[simp] theorem State.onGmu_ldc (s : State) (f : Gmu → Gmu) : (s.onGmu f).ldc = s.ldc := rfl
@[simp] theorem State.onGmu_ecc (s : State) (f : Gmu → Gmu) : (s.onGmu f).ecc = s.ecc := rfl
@[simp] theorem State.onGmu_azu (s : State) (f : Gmu → Gmu) : (s.onGmu f).azu = s.azu := rfl
@[simp] theorem State.onGmu_slp (s : State) (f : Gmu → Gmu) : (s.onGmu f).slp = s.slp := rfl
@[simp] theorem State.onGmu_set (s : State) (f : Gmu → Gmu) : (s.onGmu f).set = s.set := rfl
@[simp] theorem State.onGmu_retained (s : State) (f : Gmu → Gmu) : (s.onGmu f).retained = s.retained := rfl
@[simp] theorem State.onGmu_ms (s : State) (f : Gmu → Gmu) : (s.onGmu f).ms = s.ms := rfl
@[simp] theorem State.onGmu_pins (s : State) (f : Gmu → Gmu) : (s.onGmu f).pins = s.pins := rfl
@[simp] theorem State.onGmu_pending (s : State) (f : Gmu → Gmu) : (s.onGmu f).pending = s.pending := rfl

/-! ### onEcc -/

@[simp] theorem State.onEcc_ct (s : State) (f : Ecc → Ecc) : (s.onEcc f).ct = s.ct := rfl
@[simp] theorem State.onEcc_dpl (s : State) (f : Ecc → Ecc) : (s.onEcc f).dpl = s.dpl := rfl
@[simp] theorem State.onEcc_ntc (s : State) (f : Ecc → Ecc) : (s.onEcc f).ntc = s.ntc := rfl
@[simp] theorem State.onEcc_gmu (s : State) (f : Ecc → Ecc) : (s.onEcc f).gmu = s.gmu := rfl
@[simp] theorem State.onEcc_ldc (s : State) (f : Ecc → Ecc) : (s.onEcc f).ldc = s.ldc := rfl
@[simp] theorem State.onEcc_ecc (s : State) (f : Ecc → Ecc) : (s.onEcc f).ecc = f s.ecc := rfl
@[simp] theorem State.onEcc_azu (s : State) (f : Ecc → Ecc) : (s.onEcc f).azu = s.azu := rfl
@[simp] theorem State.onEcc_slp (s : State) (f : Ecc → Ecc) : (s.onEcc f).slp = s.slp := rfl
@[simp] theorem State.onEcc_set (s : State) (f : Ecc → Ecc) : (s.onEcc f).set = s.set := rfl
@[simp] theorem State.onEcc_retained (s : State) (f : Ecc → Ecc) : (s.onEcc f).retained = s.retained := rfl
@[simp] theorem State.onEcc_ms (s : State) (f : Ecc → Ecc) : (s.onEcc f).ms = s.ms := rfl
@[simp] theorem State.onEcc_pins (s : State) (f : Ecc → Ecc) : (s.onEcc f).pins = s.pins := rfl
@[simp] theorem State.onEcc_pending (s : State) (f : Ecc → Ecc) : (s.onEcc f).pending = s.pending := rfl

/-! ### onAzu -/

@[simp] theorem State.onAzu_ct (s : State) (f : Azu → Azu) : (s.onAzu f).ct = s.ct := rfl
@[simp] theorem State.onAzu_dpl (s : State) (f : Azu → Azu) : (s.onAzu f).dpl = s.dpl := rfl
@[simp] theorem State.onAzu_ntc (s : State) (f : Azu → Azu) : (s.onAzu f).ntc = s.ntc := rfl
@[simp] theorem State.onAzu_gmu (s : State) (f : Azu → Azu) : (s.onAzu f).gmu = s.gmu := rfl
@[simp] theorem State.onAzu_ldc (s : State) (f : Azu → Azu) : (s.onAzu f).ldc = s.ldc := rfl
@[simp] theorem State.onAzu_ecc (s : State) (f : Azu → Azu) : (s.onAzu f).ecc = s.ecc := rfl
@[simp] theorem State.onAzu_azu (s : State) (f : Azu → Azu) : (s.onAzu f).azu = f s.azu := rfl
@[simp] theorem State.onAzu_slp (s : State) (f : Azu → Azu) : (s.onAzu f).slp = s.slp := rfl
@[simp] theorem State.onAzu_set (s : State) (f : Azu → Azu) : (s.onAzu f).set = s.set := rfl
@[simp] theorem State.onAzu_retained (s : State) (f : Azu → Azu) : (s.onAzu f).retained = s.retained := rfl
@[simp] theorem State.onAzu_ms (s : State) (f : Azu → Azu) : (s.onAzu f).ms = s.ms := rfl
@[simp] theorem State.onAzu_pins (s : State) (f : Azu → Azu) : (s.onAzu f).pins = s.pins := rfl
@[simp] theorem State.onAzu_pending (s : State) (f : Azu → Azu) : (s.onAzu f).pending = s.pending := rfl

/-! ### onSlp -/

@[simp] theorem State.onSlp_ct (s : State) (f : Slp → Slp) : (s.onSlp f).ct = s.ct := rfl
@[simp] theorem State.onSlp_dpl (s : State) (f : Slp → Slp) : (s.onSlp f).dpl = s.dpl := rfl
@[simp] theorem State.onSlp_ntc (s : State) (f : Slp → Slp) : (s.onSlp f).ntc = s.ntc := rfl
@[simp] theorem State.onSlp_gmu (s : State) (f : Slp → Slp) : (s.onSlp f).gmu = s.gmu := rfl
@[simp] theorem State.onSlp_ldc (s : State) (f : Slp → Slp) : (s.onSlp f).ldc = s.ldc := rfl
@[simp] theorem State.onSlp_ecc (s : State) (f : Slp → Slp) : (s.onSlp f).ecc = s.ecc := rfl
@[simp] theorem State.onSlp_azu (s : State) (f : Slp → Slp) : (s.onSlp f).azu = s.azu := rfl
@[simp] theorem State.onSlp_slp (s : State) (f : Slp → Slp) : (s.onSlp f).slp = f s.slp := rfl
@[simp] theorem State.onSlp_set (s : State) (f : Slp → Slp) : (s.onSlp f).set = s.set := rfl
@[simp] theorem State.onSlp_retained (s : State) (f : Slp → Slp) : (s.onSlp f).retained = s.retained := rfl
@[simp] theorem State.onSlp_ms (s : State) (f : Slp → Slp) : (s.onSlp f).ms = s.ms := rfl
@[simp] theorem State.onSlp_pins (s : State) (f : Slp → Slp) : (s.onSlp f).pins = s.pins := rfl
@[simp] theorem State.onSlp_pending (s : State) (f : Slp → Slp) : (s.onSlp f).pending = s.pending := rfl

/-! ### onSet -/

@[simp] theorem State.onSet_ct (s : State) (f : Settings → Settings) : (s.onSet f).ct = s.ct := rfl
@[simp] theorem State.onSet_dpl (s : State) (f : Settings → Settings) : (s.onSet f).dpl = s.dpl := rfl
@[simp] theorem State.onSet_ntc (s : State) (f : Settings → Settings) : (s.onSet f).ntc = s.ntc := rfl
@[simp] theorem State.onSet_gmu (s : State) (f : Settings → Settings) : (s.onSet f).gmu = s.gmu := rfl
@[simp] theorem State.onSet_ldc (s : State) (f : Settings → Settings) : (s.onSet f).ldc = s.ldc := rfl
@[simp] theorem State.onSet_ecc (s : State) (f : Settings → Settings) : (s.onSet f).ecc = s.ecc := rfl
@[simp] theorem State.onSet_azu (s : State) (f : Settings → Settings) : (s.onSet f).azu = s.azu := rfl
@[simp] theorem State.onSet_slp (s : State) (f : Settings → Settings) : (s.onSet f).slp = s.slp := rfl
@[simp] theorem State.onSet_set (s : State) (f : Settings → Settings) : (s.onSet f).set = f s.set := rfl
@[simp] theorem State.onSet_retained (s : State) (f : Settings → Settings) : (s.onSet f).retained = s.retained := rfl
@[simp] theorem State.onSet_ms (s : State) (f : Settings → Settings) : (s.onSet f).ms = s.ms := rfl
@[simp] theorem State.onSet_pins (s : State) (f : Settings → Settings) : (s.onSet f).pins = s.pins := rfl
@[simp] theorem State.onSet_pending (s : State) (f : Settings → Settings) : (s.onSet f).pending = s.pending := rfl

/-! ### onPins -/

@[simp] theorem State.onPins_ct (s : State) (f : Pins → Pins) : (s.onPins f).ct = s.ct := rfl
@[simp] theorem State.onPins_dpl (s : State) (f : Pins → Pins) : (s.onPins f).dpl = s.dpl := rfl
@[simp] theorem State.onPins_ntc (s : State) (f : Pins → Pins) : (s.onPins f).ntc = s.ntc := rfl
@[simp] theorem State.onPins_gmu (s : State) (f : Pins → Pins) : (s.onPins f).gmu = s.gmu := rfl
@[simp] theorem State.onPins_ldc (s : State) (f : Pins → Pins) : (s.onPins f).ldc = s.ldc := rfl
@[simp] theorem State.onPins_ecc (s : State) (f : Pins → Pins) : (s.onPins f).ecc = s.ecc := rfl
@[simp] theorem State.onPins_azu (s : State) (f : Pins → Pins) : (s.onPins f).azu = s.azu := rfl
@[simp] theorem State.onPins_slp (s : State) (f : Pins → Pins) : (s.onPins f).slp = s.slp := rfl
@[simp] theorem State.onPins_set (s : State) (f : Pins → Pins) : (s.onPins f).set = s.set := rfl
@[simp] theorem State.onPins_retained (s : State) (f : Pins → Pins) : (s.onPins f).retained = s.retained := rfl
@[simp] theorem State.onPins_ms (s : State) (f : Pins → Pins) : (s.onPins f).ms = s.ms := rfl
@[simp] theorem State.onPins_pins (s : State) (f : Pins → Pins) : (s.onPins f).pins = f s.pins := rfl
@[simp] theorem State.onPins_pending (s : State) (f : Pins → Pins) : (s.onPins f).pending = s.pending := rfl

/-! ### onLdc -/

@[simp] theorem State.onLdc_ct (s : State) (l : Lane) (f : Ldc → Ldc) : (s.onLdc l f).ct = s.ct := rfl
@[simp] theorem State.onLdc_dpl (s : State) (l : Lane) (f : Ldc → Ldc) : (s.onLdc l f).dpl = s.dpl := rfl
@[simp] theorem State.onLdc_ntc (s : State) (l : Lane) (f : Ldc → Ldc) : (s.onLdc l f).ntc = s.ntc := rfl
@[simp] theorem State.onLdc_gmu (s : State) (l : Lane) (f : Ldc → Ldc) : (s.onLdc l f).gmu = s.gmu := rfl
@[simp] theorem State.onLdc_ldc (s : State) (l : Lane) (f : Ldc → Ldc) : (s.onLdc l f).ldc = s.ldc.put l (f (s.ldc.get l)) := rfl
@[simp] theorem State.onLdc_ecc (s : State) (l : Lane) (f : Ldc → Ldc) : (s.onLdc l f).ecc = s.ecc := rfl
@[simp] theorem State.onLdc_azu (s : State) (l : Lane) (f : Ldc → Ldc) : (s.onLdc l f).azu = s.azu := rfl
@[simp] theorem State.onLdc_slp (s : State) (l : Lane) (f : Ldc → Ldc) : (s.onLdc l f).slp = s.slp := rfl
@[simp] theorem State.onLdc_set (s : State) (l : Lane) (f : Ldc → Ldc) : (s.onLdc l f).set = s.set := rfl
@[simp] theorem State.onLdc_retained (s : State) (l : Lane) (f : Ldc → Ldc) : (s.onLdc l f).retained = s.retained := rfl
@[simp] theorem State.onLdc_ms (s : State) (l : Lane) (f : Ldc → Ldc) : (s.onLdc l f).ms = s.ms := rfl
@[simp] theorem State.onLdc_pins (s : State) (l : Lane) (f : Ldc → Ldc) : (s.onLdc l f).pins = s.pins := rfl
@[simp] theorem State.onLdc_pending (s : State) (l : Lane) (f : Ldc → Ldc) : (s.onLdc l f).pending = s.pending := rfl

/-- A STACKER_WAIT written anew changes the wait alone (R79). -/
theorem Ntc.rebaseWait_eq (n : Ntc) (old new : Nat) :
    n.rebaseWait old new = { n with
      waitTimer := (n.rebaseWait old new).waitTimer, waitPast := (n.rebaseWait old new).waitPast } := by
  unfold Ntc.rebaseWait; split <;> rfl

@[simp] theorem Ntc.rebaseWait_pickFails (n : Ntc) (old new : Nat) :
    (n.rebaseWait old new).pickFails = n.pickFails := by
  rw [Ntc.rebaseWait_eq]

/-- While samples are taken the sampled item is the one the gauge holds (R27). -/
theorem State.sampledItem_of_sampling {s : State} {t : Transport} (h : s.sampling t = true) :
    s.sampledItem t = (s.gmu.get t).item := by
  simp [State.sampledItem, h]

/-- While none is taken there is none (R27). -/
theorem State.sampledItem_of_not_sampling {s : State} {t : Transport} (h : s.sampling t = false) :
    s.sampledItem t = none := by
  simp [State.sampledItem, h]

end Machine

end Sys2Proof
end

