-- ==== Sys2Proof/Laws/Custody.lean ====
section
/-! SUPPORT. What the custody table's primitive changes do, once for each: which record a handle names
after a write, a retirement or a creation, and what the lookups over the live records find. -/

namespace Sys2Proof.Machine

/-! ## Quotes -/

/-- After the quotes naming a stock were made INVALID no VALID one names it (R52). -/
theorem State.invalidateQuotes_spares (s : State) (h : Handle) :
    ∀ q ∈ (s.invalidateQuotes h).dpl.liveQuotes, q.valid = true → ∀ x ∈ q.parts, x.stock ≠ h := by
  intro q hq hv x hx hxh
  simp only [State.invalidateQuotes, State.onDpl, Dpl.liveQuotes, Vector.toList_map, List.mem_filterMap,
    List.mem_map, id_eq] at hq
  obtain ⟨_, ⟨o, -, rfl⟩, ho⟩ := hq
  obtain ⟨e, rfl, he⟩ := Option.map_eq_some_iff.mp ho
  split at he
  · subst he; simp at hv
  · next hn => subst he; exact hn (List.any_eq_true.mpr ⟨x, hx, by simp [hxh]⟩)

/-! ## Handles -/

@[simp] theorem handleGen_handleOf (g : Byte) (i : Nat) : handleGen (handleOf g i) = g := by
  unfold handleGen handleOf
  apply BitVec.eq_of_getLsbD_eq
  intro j hj
  rw [BitVec.getLsbD_extractLsb']
  refine (congrArg (decide (j < 8) && ·) BitVec.getLsbD_append).trans ?_
  simp [hj]

theorem handleSlot_handleOf (g : Byte) {i : Nat} (h : i < 256) : handleSlot (handleOf g i) = i := by
  unfold handleSlot handleOf
  have : (g ++ BitVec.ofNat 8 i).extractLsb' 0 8 = BitVec.ofNat 8 i := by
    apply BitVec.eq_of_getLsbD_eq
    intro j hj
    rw [BitVec.getLsbD_extractLsb']
    refine (congrArg (decide (j < 8) && ·) BitVec.getLsbD_append).trans ?_
    simp [hj]
  rw [this, BitVec.toNat_ofNat]
  omega

theorem handleSlot_lt (h : Handle) : handleSlot h < 256 := by
  unfold handleSlot
  have := (h.extractLsb' 0 8).isLt
  omega

/-- A handle is its generation and its slot (00, Handles). -/
theorem handle_ext {h k : Handle} (hg : handleGen h = handleGen k) (hs : handleSlot h = handleSlot k) :
    h = k := by
  unfold handleGen at hg
  unfold handleSlot at hs
  have hs' := BitVec.eq_of_toNat_eq hs
  apply BitVec.eq_of_getLsbD_eq
  intro i hi
  by_cases h8 : i < 8
  · have := congrArg (fun v => v.getLsbD i) hs'
    simpa [h8] using this
  · have := congrArg (fun v => v.getLsbD (i - 8)) hg
    have e : 8 + (i - 8) = i := by omega
    have l : i - 8 < 8 := by omega
    simpa [e, l] using this

/-! ## Finding a record -/

/-- What `Ct.find` answers, in terms of the slot (R4). -/
theorem Ct.find_eq_some (ct : Ct) (h : Handle) (r : Record) :
    ct.find h = some r ↔
      ∃ sl, ct.slots[handleSlot h]? = some sl ∧ sl.gen = handleGen h ∧ handleGen h ≠ 0 ∧
        sl.record = some r := by
  unfold Ct.find
  split
  · next sl hsl =>
    split
    · next c =>
      have h0 : handleGen h ≠ 0#8 := c.2
      simp [hsl, c.1, h0]
    · next c =>
      simp only [reduceCtorEq, false_iff, not_exists]
      rintro sl' ⟨h1, h2, h3, _⟩
      rw [hsl] at h1
      cases h1
      exact c ⟨h2, h3⟩
  · next hsl => simp [hsl]

/-- After a write of a live record's handle, the handle names the new record and every other handle what
it named before (R5, R8). -/
theorem Ct.find_write (ct : Ct) {h : Handle} {x : Record} (hx : ct.find h = some x) (r : Record)
    (k : Handle) : (ct.write h r).find k = if k = h then some r else ct.find k := by
  obtain ⟨sl, hsl, hg, h0, hr⟩ := (ct.find_eq_some h x).1 hx
  have hb : handleSlot h < 256 := handleSlot_lt h
  have hw : ct.write h r
      = { ct with slots := ct.slots.setIfInBounds (handleSlot h) ⟨handleGen h, some r⟩ } := by
    unfold Ct.write; rw [hx]
  rw [hw]
  unfold Ct.find
  by_cases hs : handleSlot k = handleSlot h
  · rw [hs, hsl]
    simp only [Vector.getElem?_setIfInBounds_self, hb, if_true]
    by_cases e : k = h
    · subst e
      have h0' : handleGen k ≠ 0#8 := h0
      simp [h0']
    · have hne : handleGen h ≠ handleGen k := fun c => e (handle_ext c.symm hs)
      simp [e, hg, hne]
  · have e : k ≠ h := fun c => hs (by rw [c])
    simp [Ne.symm hs, e]

/-- After a retirement the handle names nothing, and every other handle what it named before (R3, R4). -/
theorem Ct.find_retire (ct : Ct) {h : Handle} {x : Record} (hx : ct.find h = some x) (k : Handle) :
    (ct.retire h).find k = if k = h then none else ct.find k := by
  obtain ⟨sl, hsl, hg, h0, hr⟩ := (ct.find_eq_some h x).1 hx
  have hb : handleSlot h < 256 := handleSlot_lt h
  have hw : ct.retire h
      = { ct with slots := ct.slots.setIfInBounds (handleSlot h) ⟨nextGen (handleGen h), none⟩ } := by
    unfold Ct.retire; rw [hx]
  rw [hw]
  unfold Ct.find
  by_cases hs : handleSlot k = handleSlot h
  · rw [hs, hsl]
    simp only [Vector.getElem?_setIfInBounds_self, hb, if_true]
    by_cases e : k = h
    · subst e; simp
    · have hne : handleGen h ≠ handleGen k := fun c => e (handle_ext c.symm hs)
      simp [e, hg, hne]
  · have e : k ≠ h := fun c => hs (by rw [c])
    simp [Ne.symm hs, e]

/-- A retirement of a handle that names nothing changes nothing. -/
theorem Ct.retire_of_none (ct : Ct) {h : Handle} (hx : ct.find h = none) : ct.retire h = ct := by
  unfold Ct.retire; rw [hx]

/-- A write to a handle that names nothing changes nothing. -/
theorem Ct.write_of_none (ct : Ct) {h : Handle} (hx : ct.find h = none) (r : Record) :
    ct.write h r = ct := by
  unfold Ct.write; rw [hx]

/-- The free slot is the lowest (R2). -/
theorem Ct.freeSlot_eq_some (ct : Ct) (i : Nat) :
    ct.freeSlot = some i ↔
      ∃ sl, ct.slots[i]? = some sl ∧ sl.record = none ∧
        ∀ j, j < i → ∀ sl', ct.slots[j]? = some sl' → sl'.record ≠ none := by
  unfold Ct.freeSlot
  rw [List.findIdx?_eq_some_iff_getElem]
  constructor
  · rintro ⟨hi, hp, hlt⟩
    have hi' : i < 256 := by simpa using hi
    refine ⟨ct.slots[i], by simp [hi'], by simpa using hp, ?_⟩
    intro j hj sl' hsl'
    have hj' : j < 256 := by omega
    have := hlt j hj
    simp only [Vector.getElem?_eq_getElem hj', Option.some.injEq] at hsl'
    subst hsl'
    simpa using this
  · rintro ⟨sl, hsl, hn, hlt⟩
    obtain ⟨hi', rfl⟩ := Vector.getElem?_eq_some_iff.1 hsl
    refine ⟨by simpa using hi', by simpa using hn, ?_⟩
    intro j hj
    have hj' : j < 256 := by omega
    have := hlt j hj _ (Vector.getElem?_eq_getElem hj')
    simpa [Option.isNone_iff_eq_none] using this

/-- A creation takes the lowest free slot and answers the handle of its generation and number; the new
handle names the new record and every other handle what it named before (R2). -/
theorem Ct.find_create (ct : Ct) {i : Nat} (hi : ct.freeSlot = some i) (r : Record) {sl : Slot}
    (hsl : ct.slots[i]? = some sl) (hg : sl.gen ≠ 0) (k : Handle) :
    (ct.create r).2 = handleOf sl.gen i ∧
      (ct.create r).1.find k = if k = handleOf sl.gen i then some r else ct.find k := by
  obtain ⟨sl', h1, h2, -⟩ := (ct.freeSlot_eq_some i).1 hi
  rw [hsl] at h1
  cases h1
  obtain ⟨hb, -⟩ := Vector.getElem?_eq_some_iff.1 hsl
  have hc : ct.create r
      = ({ ct with slots := ct.slots.setIfInBounds i ⟨sl.gen, some r⟩ }, handleOf sl.gen i) := by
    unfold Ct.create
    rw [hi]
    simp only [hsl]
  rw [hc]
  refine ⟨rfl, ?_⟩
  unfold Ct.find
  by_cases hs : handleSlot k = i
  · rw [hs, hsl]
    simp only [Vector.getElem?_setIfInBounds_self, hb, if_true]
    by_cases e : handleGen k = sl.gen
    · have : k = handleOf sl.gen i :=
        handle_ext (by simp [e]) (by rw [handleSlot_handleOf _ hb, hs])
      have h0 : sl.gen ≠ 0#8 := hg
      simp [this, h0]
    · have hne : k ≠ handleOf sl.gen i := fun c => e (by rw [c]; simp)
      simp [hne, Ne.symm e]
  · have e : k ≠ handleOf sl.gen i := fun c => hs (by rw [c, handleSlot_handleOf _ hb])
    simp [Ne.symm hs, e]

/-- With no free slot a creation makes nothing (log entry 13). -/
theorem Ct.create_of_full (ct : Ct) (h : ct.freeSlot = none) (r : Record) : ct.create r = (ct, 0) := by
  unfold Ct.create; rw [h]

end Sys2Proof.Machine
end

