-- ==== Sys2Proof/Laws/Frames.lean ====
section
/-! SUPPORT. Frames: for each operation, one lemma that lists the blocks (and the parts of blocks) that it
leaves as they were. Later proofs cite these through `simp` and never unfold an operation for its frame. -/

namespace Sys2Proof.Machine

@[simp] theorem foldl_ct {α : Type} (l : List α) (f : State → α → State)
    (h : ∀ s a, (f s a).ct = s.ct) (s : State) : (l.foldl f s).ct = s.ct := by
  induction l generalizing s with
  | nil => rfl
  | cons a l ih => rw [List.foldl_cons, ih, h]

@[simp] theorem foldl_dpl {α : Type} (l : List α) (f : State → α → State)
    (h : ∀ s a, (f s a).dpl = s.dpl) (s : State) : (l.foldl f s).dpl = s.dpl := by
  induction l generalizing s with
  | nil => rfl
  | cons a l ih => rw [List.foldl_cons, ih, h]

@[simp] theorem foldl_ntc {α : Type} (l : List α) (f : State → α → State)
    (h : ∀ s a, (f s a).ntc = s.ntc) (s : State) : (l.foldl f s).ntc = s.ntc := by
  induction l generalizing s with
  | nil => rfl
  | cons a l ih => rw [List.foldl_cons, ih, h]

@[simp] theorem foldl_gmu {α : Type} (l : List α) (f : State → α → State)
    (h : ∀ s a, (f s a).gmu = s.gmu) (s : State) : (l.foldl f s).gmu = s.gmu := by
  induction l generalizing s with
  | nil => rfl
  | cons a l ih => rw [List.foldl_cons, ih, h]

@[simp] theorem foldl_ldc {α : Type} (l : List α) (f : State → α → State)
    (h : ∀ s a, (f s a).ldc = s.ldc) (s : State) : (l.foldl f s).ldc = s.ldc := by
  induction l generalizing s with
  | nil => rfl
  | cons a l ih => rw [List.foldl_cons, ih, h]

@[simp] theorem foldl_ecc {α : Type} (l : List α) (f : State → α → State)
    (h : ∀ s a, (f s a).ecc = s.ecc) (s : State) : (l.foldl f s).ecc = s.ecc := by
  induction l generalizing s with
  | nil => rfl
  | cons a l ih => rw [List.foldl_cons, ih, h]

@[simp] theorem foldl_azu {α : Type} (l : List α) (f : State → α → State)
    (h : ∀ s a, (f s a).azu = s.azu) (s : State) : (l.foldl f s).azu = s.azu := by
  induction l generalizing s with
  | nil => rfl
  | cons a l ih => rw [List.foldl_cons, ih, h]

@[simp] theorem foldl_slp {α : Type} (l : List α) (f : State → α → State)
    (h : ∀ s a, (f s a).slp = s.slp) (s : State) : (l.foldl f s).slp = s.slp := by
  induction l generalizing s with
  | nil => rfl
  | cons a l ih => rw [List.foldl_cons, ih, h]

@[simp] theorem foldl_set {α : Type} (l : List α) (f : State → α → State)
    (h : ∀ s a, (f s a).set = s.set) (s : State) : (l.foldl f s).set = s.set := by
  induction l generalizing s with
  | nil => rfl
  | cons a l ih => rw [List.foldl_cons, ih, h]

@[simp] theorem foldl_retained {α : Type} (l : List α) (f : State → α → State)
    (h : ∀ s a, (f s a).retained = s.retained) (s : State) : (l.foldl f s).retained = s.retained := by
  induction l generalizing s with
  | nil => rfl
  | cons a l ih => rw [List.foldl_cons, ih, h]

@[simp] theorem foldl_ms {α : Type} (l : List α) (f : State → α → State)
    (h : ∀ s a, (f s a).ms = s.ms) (s : State) : (l.foldl f s).ms = s.ms := by
  induction l generalizing s with
  | nil => rfl
  | cons a l ih => rw [List.foldl_cons, ih, h]

@[simp] theorem foldl_pins {α : Type} (l : List α) (f : State → α → State)
    (h : ∀ s a, (f s a).pins = s.pins) (s : State) : (l.foldl f s).pins = s.pins := by
  induction l generalizing s with
  | nil => rfl
  | cons a l ih => rw [List.foldl_cons, ih, h]

@[simp] theorem foldl_pending {α : Type} (l : List α) (f : State → α → State)
    (h : ∀ s a, (f s a).pending = s.pending) (s : State) : (l.foldl f s).pending = s.pending := by
  induction l generalizing s with
  | nil => rfl
  | cons a l ih => rw [List.foldl_cons, ih, h]

@[simp] theorem foldl_ct_holdDispenser {α : Type} (l : List α) (f : State → α → State)
    (h : ∀ s a, (f s a).ct.holdDispenser = s.ct.holdDispenser) (s : State) : (l.foldl f s).ct.holdDispenser = s.ct.holdDispenser := by
  induction l generalizing s with
  | nil => rfl
  | cons a l ih => rw [List.foldl_cons, ih, h]

@[simp] theorem foldl_ct_holdReject {α : Type} (l : List α) (f : State → α → State)
    (h : ∀ s a, (f s a).ct.holdReject = s.ct.holdReject) (s : State) : (l.foldl f s).ct.holdReject = s.ct.holdReject := by
  induction l generalizing s with
  | nil => rfl
  | cons a l ih => rw [List.foldl_cons, ih, h]

@[simp] theorem foldl_ct_holdCapture {α : Type} (l : List α) (f : State → α → State)
    (h : ∀ s a, (f s a).ct.holdCapture = s.ct.holdCapture) (s : State) : (l.foldl f s).ct.holdCapture = s.ct.holdCapture := by
  induction l generalizing s with
  | nil => rfl
  | cons a l ih => rw [List.foldl_cons, ih, h]

@[simp] theorem foldl_ct_holdLane {α : Type} (l : List α) (f : State → α → State)
    (h : ∀ s a, (f s a).ct.holdLane = s.ct.holdLane) (s : State) : (l.foldl f s).ct.holdLane = s.ct.holdLane := by
  induction l generalizing s with
  | nil => rfl
  | cons a l ih => rw [List.foldl_cons, ih, h]

@[simp] theorem foldl_ct_last {α : Type} (l : List α) (f : State → α → State)
    (h : ∀ s a, (f s a).ct.last = s.ct.last) (s : State) : (l.foldl f s).ct.last = s.ct.last := by
  induction l generalizing s with
  | nil => rfl
  | cons a l ih => rw [List.foldl_cons, ih, h]

@[simp] theorem foldl_dpl_quotes {α : Type} (l : List α) (f : State → α → State)
    (h : ∀ s a, (f s a).dpl.quotes = s.dpl.quotes) (s : State) : (l.foldl f s).dpl.quotes = s.dpl.quotes := by
  induction l generalizing s with
  | nil => rfl
  | cons a l ih => rw [List.foldl_cons, ih, h]

@[simp] theorem foldl_dpl_nextTag {α : Type} (l : List α) (f : State → α → State)
    (h : ∀ s a, (f s a).dpl.nextTag = s.dpl.nextTag) (s : State) : (l.foldl f s).dpl.nextTag = s.dpl.nextTag := by
  induction l generalizing s with
  | nil => rfl
  | cons a l ih => rw [List.foldl_cons, ih, h]

@[simp] theorem foldl_dpl_sequence {α : Type} (l : List α) (f : State → α → State)
    (h : ∀ s a, (f s a).dpl.sequence = s.dpl.sequence) (s : State) : (l.foldl f s).dpl.sequence = s.dpl.sequence := by
  induction l generalizing s with
  | nil => rfl
  | cons a l ih => rw [List.foldl_cons, ih, h]

@[simp] theorem foldl_ntc_pickFails {α : Type} (l : List α) (f : State → α → State)
    (h : ∀ s a, (f s a).ntc.pickFails = s.ntc.pickFails) (s : State) : (l.foldl f s).ntc.pickFails = s.ntc.pickFails := by
  induction l generalizing s with
  | nil => rfl
  | cons a l ih => rw [List.foldl_cons, ih, h]

@[simp] theorem foldl_gmu_envelope {α : Type} (l : List α) (f : State → α → State)
    (h : ∀ s a, (f s a).gmu.envelope = s.gmu.envelope) (s : State) : (l.foldl f s).gmu.envelope = s.gmu.envelope := by
  induction l generalizing s with
  | nil => rfl
  | cons a l ih => rw [List.foldl_cons, ih, h]

@[simp] theorem foldl_ecc_nextNumber {α : Type} (l : List α) (f : State → α → State)
    (h : ∀ s a, (f s a).ecc.nextNumber = s.ecc.nextNumber) (s : State) : (l.foldl f s).ecc.nextNumber = s.ecc.nextNumber := by
  induction l generalizing s with
  | nil => rfl
  | cons a l ih => rw [List.foldl_cons, ih, h]

@[simp] theorem foldl_ecc_lastServed {α : Type} (l : List α) (f : State → α → State)
    (h : ∀ s a, (f s a).ecc.lastServed = s.ecc.lastServed) (s : State) : (l.foldl f s).ecc.lastServed = s.ecc.lastServed := by
  induction l generalizing s with
  | nil => rfl
  | cons a l ih => rw [List.foldl_cons, ih, h]

@[simp] theorem foldl_azu_zones {α : Type} (l : List α) (f : State → α → State)
    (h : ∀ s a, (f s a).azu.zones = s.azu.zones) (s : State) : (l.foldl f s).azu.zones = s.azu.zones := by
  induction l generalizing s with
  | nil => rfl
  | cons a l ih => rw [List.foldl_cons, ih, h]

@[simp] theorem foldl_azu_cycle {α : Type} (l : List α) (f : State → α → State)
    (h : ∀ s a, (f s a).azu.cycle = s.azu.cycle) (s : State) : (l.foldl f s).azu.cycle = s.azu.cycle := by
  induction l generalizing s with
  | nil => rfl
  | cons a l ih => rw [List.foldl_cons, ih, h]

@[simp] theorem foldl_azu_grants {α : Type} (l : List α) (f : State → α → State)
    (h : ∀ s a, (f s a).azu.grants = s.azu.grants) (s : State) : (l.foldl f s).azu.grants = s.azu.grants := by
  induction l generalizing s with
  | nil => rfl
  | cons a l ih => rw [List.foldl_cons, ih, h]

@[simp] theorem foldl_slp_receiver {α : Type} (l : List α) (f : State → α → State)
    (h : ∀ s a, (f s a).slp.receiver = s.slp.receiver) (s : State) : (l.foldl f s).slp.receiver = s.slp.receiver := by
  induction l generalizing s with
  | nil => rfl
  | cons a l ih => rw [List.foldl_cons, ih, h]

@[simp] theorem foldl_slp_waiting {α : Type} (l : List α) (f : State → α → State)
    (h : ∀ s a, (f s a).slp.waiting = s.slp.waiting) (s : State) : (l.foldl f s).slp.waiting = s.slp.waiting := by
  induction l generalizing s with
  | nil => rfl
  | cons a l ih => rw [List.foldl_cons, ih, h]

@[simp] theorem foldl_slp_response {α : Type} (l : List α) (f : State → α → State)
    (h : ∀ s a, (f s a).slp.response = s.slp.response) (s : State) : (l.foldl f s).slp.response = s.slp.response := by
  induction l generalizing s with
  | nil => rfl
  | cons a l ih => rw [List.foldl_cons, ih, h]

@[simp] theorem foldl_pins_warning {α : Type} (l : List α) (f : State → α → State)
    (h : ∀ s a, (f s a).pins.warning = s.pins.warning) (s : State) : (l.foldl f s).pins.warning = s.pins.warning := by
  induction l generalizing s with
  | nil => rfl
  | cons a l ih => rw [List.foldl_cons, ih, h]

@[simp] theorem foldl_pins_presence {α : Type} (l : List α) (f : State → α → State)
    (h : ∀ s a, (f s a).pins.presence = s.pins.presence) (s : State) : (l.foldl f s).pins.presence = s.pins.presence := by
  induction l generalizing s with
  | nil => rfl
  | cons a l ih => rw [List.foldl_cons, ih, h]

@[simp] theorem foldl_pins_throat {α : Type} (l : List α) (f : State → α → State)
    (h : ∀ s a, (f s a).pins.throat = s.pins.throat) (s : State) : (l.foldl f s).pins.throat = s.pins.throat := by
  induction l generalizing s with
  | nil => rfl
  | cons a l ih => rw [List.foldl_cons, ih, h]

@[simp] theorem foldl_pins_tray {α : Type} (l : List α) (f : State → α → State)
    (h : ∀ s a, (f s a).pins.tray = s.pins.tray) (s : State) : (l.foldl f s).pins.tray = s.pins.tray := by
  induction l generalizing s with
  | nil => rfl
  | cons a l ih => rw [List.foldl_cons, ih, h]

@[simp] theorem whenDue_ct (s : State) (t : Timer) (e : State → State)
    (h : ∀ s, (e s).ct = s.ct) : (s.whenDue t e).ct = s.ct := by
  unfold State.whenDue; split <;> simp [h]

@[simp] theorem whenDue_dpl (s : State) (t : Timer) (e : State → State)
    (h : ∀ s, (e s).dpl = s.dpl) : (s.whenDue t e).dpl = s.dpl := by
  unfold State.whenDue; split <;> simp [h]

@[simp] theorem whenDue_ntc (s : State) (t : Timer) (e : State → State)
    (h : ∀ s, (e s).ntc = s.ntc) : (s.whenDue t e).ntc = s.ntc := by
  unfold State.whenDue; split <;> simp [h]

@[simp] theorem whenDue_gmu (s : State) (t : Timer) (e : State → State)
    (h : ∀ s, (e s).gmu = s.gmu) : (s.whenDue t e).gmu = s.gmu := by
  unfold State.whenDue; split <;> simp [h]

@[simp] theorem whenDue_ldc (s : State) (t : Timer) (e : State → State)
    (h : ∀ s, (e s).ldc = s.ldc) : (s.whenDue t e).ldc = s.ldc := by
  unfold State.whenDue; split <;> simp [h]

@[simp] theorem whenDue_ecc (s : State) (t : Timer) (e : State → State)
    (h : ∀ s, (e s).ecc = s.ecc) : (s.whenDue t e).ecc = s.ecc := by
  unfold State.whenDue; split <;> simp [h]

@[simp] theorem whenDue_azu (s : State) (t : Timer) (e : State → State)
    (h : ∀ s, (e s).azu = s.azu) : (s.whenDue t e).azu = s.azu := by
  unfold State.whenDue; split <;> simp [h]

@[simp] theorem whenDue_slp (s : State) (t : Timer) (e : State → State)
    (h : ∀ s, (e s).slp = s.slp) : (s.whenDue t e).slp = s.slp := by
  unfold State.whenDue; split <;> simp [h]

@[simp] theorem whenDue_set (s : State) (t : Timer) (e : State → State)
    (h : ∀ s, (e s).set = s.set) : (s.whenDue t e).set = s.set := by
  unfold State.whenDue; split <;> simp [h]

@[simp] theorem whenDue_retained (s : State) (t : Timer) (e : State → State)
    (h : ∀ s, (e s).retained = s.retained) : (s.whenDue t e).retained = s.retained := by
  unfold State.whenDue; split <;> simp [h]

@[simp] theorem whenDue_ms (s : State) (t : Timer) (e : State → State)
    (h : ∀ s, (e s).ms = s.ms) : (s.whenDue t e).ms = s.ms := by
  unfold State.whenDue; split <;> simp [h]

@[simp] theorem whenDue_pins (s : State) (t : Timer) (e : State → State)
    (h : ∀ s, (e s).pins = s.pins) : (s.whenDue t e).pins = s.pins := by
  unfold State.whenDue; split <;> simp [h]

@[simp] theorem whenDue_pending (s : State) (t : Timer) (e : State → State)
    (h : ∀ s, (e s).pending = s.pending) : (s.whenDue t e).pending = s.pending := by
  unfold State.whenDue; split <;> simp [h]

@[simp] theorem whenDue_ct_holdDispenser (s : State) (t : Timer) (e : State → State)
    (h : ∀ s, (e s).ct.holdDispenser = s.ct.holdDispenser) : (s.whenDue t e).ct.holdDispenser = s.ct.holdDispenser := by
  unfold State.whenDue; split <;> simp [h]

@[simp] theorem whenDue_ct_holdReject (s : State) (t : Timer) (e : State → State)
    (h : ∀ s, (e s).ct.holdReject = s.ct.holdReject) : (s.whenDue t e).ct.holdReject = s.ct.holdReject := by
  unfold State.whenDue; split <;> simp [h]

@[simp] theorem whenDue_ct_holdCapture (s : State) (t : Timer) (e : State → State)
    (h : ∀ s, (e s).ct.holdCapture = s.ct.holdCapture) : (s.whenDue t e).ct.holdCapture = s.ct.holdCapture := by
  unfold State.whenDue; split <;> simp [h]

@[simp] theorem whenDue_ct_holdLane (s : State) (t : Timer) (e : State → State)
    (h : ∀ s, (e s).ct.holdLane = s.ct.holdLane) : (s.whenDue t e).ct.holdLane = s.ct.holdLane := by
  unfold State.whenDue; split <;> simp [h]

@[simp] theorem whenDue_ct_last (s : State) (t : Timer) (e : State → State)
    (h : ∀ s, (e s).ct.last = s.ct.last) : (s.whenDue t e).ct.last = s.ct.last := by
  unfold State.whenDue; split <;> simp [h]

@[simp] theorem whenDue_dpl_quotes (s : State) (t : Timer) (e : State → State)
    (h : ∀ s, (e s).dpl.quotes = s.dpl.quotes) : (s.whenDue t e).dpl.quotes = s.dpl.quotes := by
  unfold State.whenDue; split <;> simp [h]

@[simp] theorem whenDue_dpl_nextTag (s : State) (t : Timer) (e : State → State)
    (h : ∀ s, (e s).dpl.nextTag = s.dpl.nextTag) : (s.whenDue t e).dpl.nextTag = s.dpl.nextTag := by
  unfold State.whenDue; split <;> simp [h]

@[simp] theorem whenDue_dpl_sequence (s : State) (t : Timer) (e : State → State)
    (h : ∀ s, (e s).dpl.sequence = s.dpl.sequence) : (s.whenDue t e).dpl.sequence = s.dpl.sequence := by
  unfold State.whenDue; split <;> simp [h]

@[simp] theorem whenDue_ntc_pickFails (s : State) (t : Timer) (e : State → State)
    (h : ∀ s, (e s).ntc.pickFails = s.ntc.pickFails) : (s.whenDue t e).ntc.pickFails = s.ntc.pickFails := by
  unfold State.whenDue; split <;> simp [h]

@[simp] theorem whenDue_gmu_envelope (s : State) (t : Timer) (e : State → State)
    (h : ∀ s, (e s).gmu.envelope = s.gmu.envelope) : (s.whenDue t e).gmu.envelope = s.gmu.envelope := by
  unfold State.whenDue; split <;> simp [h]

@[simp] theorem whenDue_ecc_nextNumber (s : State) (t : Timer) (e : State → State)
    (h : ∀ s, (e s).ecc.nextNumber = s.ecc.nextNumber) : (s.whenDue t e).ecc.nextNumber = s.ecc.nextNumber := by
  unfold State.whenDue; split <;> simp [h]

@[simp] theorem whenDue_ecc_lastServed (s : State) (t : Timer) (e : State → State)
    (h : ∀ s, (e s).ecc.lastServed = s.ecc.lastServed) : (s.whenDue t e).ecc.lastServed = s.ecc.lastServed := by
  unfold State.whenDue; split <;> simp [h]

@[simp] theorem whenDue_azu_zones (s : State) (t : Timer) (e : State → State)
    (h : ∀ s, (e s).azu.zones = s.azu.zones) : (s.whenDue t e).azu.zones = s.azu.zones := by
  unfold State.whenDue; split <;> simp [h]

@[simp] theorem whenDue_azu_cycle (s : State) (t : Timer) (e : State → State)
    (h : ∀ s, (e s).azu.cycle = s.azu.cycle) : (s.whenDue t e).azu.cycle = s.azu.cycle := by
  unfold State.whenDue; split <;> simp [h]

@[simp] theorem whenDue_azu_grants (s : State) (t : Timer) (e : State → State)
    (h : ∀ s, (e s).azu.grants = s.azu.grants) : (s.whenDue t e).azu.grants = s.azu.grants := by
  unfold State.whenDue; split <;> simp [h]

@[simp] theorem whenDue_slp_receiver (s : State) (t : Timer) (e : State → State)
    (h : ∀ s, (e s).slp.receiver = s.slp.receiver) : (s.whenDue t e).slp.receiver = s.slp.receiver := by
  unfold State.whenDue; split <;> simp [h]

@[simp] theorem whenDue_slp_waiting (s : State) (t : Timer) (e : State → State)
    (h : ∀ s, (e s).slp.waiting = s.slp.waiting) : (s.whenDue t e).slp.waiting = s.slp.waiting := by
  unfold State.whenDue; split <;> simp [h]

@[simp] theorem whenDue_slp_response (s : State) (t : Timer) (e : State → State)
    (h : ∀ s, (e s).slp.response = s.slp.response) : (s.whenDue t e).slp.response = s.slp.response := by
  unfold State.whenDue; split <;> simp [h]

@[simp] theorem whenDue_pins_warning (s : State) (t : Timer) (e : State → State)
    (h : ∀ s, (e s).pins.warning = s.pins.warning) : (s.whenDue t e).pins.warning = s.pins.warning := by
  unfold State.whenDue; split <;> simp [h]

@[simp] theorem whenDue_pins_presence (s : State) (t : Timer) (e : State → State)
    (h : ∀ s, (e s).pins.presence = s.pins.presence) : (s.whenDue t e).pins.presence = s.pins.presence := by
  unfold State.whenDue; split <;> simp [h]

@[simp] theorem whenDue_pins_throat (s : State) (t : Timer) (e : State → State)
    (h : ∀ s, (e s).pins.throat = s.pins.throat) : (s.whenDue t e).pins.throat = s.pins.throat := by
  unfold State.whenDue; split <;> simp [h]

@[simp] theorem whenDue_pins_tray (s : State) (t : Timer) (e : State → State)
    (h : ∀ s, (e s).pins.tray = s.pins.tray) : (s.whenDue t e).pins.tray = s.pins.tray := by
  unfold State.whenDue; split <;> simp [h]

@[simp] theorem Ct.write_frame (ct : Ct) (h : Handle) (r : Record) :
    (ct.write h r).holdDispenser = ct.holdDispenser ∧ (ct.write h r).holdReject = ct.holdReject ∧
    (ct.write h r).holdCapture = ct.holdCapture ∧ (ct.write h r).holdLane = ct.holdLane ∧
    (ct.write h r).last = ct.last := by
  unfold Ct.write
  split <;> simp

@[simp] theorem Ct.retire_frame (ct : Ct) (h : Handle) :
    (ct.retire h).holdDispenser = ct.holdDispenser ∧ (ct.retire h).holdReject = ct.holdReject ∧
    (ct.retire h).holdCapture = ct.holdCapture ∧ (ct.retire h).holdLane = ct.holdLane ∧
    (ct.retire h).last = ct.last := by
  unfold Ct.retire
  split <;> simp

@[simp] theorem Ct.mapRecords_frame (ct : Ct) (f : Record → Record) :
    (ct.mapRecords f).holdDispenser = ct.holdDispenser ∧ (ct.mapRecords f).holdReject = ct.holdReject ∧
    (ct.mapRecords f).holdCapture = ct.holdCapture ∧ (ct.mapRecords f).holdLane = ct.holdLane ∧
    (ct.mapRecords f).last = ct.last := by
  simp [Ct.mapRecords]

@[simp] theorem Ct.create_frame (ct : Ct) (r : Record) :
    (ct.create r).1.holdDispenser = ct.holdDispenser ∧ (ct.create r).1.holdReject = ct.holdReject ∧
    (ct.create r).1.holdCapture = ct.holdCapture ∧ (ct.create r).1.holdLane = ct.holdLane ∧
    (ct.create r).1.last = ct.last := by
  unfold Ct.create
  split
  · simp
  · split <;> simp

@[simp] theorem Ct.emptyBin_frame (ct : Ct) (h : Handle) :
    (ct.emptyBin h).holdDispenser = ct.holdDispenser ∧ (ct.emptyBin h).holdReject = ct.holdReject ∧
    (ct.emptyBin h).holdCapture = ct.holdCapture ∧ (ct.emptyBin h).holdLane = ct.holdLane ∧
    (ct.emptyBin h).last = ct.last := by
  have fold : ∀ (α : Type) (g : Ct → α → Ct),
      (∀ c a, (g c a).holdDispenser = c.holdDispenser ∧ (g c a).holdReject = c.holdReject ∧
        (g c a).holdCapture = c.holdCapture ∧ (g c a).holdLane = c.holdLane ∧
        (g c a).last = c.last) → ∀ (l : List α) (c : Ct),
      (l.foldl g c).holdDispenser = c.holdDispenser ∧ (l.foldl g c).holdReject = c.holdReject ∧
        (l.foldl g c).holdCapture = c.holdCapture ∧ (l.foldl g c).holdLane = c.holdLane ∧
        (l.foldl g c).last = c.last := by
    intro α g hg l
    induction l with
    | nil => intro c; simp
    | cons a l ih => intro c; rw [List.foldl_cons]; simp [ih, hg]
  unfold Ct.emptyBin
  simp [fold]

@[simp] theorem Dpl.addQuote_sequence (d : Dpl) (l : Lane) (a : Nat) (p : List QuotePart) :
    (d.addQuote l a p).sequence = d.sequence := rfl

@[simp] theorem Dpl.freeQuote_frame (d : Dpl) (l : Lane) (t : Nat) :
    (d.freeQuote l t).sequence = d.sequence ∧ (d.freeQuote l t).nextTag = d.nextTag := ⟨rfl, rfl⟩

@[simp] theorem State.setLaneFlag_frame (s : State) (l : Lane) (f : LaneFlag) :
    (s.setLaneFlag l f).ct = s.ct ∧ (s.setLaneFlag l f).dpl = s.dpl ∧ (s.setLaneFlag l f).ntc = s.ntc ∧
    (s.setLaneFlag l f).gmu = s.gmu ∧ (s.setLaneFlag l f).ldc = s.ldc ∧
    (s.setLaneFlag l f).ecc = s.ecc ∧ (s.setLaneFlag l f).azu = s.azu ∧
    (s.setLaneFlag l f).set = s.set ∧ (s.setLaneFlag l f).retained = s.retained ∧
    (s.setLaneFlag l f).ms = s.ms ∧ (s.setLaneFlag l f).pins = s.pins ∧
    (s.setLaneFlag l f).pending = s.pending ∧ (s.setLaneFlag l f).slp.receiver = s.slp.receiver ∧
    (s.setLaneFlag l f).slp.waiting = s.slp.waiting ∧ (s.setLaneFlag l f).slp.response = s.slp.response := by
  unfold State.setLaneFlag
  split <;> simp

@[simp] theorem State.setWallFlag_frame (s : State) (f : WallFlag) :
    (s.setWallFlag f).ct = s.ct ∧ (s.setWallFlag f).dpl = s.dpl ∧ (s.setWallFlag f).ntc = s.ntc ∧
    (s.setWallFlag f).gmu = s.gmu ∧ (s.setWallFlag f).ldc = s.ldc ∧ (s.setWallFlag f).ecc = s.ecc ∧
    (s.setWallFlag f).azu = s.azu ∧ (s.setWallFlag f).set = s.set ∧
    (s.setWallFlag f).retained = s.retained ∧ (s.setWallFlag f).ms = s.ms ∧
    (s.setWallFlag f).pins = s.pins ∧ (s.setWallFlag f).pending = s.pending ∧
    (s.setWallFlag f).slp.receiver = s.slp.receiver ∧ (s.setWallFlag f).slp.waiting = s.slp.waiting ∧
    (s.setWallFlag f).slp.response = s.slp.response := by
  simp [State.setWallFlag]

@[simp] theorem State.clearLaneFlags_frame (s : State) (l : Lane) :
    (s.clearLaneFlags l).ct = s.ct ∧ (s.clearLaneFlags l).dpl = s.dpl ∧
    (s.clearLaneFlags l).ntc = s.ntc ∧ (s.clearLaneFlags l).gmu = s.gmu ∧
    (s.clearLaneFlags l).ldc = s.ldc ∧ (s.clearLaneFlags l).ecc = s.ecc ∧
    (s.clearLaneFlags l).azu = s.azu ∧ (s.clearLaneFlags l).set = s.set ∧
    (s.clearLaneFlags l).retained = s.retained ∧ (s.clearLaneFlags l).ms = s.ms ∧
    (s.clearLaneFlags l).pins = s.pins ∧ (s.clearLaneFlags l).pending = s.pending ∧
    (s.clearLaneFlags l).slp.receiver = s.slp.receiver ∧
    (s.clearLaneFlags l).slp.waiting = s.slp.waiting ∧
    (s.clearLaneFlags l).slp.response = s.slp.response := by
  simp [State.clearLaneFlags]

@[simp] theorem State.invalidateQuotes_frame (s : State) (h : Handle) :
    (s.invalidateQuotes h).ct = s.ct ∧ (s.invalidateQuotes h).ntc = s.ntc ∧
    (s.invalidateQuotes h).gmu = s.gmu ∧ (s.invalidateQuotes h).ldc = s.ldc ∧
    (s.invalidateQuotes h).ecc = s.ecc ∧ (s.invalidateQuotes h).azu = s.azu ∧
    (s.invalidateQuotes h).slp = s.slp ∧ (s.invalidateQuotes h).set = s.set ∧
    (s.invalidateQuotes h).retained = s.retained ∧ (s.invalidateQuotes h).ms = s.ms ∧
    (s.invalidateQuotes h).pins = s.pins ∧ (s.invalidateQuotes h).pending = s.pending ∧
    (s.invalidateQuotes h).dpl.nextTag = s.dpl.nextTag ∧
    (s.invalidateQuotes h).dpl.sequence = s.dpl.sequence := by
  simp [State.invalidateQuotes]

@[simp] theorem State.invalidateAllQuotes_frame (s : State) :
    (s.invalidateAllQuotes).ct = s.ct ∧ (s.invalidateAllQuotes).ntc = s.ntc ∧
    (s.invalidateAllQuotes).gmu = s.gmu ∧ (s.invalidateAllQuotes).ldc = s.ldc ∧
    (s.invalidateAllQuotes).ecc = s.ecc ∧ (s.invalidateAllQuotes).azu = s.azu ∧
    (s.invalidateAllQuotes).slp = s.slp ∧ (s.invalidateAllQuotes).set = s.set ∧
    (s.invalidateAllQuotes).retained = s.retained ∧ (s.invalidateAllQuotes).ms = s.ms ∧
    (s.invalidateAllQuotes).pins = s.pins ∧ (s.invalidateAllQuotes).pending = s.pending ∧
    (s.invalidateAllQuotes).dpl.nextTag = s.dpl.nextTag ∧
    (s.invalidateAllQuotes).dpl.sequence = s.dpl.sequence := by
  simp [State.invalidateAllQuotes]

@[simp] theorem State.putStock_frame (s : State) (h : Handle) (new : Stock) :
    (s.putStock h new).ntc = s.ntc ∧ (s.putStock h new).gmu = s.gmu ∧ (s.putStock h new).ldc = s.ldc ∧
    (s.putStock h new).ecc = s.ecc ∧ (s.putStock h new).azu = s.azu ∧ (s.putStock h new).set = s.set ∧
    (s.putStock h new).retained = s.retained ∧ (s.putStock h new).ms = s.ms ∧
    (s.putStock h new).pins = s.pins ∧ (s.putStock h new).pending = s.pending ∧
    (s.putStock h new).ct.holdDispenser = s.ct.holdDispenser ∧
    (s.putStock h new).ct.holdReject = s.ct.holdReject ∧
    (s.putStock h new).ct.holdCapture = s.ct.holdCapture ∧
    (s.putStock h new).ct.holdLane = s.ct.holdLane ∧ (s.putStock h new).ct.last = s.ct.last ∧
    (s.putStock h new).dpl.nextTag = s.dpl.nextTag ∧ (s.putStock h new).dpl.sequence = s.dpl.sequence ∧
    (s.putStock h new).slp.receiver = s.slp.receiver ∧ (s.putStock h new).slp.waiting = s.slp.waiting ∧
    (s.putStock h new).slp.response = s.slp.response := by
  unfold State.putStock
  dsimp only
  (repeat' split) <;> simp

@[simp] theorem State.tallyStock_frame (s : State) (h : Handle) (f : Stock → Stock) :
    (s.tallyStock h f).ntc = s.ntc ∧ (s.tallyStock h f).gmu = s.gmu ∧ (s.tallyStock h f).ldc = s.ldc ∧
    (s.tallyStock h f).ecc = s.ecc ∧ (s.tallyStock h f).azu = s.azu ∧ (s.tallyStock h f).set = s.set ∧
    (s.tallyStock h f).retained = s.retained ∧ (s.tallyStock h f).ms = s.ms ∧
    (s.tallyStock h f).pins = s.pins ∧ (s.tallyStock h f).pending = s.pending ∧
    (s.tallyStock h f).ct.holdDispenser = s.ct.holdDispenser ∧
    (s.tallyStock h f).ct.holdReject = s.ct.holdReject ∧
    (s.tallyStock h f).ct.holdCapture = s.ct.holdCapture ∧
    (s.tallyStock h f).ct.holdLane = s.ct.holdLane ∧ (s.tallyStock h f).ct.last = s.ct.last ∧
    (s.tallyStock h f).dpl.nextTag = s.dpl.nextTag ∧ (s.tallyStock h f).dpl.sequence = s.dpl.sequence ∧
    (s.tallyStock h f).slp.receiver = s.slp.receiver ∧ (s.tallyStock h f).slp.waiting = s.slp.waiting ∧
    (s.tallyStock h f).slp.response = s.slp.response := by
  unfold State.tallyStock
  split <;> simp

@[simp] theorem State.retireBundle_frame (s : State) (h : Handle) (e : Ending) :
    (s.retireBundle h e).dpl = s.dpl ∧ (s.retireBundle h e).ntc = s.ntc ∧
    (s.retireBundle h e).gmu = s.gmu ∧ (s.retireBundle h e).ldc = s.ldc ∧
    (s.retireBundle h e).ecc = s.ecc ∧ (s.retireBundle h e).azu = s.azu ∧
    (s.retireBundle h e).set = s.set ∧ (s.retireBundle h e).retained = s.retained ∧
    (s.retireBundle h e).ms = s.ms ∧ (s.retireBundle h e).pins = s.pins ∧
    (s.retireBundle h e).pending = s.pending ∧
    (s.retireBundle h e).ct.holdDispenser = s.ct.holdDispenser ∧
    (s.retireBundle h e).ct.holdReject = s.ct.holdReject ∧
    (s.retireBundle h e).ct.holdCapture = s.ct.holdCapture ∧
    (s.retireBundle h e).ct.holdLane = s.ct.holdLane ∧
    (s.retireBundle h e).slp.receiver = s.slp.receiver ∧
    (s.retireBundle h e).slp.waiting = s.slp.waiting ∧
    (s.retireBundle h e).slp.response = s.slp.response := by
  unfold State.retireBundle
  split <;> simp

@[simp] theorem State.releaseParts_frame (s : State) (parts : List Part) :
    (s.releaseParts parts).ntc = s.ntc ∧ (s.releaseParts parts).gmu = s.gmu ∧
    (s.releaseParts parts).ldc = s.ldc ∧ (s.releaseParts parts).ecc = s.ecc ∧
    (s.releaseParts parts).azu = s.azu ∧ (s.releaseParts parts).set = s.set ∧
    (s.releaseParts parts).retained = s.retained ∧ (s.releaseParts parts).ms = s.ms ∧
    (s.releaseParts parts).pins = s.pins ∧ (s.releaseParts parts).pending = s.pending ∧
    (s.releaseParts parts).ct.holdDispenser = s.ct.holdDispenser ∧
    (s.releaseParts parts).ct.holdReject = s.ct.holdReject ∧
    (s.releaseParts parts).ct.holdCapture = s.ct.holdCapture ∧
    (s.releaseParts parts).ct.holdLane = s.ct.holdLane ∧ (s.releaseParts parts).ct.last = s.ct.last ∧
    (s.releaseParts parts).dpl.nextTag = s.dpl.nextTag ∧
    (s.releaseParts parts).dpl.sequence = s.dpl.sequence ∧
    (s.releaseParts parts).slp.receiver = s.slp.receiver ∧
    (s.releaseParts parts).slp.waiting = s.slp.waiting ∧
    (s.releaseParts parts).slp.response = s.slp.response := by
  simp [State.releaseParts]

@[simp] theorem State.cancelQueued_frame (s : State) (h : Handle) :
    (s.cancelQueued h).ntc = s.ntc ∧ (s.cancelQueued h).gmu = s.gmu ∧ (s.cancelQueued h).ldc = s.ldc ∧
    (s.cancelQueued h).ecc = s.ecc ∧ (s.cancelQueued h).azu = s.azu ∧ (s.cancelQueued h).set = s.set ∧
    (s.cancelQueued h).retained = s.retained ∧ (s.cancelQueued h).ms = s.ms ∧
    (s.cancelQueued h).pins = s.pins ∧ (s.cancelQueued h).pending = s.pending ∧
    (s.cancelQueued h).ct.holdDispenser = s.ct.holdDispenser ∧
    (s.cancelQueued h).ct.holdReject = s.ct.holdReject ∧
    (s.cancelQueued h).ct.holdCapture = s.ct.holdCapture ∧
    (s.cancelQueued h).ct.holdLane = s.ct.holdLane ∧ (s.cancelQueued h).dpl.nextTag = s.dpl.nextTag ∧
    (s.cancelQueued h).dpl.sequence = s.dpl.sequence ∧
    (s.cancelQueued h).slp.receiver = s.slp.receiver ∧ (s.cancelQueued h).slp.waiting = s.slp.waiting ∧
    (s.cancelQueued h).slp.response = s.slp.response := by
  unfold State.cancelQueued
  split <;> simp

@[simp] theorem State.cancelDrawing_frame (s : State) (h : Handle) :
    (s.cancelDrawing h).ntc = s.ntc ∧ (s.cancelDrawing h).gmu = s.gmu ∧
    (s.cancelDrawing h).ldc = s.ldc ∧ (s.cancelDrawing h).ecc = s.ecc ∧
    (s.cancelDrawing h).azu = s.azu ∧ (s.cancelDrawing h).set = s.set ∧
    (s.cancelDrawing h).retained = s.retained ∧ (s.cancelDrawing h).ms = s.ms ∧
    (s.cancelDrawing h).pins = s.pins ∧ (s.cancelDrawing h).pending = s.pending ∧
    (s.cancelDrawing h).ct.holdDispenser = s.ct.holdDispenser ∧
    (s.cancelDrawing h).ct.holdReject = s.ct.holdReject ∧
    (s.cancelDrawing h).ct.holdCapture = s.ct.holdCapture ∧
    (s.cancelDrawing h).ct.holdLane = s.ct.holdLane ∧ (s.cancelDrawing h).dpl.nextTag = s.dpl.nextTag ∧
    (s.cancelDrawing h).dpl.sequence = s.dpl.sequence ∧
    (s.cancelDrawing h).slp.receiver = s.slp.receiver ∧
    (s.cancelDrawing h).slp.waiting = s.slp.waiting ∧ (s.cancelDrawing h).slp.response = s.slp.response := by
  unfold State.cancelDrawing
  refine ⟨foldl_ntc _ _ ?_ _,
    foldl_gmu _ _ ?_ _,
    foldl_ldc _ _ ?_ _,
    foldl_ecc _ _ ?_ _,
    foldl_azu _ _ ?_ _,
    foldl_set _ _ ?_ _,
    foldl_retained _ _ ?_ _,
    foldl_ms _ _ ?_ _,
    foldl_pins _ _ ?_ _,
    foldl_pending _ _ ?_ _,
    foldl_ct_holdDispenser _ _ ?_ _,
    foldl_ct_holdReject _ _ ?_ _,
    foldl_ct_holdCapture _ _ ?_ _,
    foldl_ct_holdLane _ _ ?_ _,
    foldl_dpl_nextTag _ _ ?_ _,
    foldl_dpl_sequence _ _ ?_ _,
    foldl_slp_receiver _ _ ?_ _,
    foldl_slp_waiting _ _ ?_ _,
    foldl_slp_response _ _ ?_ _⟩ <;>
    (intro s a; (repeat' split) <;> simp)

@[simp] theorem State.changeStock_frame (s : State) (h : Handle) (f : Stock → Stock) :
    (s.changeStock h f).ntc = s.ntc ∧ (s.changeStock h f).gmu = s.gmu ∧
    (s.changeStock h f).ldc = s.ldc ∧ (s.changeStock h f).ecc = s.ecc ∧
    (s.changeStock h f).azu = s.azu ∧ (s.changeStock h f).set = s.set ∧
    (s.changeStock h f).retained = s.retained ∧ (s.changeStock h f).ms = s.ms ∧
    (s.changeStock h f).pins = s.pins ∧ (s.changeStock h f).pending = s.pending ∧
    (s.changeStock h f).ct.holdDispenser = s.ct.holdDispenser ∧
    (s.changeStock h f).ct.holdReject = s.ct.holdReject ∧
    (s.changeStock h f).ct.holdCapture = s.ct.holdCapture ∧
    (s.changeStock h f).ct.holdLane = s.ct.holdLane ∧ (s.changeStock h f).dpl.nextTag = s.dpl.nextTag ∧
    (s.changeStock h f).dpl.sequence = s.dpl.sequence ∧
    (s.changeStock h f).slp.receiver = s.slp.receiver ∧
    (s.changeStock h f).slp.waiting = s.slp.waiting ∧ (s.changeStock h f).slp.response = s.slp.response := by
  unfold State.changeStock
  (repeat' split) <;> simp

@[simp] theorem State.doubtStock_frame (s : State) (h : Handle) (c : DoubtCause) :
    (s.doubtStock h c).ntc = s.ntc ∧ (s.doubtStock h c).gmu = s.gmu ∧ (s.doubtStock h c).ldc = s.ldc ∧
    (s.doubtStock h c).ecc = s.ecc ∧ (s.doubtStock h c).azu = s.azu ∧ (s.doubtStock h c).set = s.set ∧
    (s.doubtStock h c).retained = s.retained ∧ (s.doubtStock h c).ms = s.ms ∧
    (s.doubtStock h c).pins = s.pins ∧ (s.doubtStock h c).pending = s.pending ∧
    (s.doubtStock h c).ct.holdDispenser = s.ct.holdDispenser ∧
    (s.doubtStock h c).ct.holdReject = s.ct.holdReject ∧
    (s.doubtStock h c).ct.holdCapture = s.ct.holdCapture ∧
    (s.doubtStock h c).ct.holdLane = s.ct.holdLane ∧ (s.doubtStock h c).dpl.nextTag = s.dpl.nextTag ∧
    (s.doubtStock h c).dpl.sequence = s.dpl.sequence ∧
    (s.doubtStock h c).slp.receiver = s.slp.receiver ∧ (s.doubtStock h c).slp.waiting = s.slp.waiting ∧
    (s.doubtStock h c).slp.response = s.slp.response := by
  simp [State.doubtStock]

@[simp] theorem State.doubtPlan_frame (s : State) (b : Bundle) (c : DoubtCause) :
    (s.doubtPlan b c).ntc = s.ntc ∧ (s.doubtPlan b c).gmu = s.gmu ∧ (s.doubtPlan b c).ldc = s.ldc ∧
    (s.doubtPlan b c).ecc = s.ecc ∧ (s.doubtPlan b c).azu = s.azu ∧ (s.doubtPlan b c).set = s.set ∧
    (s.doubtPlan b c).retained = s.retained ∧ (s.doubtPlan b c).ms = s.ms ∧
    (s.doubtPlan b c).pins = s.pins ∧ (s.doubtPlan b c).pending = s.pending ∧
    (s.doubtPlan b c).ct.holdDispenser = s.ct.holdDispenser ∧
    (s.doubtPlan b c).ct.holdReject = s.ct.holdReject ∧
    (s.doubtPlan b c).ct.holdCapture = s.ct.holdCapture ∧
    (s.doubtPlan b c).ct.holdLane = s.ct.holdLane ∧ (s.doubtPlan b c).dpl.nextTag = s.dpl.nextTag ∧
    (s.doubtPlan b c).dpl.sequence = s.dpl.sequence ∧ (s.doubtPlan b c).slp.receiver = s.slp.receiver ∧
    (s.doubtPlan b c).slp.waiting = s.slp.waiting ∧ (s.doubtPlan b c).slp.response = s.slp.response := by
  simp [State.doubtPlan]

@[simp] theorem State.onVault_frame (s : State) (f : Vault → Vault) :
    (s.onVault f).dpl = s.dpl ∧ (s.onVault f).ntc = s.ntc ∧ (s.onVault f).gmu = s.gmu ∧
    (s.onVault f).ldc = s.ldc ∧ (s.onVault f).ecc = s.ecc ∧ (s.onVault f).azu = s.azu ∧
    (s.onVault f).slp = s.slp ∧ (s.onVault f).set = s.set ∧ (s.onVault f).retained = s.retained ∧
    (s.onVault f).ms = s.ms ∧ (s.onVault f).pins = s.pins ∧ (s.onVault f).pending = s.pending ∧
    (s.onVault f).ct.holdDispenser = s.ct.holdDispenser ∧
    (s.onVault f).ct.holdReject = s.ct.holdReject ∧ (s.onVault f).ct.holdCapture = s.ct.holdCapture ∧
    (s.onVault f).ct.holdLane = s.ct.holdLane ∧ (s.onVault f).ct.last = s.ct.last := by
  unfold State.onVault
  split <;> simp

@[simp] theorem State.worsenVault_frame (s : State) (q : Quality) :
    (s.worsenVault q).dpl = s.dpl ∧ (s.worsenVault q).ntc = s.ntc ∧ (s.worsenVault q).gmu = s.gmu ∧
    (s.worsenVault q).ldc = s.ldc ∧ (s.worsenVault q).ecc = s.ecc ∧ (s.worsenVault q).azu = s.azu ∧
    (s.worsenVault q).slp = s.slp ∧ (s.worsenVault q).set = s.set ∧
    (s.worsenVault q).retained = s.retained ∧ (s.worsenVault q).ms = s.ms ∧
    (s.worsenVault q).pins = s.pins ∧ (s.worsenVault q).pending = s.pending ∧
    (s.worsenVault q).ct.holdDispenser = s.ct.holdDispenser ∧
    (s.worsenVault q).ct.holdReject = s.ct.holdReject ∧
    (s.worsenVault q).ct.holdCapture = s.ct.holdCapture ∧
    (s.worsenVault q).ct.holdLane = s.ct.holdLane ∧ (s.worsenVault q).ct.last = s.ct.last := by
  simp [State.worsenVault]

@[simp] theorem State.addVault_frame (s : State) (n : Nat) (q : Quality) :
    (s.addVault n q).dpl = s.dpl ∧ (s.addVault n q).ntc = s.ntc ∧ (s.addVault n q).gmu = s.gmu ∧
    (s.addVault n q).ldc = s.ldc ∧ (s.addVault n q).ecc = s.ecc ∧ (s.addVault n q).azu = s.azu ∧
    (s.addVault n q).slp = s.slp ∧ (s.addVault n q).set = s.set ∧
    (s.addVault n q).retained = s.retained ∧ (s.addVault n q).ms = s.ms ∧
    (s.addVault n q).pins = s.pins ∧ (s.addVault n q).pending = s.pending ∧
    (s.addVault n q).ct.holdDispenser = s.ct.holdDispenser ∧
    (s.addVault n q).ct.holdReject = s.ct.holdReject ∧
    (s.addVault n q).ct.holdCapture = s.ct.holdCapture ∧ (s.addVault n q).ct.holdLane = s.ct.holdLane ∧
    (s.addVault n q).ct.last = s.ct.last := by
  simp [State.addVault]

@[simp] theorem State.onBin_frame (s : State) (b : BinId) (f : Bin → Bin) :
    (s.onBin b f).dpl = s.dpl ∧ (s.onBin b f).ntc = s.ntc ∧ (s.onBin b f).gmu = s.gmu ∧
    (s.onBin b f).ldc = s.ldc ∧ (s.onBin b f).ecc = s.ecc ∧ (s.onBin b f).azu = s.azu ∧
    (s.onBin b f).slp = s.slp ∧ (s.onBin b f).set = s.set ∧ (s.onBin b f).retained = s.retained ∧
    (s.onBin b f).ms = s.ms ∧ (s.onBin b f).pins = s.pins ∧ (s.onBin b f).pending = s.pending ∧
    (s.onBin b f).ct.holdDispenser = s.ct.holdDispenser ∧
    (s.onBin b f).ct.holdReject = s.ct.holdReject ∧ (s.onBin b f).ct.holdCapture = s.ct.holdCapture ∧
    (s.onBin b f).ct.holdLane = s.ct.holdLane ∧ (s.onBin b f).ct.last = s.ct.last := by
  unfold State.onBin
  split <;> simp

@[simp] theorem State.doubtBin_frame (s : State) (b : BinId) (c : DoubtCause) :
    (s.doubtBin b c).dpl = s.dpl ∧ (s.doubtBin b c).ntc = s.ntc ∧ (s.doubtBin b c).gmu = s.gmu ∧
    (s.doubtBin b c).ldc = s.ldc ∧ (s.doubtBin b c).ecc = s.ecc ∧ (s.doubtBin b c).azu = s.azu ∧
    (s.doubtBin b c).slp = s.slp ∧ (s.doubtBin b c).set = s.set ∧
    (s.doubtBin b c).retained = s.retained ∧ (s.doubtBin b c).ms = s.ms ∧
    (s.doubtBin b c).pins = s.pins ∧ (s.doubtBin b c).pending = s.pending ∧
    (s.doubtBin b c).ct.holdDispenser = s.ct.holdDispenser ∧
    (s.doubtBin b c).ct.holdReject = s.ct.holdReject ∧
    (s.doubtBin b c).ct.holdCapture = s.ct.holdCapture ∧ (s.doubtBin b c).ct.holdLane = s.ct.holdLane ∧
    (s.doubtBin b c).ct.last = s.ct.last := by
  simp [State.doubtBin]

@[simp] theorem State.doubtActiveBin_frame (s : State) (c : DoubtCause) :
    (s.doubtActiveBin c).dpl = s.dpl ∧ (s.doubtActiveBin c).ntc = s.ntc ∧
    (s.doubtActiveBin c).gmu = s.gmu ∧ (s.doubtActiveBin c).ldc = s.ldc ∧
    (s.doubtActiveBin c).ecc = s.ecc ∧ (s.doubtActiveBin c).azu = s.azu ∧
    (s.doubtActiveBin c).slp = s.slp ∧ (s.doubtActiveBin c).set = s.set ∧
    (s.doubtActiveBin c).retained = s.retained ∧ (s.doubtActiveBin c).ms = s.ms ∧
    (s.doubtActiveBin c).pins = s.pins ∧ (s.doubtActiveBin c).pending = s.pending ∧
    (s.doubtActiveBin c).ct.holdDispenser = s.ct.holdDispenser ∧
    (s.doubtActiveBin c).ct.holdReject = s.ct.holdReject ∧
    (s.doubtActiveBin c).ct.holdCapture = s.ct.holdCapture ∧
    (s.doubtActiveBin c).ct.holdLane = s.ct.holdLane ∧ (s.doubtActiveBin c).ct.last = s.ct.last := by
  unfold State.doubtActiveBin
  split <;> simp

@[simp] theorem State.onBundle_frame (s : State) (h : Handle) (f : Bundle → Bundle) :
    (s.onBundle h f).dpl = s.dpl ∧ (s.onBundle h f).ntc = s.ntc ∧ (s.onBundle h f).gmu = s.gmu ∧
    (s.onBundle h f).ldc = s.ldc ∧ (s.onBundle h f).ecc = s.ecc ∧ (s.onBundle h f).azu = s.azu ∧
    (s.onBundle h f).slp = s.slp ∧ (s.onBundle h f).set = s.set ∧
    (s.onBundle h f).retained = s.retained ∧ (s.onBundle h f).ms = s.ms ∧
    (s.onBundle h f).pins = s.pins ∧ (s.onBundle h f).pending = s.pending ∧
    (s.onBundle h f).ct.holdDispenser = s.ct.holdDispenser ∧
    (s.onBundle h f).ct.holdReject = s.ct.holdReject ∧
    (s.onBundle h f).ct.holdCapture = s.ct.holdCapture ∧ (s.onBundle h f).ct.holdLane = s.ct.holdLane ∧
    (s.onBundle h f).ct.last = s.ct.last := by
  unfold State.onBundle
  split <;> simp

@[simp] theorem State.setBundleState_frame (s : State) (h : Handle) (st : BundleState) :
    (s.setBundleState h st).dpl = s.dpl ∧ (s.setBundleState h st).ntc = s.ntc ∧
    (s.setBundleState h st).gmu = s.gmu ∧ (s.setBundleState h st).ldc = s.ldc ∧
    (s.setBundleState h st).ecc = s.ecc ∧ (s.setBundleState h st).azu = s.azu ∧
    (s.setBundleState h st).slp = s.slp ∧ (s.setBundleState h st).set = s.set ∧
    (s.setBundleState h st).retained = s.retained ∧ (s.setBundleState h st).ms = s.ms ∧
    (s.setBundleState h st).pins = s.pins ∧ (s.setBundleState h st).pending = s.pending ∧
    (s.setBundleState h st).ct.holdDispenser = s.ct.holdDispenser ∧
    (s.setBundleState h st).ct.holdReject = s.ct.holdReject ∧
    (s.setBundleState h st).ct.holdCapture = s.ct.holdCapture ∧
    (s.setBundleState h st).ct.holdLane = s.ct.holdLane ∧ (s.setBundleState h st).ct.last = s.ct.last := by
  simp [State.setBundleState]

@[simp] theorem State.setTransitState_frame (s : State) (h : Handle) (st : TransitState) :
    (s.setTransitState h st).dpl = s.dpl ∧ (s.setTransitState h st).ntc = s.ntc ∧
    (s.setTransitState h st).gmu = s.gmu ∧ (s.setTransitState h st).ldc = s.ldc ∧
    (s.setTransitState h st).ecc = s.ecc ∧ (s.setTransitState h st).azu = s.azu ∧
    (s.setTransitState h st).set = s.set ∧ (s.setTransitState h st).retained = s.retained ∧
    (s.setTransitState h st).ms = s.ms ∧ (s.setTransitState h st).pins = s.pins ∧
    (s.setTransitState h st).pending = s.pending ∧
    (s.setTransitState h st).ct.holdDispenser = s.ct.holdDispenser ∧
    (s.setTransitState h st).ct.holdReject = s.ct.holdReject ∧
    (s.setTransitState h st).ct.holdCapture = s.ct.holdCapture ∧
    (s.setTransitState h st).ct.holdLane = s.ct.holdLane ∧
    (s.setTransitState h st).ct.last = s.ct.last ∧
    (s.setTransitState h st).slp.receiver = s.slp.receiver ∧
    (s.setTransitState h st).slp.waiting = s.slp.waiting ∧
    (s.setTransitState h st).slp.response = s.slp.response := by
  unfold State.setTransitState
  split <;> simp

@[simp] theorem State.retireTransit_frame (s : State) (h : Handle) :
    (s.retireTransit h).dpl = s.dpl ∧ (s.retireTransit h).ntc = s.ntc ∧
    (s.retireTransit h).gmu = s.gmu ∧ (s.retireTransit h).ldc = s.ldc ∧
    (s.retireTransit h).ecc = s.ecc ∧ (s.retireTransit h).azu = s.azu ∧
    (s.retireTransit h).set = s.set ∧ (s.retireTransit h).retained = s.retained ∧
    (s.retireTransit h).ms = s.ms ∧ (s.retireTransit h).pins = s.pins ∧
    (s.retireTransit h).pending = s.pending ∧
    (s.retireTransit h).ct.holdDispenser = s.ct.holdDispenser ∧
    (s.retireTransit h).ct.holdReject = s.ct.holdReject ∧
    (s.retireTransit h).ct.holdCapture = s.ct.holdCapture ∧
    (s.retireTransit h).ct.holdLane = s.ct.holdLane ∧ (s.retireTransit h).ct.last = s.ct.last ∧
    (s.retireTransit h).slp.receiver = s.slp.receiver ∧
    (s.retireTransit h).slp.waiting = s.slp.waiting ∧ (s.retireTransit h).slp.response = s.slp.response := by
  unfold State.retireTransit
  split <;> simp

@[simp] theorem State.createRecord_frame (s : State) (r : Record) :
    (s.createRecord r).1.dpl = s.dpl ∧ (s.createRecord r).1.ntc = s.ntc ∧
    (s.createRecord r).1.gmu = s.gmu ∧ (s.createRecord r).1.ldc = s.ldc ∧
    (s.createRecord r).1.ecc = s.ecc ∧ (s.createRecord r).1.azu = s.azu ∧
    (s.createRecord r).1.slp = s.slp ∧ (s.createRecord r).1.set = s.set ∧
    (s.createRecord r).1.retained = s.retained ∧ (s.createRecord r).1.ms = s.ms ∧
    (s.createRecord r).1.pins = s.pins ∧ (s.createRecord r).1.pending = s.pending ∧
    (s.createRecord r).1.ct.holdDispenser = s.ct.holdDispenser ∧
    (s.createRecord r).1.ct.holdReject = s.ct.holdReject ∧
    (s.createRecord r).1.ct.holdCapture = s.ct.holdCapture ∧
    (s.createRecord r).1.ct.holdLane = s.ct.holdLane ∧ (s.createRecord r).1.ct.last = s.ct.last := by
  simp [State.createRecord]

@[simp] theorem State.moveStacked_frame (s : State) (parts : List Part) (move : Stock → Nat → Stock) :
    (s.moveStacked parts move).ntc = s.ntc ∧ (s.moveStacked parts move).gmu = s.gmu ∧
    (s.moveStacked parts move).ldc = s.ldc ∧ (s.moveStacked parts move).ecc = s.ecc ∧
    (s.moveStacked parts move).azu = s.azu ∧ (s.moveStacked parts move).set = s.set ∧
    (s.moveStacked parts move).retained = s.retained ∧ (s.moveStacked parts move).ms = s.ms ∧
    (s.moveStacked parts move).pins = s.pins ∧ (s.moveStacked parts move).pending = s.pending ∧
    (s.moveStacked parts move).ct.holdDispenser = s.ct.holdDispenser ∧
    (s.moveStacked parts move).ct.holdReject = s.ct.holdReject ∧
    (s.moveStacked parts move).ct.holdCapture = s.ct.holdCapture ∧
    (s.moveStacked parts move).ct.holdLane = s.ct.holdLane ∧
    (s.moveStacked parts move).ct.last = s.ct.last ∧
    (s.moveStacked parts move).dpl.nextTag = s.dpl.nextTag ∧
    (s.moveStacked parts move).dpl.sequence = s.dpl.sequence ∧
    (s.moveStacked parts move).slp.receiver = s.slp.receiver ∧
    (s.moveStacked parts move).slp.waiting = s.slp.waiting ∧
    (s.moveStacked parts move).slp.response = s.slp.response := by
  simp [State.moveStacked]

@[simp] theorem State.takeBundle_frame (s : State) (h : Handle) (b : Bundle) :
    (s.takeBundle h b).ntc = s.ntc ∧ (s.takeBundle h b).gmu = s.gmu ∧ (s.takeBundle h b).ldc = s.ldc ∧
    (s.takeBundle h b).ecc = s.ecc ∧ (s.takeBundle h b).azu = s.azu ∧ (s.takeBundle h b).set = s.set ∧
    (s.takeBundle h b).retained = s.retained ∧ (s.takeBundle h b).ms = s.ms ∧
    (s.takeBundle h b).pins = s.pins ∧ (s.takeBundle h b).pending = s.pending ∧
    (s.takeBundle h b).ct.holdDispenser = s.ct.holdDispenser ∧
    (s.takeBundle h b).ct.holdReject = s.ct.holdReject ∧
    (s.takeBundle h b).ct.holdCapture = s.ct.holdCapture ∧
    (s.takeBundle h b).ct.holdLane = s.ct.holdLane ∧ (s.takeBundle h b).dpl.nextTag = s.dpl.nextTag ∧
    (s.takeBundle h b).dpl.sequence = s.dpl.sequence ∧
    (s.takeBundle h b).slp.receiver = s.slp.receiver ∧ (s.takeBundle h b).slp.waiting = s.slp.waiting ∧
    (s.takeBundle h b).slp.response = s.slp.response := by
  simp [State.takeBundle]

@[simp] theorem State.rejectStacked_frame (s : State) (b : Bundle) :
    (s.rejectStacked b).ntc = s.ntc ∧ (s.rejectStacked b).gmu = s.gmu ∧
    (s.rejectStacked b).ldc = s.ldc ∧ (s.rejectStacked b).ecc = s.ecc ∧
    (s.rejectStacked b).azu = s.azu ∧ (s.rejectStacked b).set = s.set ∧
    (s.rejectStacked b).retained = s.retained ∧ (s.rejectStacked b).ms = s.ms ∧
    (s.rejectStacked b).pins = s.pins ∧ (s.rejectStacked b).pending = s.pending ∧
    (s.rejectStacked b).ct.holdDispenser = s.ct.holdDispenser ∧
    (s.rejectStacked b).ct.holdReject = s.ct.holdReject ∧
    (s.rejectStacked b).ct.holdCapture = s.ct.holdCapture ∧
    (s.rejectStacked b).ct.holdLane = s.ct.holdLane ∧ (s.rejectStacked b).ct.last = s.ct.last ∧
    (s.rejectStacked b).dpl.nextTag = s.dpl.nextTag ∧
    (s.rejectStacked b).dpl.sequence = s.dpl.sequence ∧
    (s.rejectStacked b).slp.receiver = s.slp.receiver ∧
    (s.rejectStacked b).slp.waiting = s.slp.waiting ∧ (s.rejectStacked b).slp.response = s.slp.response := by
  simp [State.rejectStacked]

@[simp] theorem State.followVibration_frame (s : State) :
    (s.followVibration).ct = s.ct ∧ (s.followVibration).dpl = s.dpl ∧ (s.followVibration).ntc = s.ntc ∧
    (s.followVibration).gmu = s.gmu ∧ (s.followVibration).ldc = s.ldc ∧
    (s.followVibration).ecc = s.ecc ∧ (s.followVibration).slp = s.slp ∧
    (s.followVibration).set = s.set ∧ (s.followVibration).retained = s.retained ∧
    (s.followVibration).ms = s.ms ∧ (s.followVibration).pins = s.pins ∧
    (s.followVibration).pending = s.pending ∧ (s.followVibration).azu.zones = s.azu.zones ∧
    (s.followVibration).azu.cycle = s.azu.cycle ∧ (s.followVibration).azu.grants = s.azu.grants := by
  simp [State.followVibration]

@[simp] theorem State.startNoteMotor_frame (s : State) :
    (s.startNoteMotor).ct = s.ct ∧ (s.startNoteMotor).dpl = s.dpl ∧ (s.startNoteMotor).gmu = s.gmu ∧
    (s.startNoteMotor).ldc = s.ldc ∧ (s.startNoteMotor).ecc = s.ecc ∧ (s.startNoteMotor).slp = s.slp ∧
    (s.startNoteMotor).set = s.set ∧ (s.startNoteMotor).retained = s.retained ∧
    (s.startNoteMotor).ms = s.ms ∧ (s.startNoteMotor).pins = s.pins ∧
    (s.startNoteMotor).pending = s.pending ∧ (s.startNoteMotor).ntc.pickFails = s.ntc.pickFails ∧
    (s.startNoteMotor).azu.zones = s.azu.zones ∧ (s.startNoteMotor).azu.cycle = s.azu.cycle ∧
    (s.startNoteMotor).azu.grants = s.azu.grants := by
  simp [State.startNoteMotor]

@[simp] theorem State.stopNoteMotor_frame (s : State) :
    (s.stopNoteMotor).ct = s.ct ∧ (s.stopNoteMotor).dpl = s.dpl ∧ (s.stopNoteMotor).gmu = s.gmu ∧
    (s.stopNoteMotor).ldc = s.ldc ∧ (s.stopNoteMotor).ecc = s.ecc ∧ (s.stopNoteMotor).slp = s.slp ∧
    (s.stopNoteMotor).set = s.set ∧ (s.stopNoteMotor).retained = s.retained ∧
    (s.stopNoteMotor).ms = s.ms ∧ (s.stopNoteMotor).pins = s.pins ∧
    (s.stopNoteMotor).pending = s.pending ∧ (s.stopNoteMotor).ntc.pickFails = s.ntc.pickFails ∧
    (s.stopNoteMotor).azu.zones = s.azu.zones ∧ (s.stopNoteMotor).azu.cycle = s.azu.cycle ∧
    (s.stopNoteMotor).azu.grants = s.azu.grants := by
  simp [State.stopNoteMotor]

@[simp] theorem State.rerunNoteMotor_frame (s : State) :
    (s.rerunNoteMotor).ct = s.ct ∧ (s.rerunNoteMotor).dpl = s.dpl ∧ (s.rerunNoteMotor).gmu = s.gmu ∧
    (s.rerunNoteMotor).ldc = s.ldc ∧ (s.rerunNoteMotor).ecc = s.ecc ∧ (s.rerunNoteMotor).slp = s.slp ∧
    (s.rerunNoteMotor).set = s.set ∧ (s.rerunNoteMotor).retained = s.retained ∧
    (s.rerunNoteMotor).ms = s.ms ∧ (s.rerunNoteMotor).pins = s.pins ∧
    (s.rerunNoteMotor).pending = s.pending ∧ (s.rerunNoteMotor).ntc.pickFails = s.ntc.pickFails ∧
    (s.rerunNoteMotor).azu.zones = s.azu.zones ∧ (s.rerunNoteMotor).azu.cycle = s.azu.cycle ∧
    (s.rerunNoteMotor).azu.grants = s.azu.grants := by
  simp [State.rerunNoteMotor]

@[simp] theorem State.startDump_frame (s : State) :
    (s.startDump).ct = s.ct ∧ (s.startDump).dpl = s.dpl ∧ (s.startDump).gmu = s.gmu ∧
    (s.startDump).ldc = s.ldc ∧ (s.startDump).ecc = s.ecc ∧ (s.startDump).slp = s.slp ∧
    (s.startDump).set = s.set ∧ (s.startDump).retained = s.retained ∧ (s.startDump).ms = s.ms ∧
    (s.startDump).pins = s.pins ∧ (s.startDump).pending = s.pending ∧
    (s.startDump).ntc.pickFails = s.ntc.pickFails ∧ (s.startDump).azu.zones = s.azu.zones ∧
    (s.startDump).azu.cycle = s.azu.cycle ∧ (s.startDump).azu.grants = s.azu.grants := by
  simp [State.startDump]

@[simp] theorem State.stopDump_frame (s : State) :
    (s.stopDump).ct = s.ct ∧ (s.stopDump).dpl = s.dpl ∧ (s.stopDump).gmu = s.gmu ∧
    (s.stopDump).ldc = s.ldc ∧ (s.stopDump).ecc = s.ecc ∧ (s.stopDump).slp = s.slp ∧
    (s.stopDump).set = s.set ∧ (s.stopDump).retained = s.retained ∧ (s.stopDump).ms = s.ms ∧
    (s.stopDump).pins = s.pins ∧ (s.stopDump).pending = s.pending ∧
    (s.stopDump).ntc.pickFails = s.ntc.pickFails ∧ (s.stopDump).azu.zones = s.azu.zones ∧
    (s.stopDump).azu.cycle = s.azu.cycle ∧ (s.stopDump).azu.grants = s.azu.grants := by
  simp [State.stopDump]

@[simp] theorem State.openGate_frame (s : State) (l : Lane) :
    (s.openGate l).ct = s.ct ∧ (s.openGate l).dpl = s.dpl ∧ (s.openGate l).gmu = s.gmu ∧
    (s.openGate l).ldc = s.ldc ∧ (s.openGate l).ecc = s.ecc ∧ (s.openGate l).slp = s.slp ∧
    (s.openGate l).set = s.set ∧ (s.openGate l).retained = s.retained ∧ (s.openGate l).ms = s.ms ∧
    (s.openGate l).pins = s.pins ∧ (s.openGate l).pending = s.pending ∧
    (s.openGate l).ntc.pickFails = s.ntc.pickFails ∧ (s.openGate l).azu.zones = s.azu.zones ∧
    (s.openGate l).azu.cycle = s.azu.cycle ∧ (s.openGate l).azu.grants = s.azu.grants := by
  simp [State.openGate]

@[simp] theorem State.closeGate_frame (s : State) :
    (s.closeGate).ct = s.ct ∧ (s.closeGate).dpl = s.dpl ∧ (s.closeGate).gmu = s.gmu ∧
    (s.closeGate).ldc = s.ldc ∧ (s.closeGate).ecc = s.ecc ∧ (s.closeGate).slp = s.slp ∧
    (s.closeGate).set = s.set ∧ (s.closeGate).retained = s.retained ∧ (s.closeGate).ms = s.ms ∧
    (s.closeGate).pins = s.pins ∧ (s.closeGate).pending = s.pending ∧
    (s.closeGate).ntc.pickFails = s.ntc.pickFails ∧ (s.closeGate).azu.zones = s.azu.zones ∧
    (s.closeGate).azu.cycle = s.azu.cycle ∧ (s.closeGate).azu.grants = s.azu.grants := by
  simp [State.closeGate]

@[simp] theorem State.startEnvMotor_frame (s : State) :
    (s.startEnvMotor).ct = s.ct ∧ (s.startEnvMotor).dpl = s.dpl ∧ (s.startEnvMotor).ntc = s.ntc ∧
    (s.startEnvMotor).gmu = s.gmu ∧ (s.startEnvMotor).ldc = s.ldc ∧ (s.startEnvMotor).slp = s.slp ∧
    (s.startEnvMotor).set = s.set ∧ (s.startEnvMotor).retained = s.retained ∧
    (s.startEnvMotor).ms = s.ms ∧ (s.startEnvMotor).pins = s.pins ∧
    (s.startEnvMotor).pending = s.pending ∧ (s.startEnvMotor).ecc.nextNumber = s.ecc.nextNumber ∧
    (s.startEnvMotor).ecc.lastServed = s.ecc.lastServed ∧ (s.startEnvMotor).azu.zones = s.azu.zones ∧
    (s.startEnvMotor).azu.cycle = s.azu.cycle ∧ (s.startEnvMotor).azu.grants = s.azu.grants := by
  simp [State.startEnvMotor]

@[simp] theorem State.stopEnvMotor_frame (s : State) :
    (s.stopEnvMotor).ct = s.ct ∧ (s.stopEnvMotor).dpl = s.dpl ∧ (s.stopEnvMotor).ntc = s.ntc ∧
    (s.stopEnvMotor).gmu = s.gmu ∧ (s.stopEnvMotor).ldc = s.ldc ∧ (s.stopEnvMotor).slp = s.slp ∧
    (s.stopEnvMotor).set = s.set ∧ (s.stopEnvMotor).retained = s.retained ∧
    (s.stopEnvMotor).ms = s.ms ∧ (s.stopEnvMotor).pins = s.pins ∧
    (s.stopEnvMotor).pending = s.pending ∧ (s.stopEnvMotor).ecc.nextNumber = s.ecc.nextNumber ∧
    (s.stopEnvMotor).ecc.lastServed = s.ecc.lastServed ∧ (s.stopEnvMotor).azu.zones = s.azu.zones ∧
    (s.stopEnvMotor).azu.cycle = s.azu.cycle ∧ (s.stopEnvMotor).azu.grants = s.azu.grants := by
  simp [State.stopEnvMotor]

@[simp] theorem State.rerunEnvMotor_frame (s : State) :
    (s.rerunEnvMotor).ct = s.ct ∧ (s.rerunEnvMotor).dpl = s.dpl ∧ (s.rerunEnvMotor).ntc = s.ntc ∧
    (s.rerunEnvMotor).gmu = s.gmu ∧ (s.rerunEnvMotor).ldc = s.ldc ∧ (s.rerunEnvMotor).slp = s.slp ∧
    (s.rerunEnvMotor).set = s.set ∧ (s.rerunEnvMotor).retained = s.retained ∧
    (s.rerunEnvMotor).ms = s.ms ∧ (s.rerunEnvMotor).pins = s.pins ∧
    (s.rerunEnvMotor).pending = s.pending ∧ (s.rerunEnvMotor).ecc.nextNumber = s.ecc.nextNumber ∧
    (s.rerunEnvMotor).ecc.lastServed = s.ecc.lastServed ∧ (s.rerunEnvMotor).azu.zones = s.azu.zones ∧
    (s.rerunEnvMotor).azu.cycle = s.azu.cycle ∧ (s.rerunEnvMotor).azu.grants = s.azu.grants := by
  simp [State.rerunEnvMotor]

@[simp] theorem State.followForcing_frame (s : State) (l : Lane) :
    (s.followForcing l).ct = s.ct ∧ (s.followForcing l).dpl = s.dpl ∧ (s.followForcing l).ntc = s.ntc ∧
    (s.followForcing l).gmu = s.gmu ∧ (s.followForcing l).ldc = s.ldc ∧
    (s.followForcing l).ecc = s.ecc ∧ (s.followForcing l).slp = s.slp ∧
    (s.followForcing l).set = s.set ∧ (s.followForcing l).retained = s.retained ∧
    (s.followForcing l).ms = s.ms ∧ (s.followForcing l).pins = s.pins ∧
    (s.followForcing l).pending = s.pending ∧ (s.followForcing l).azu.zones = s.azu.zones ∧
    (s.followForcing l).azu.cycle = s.azu.cycle ∧ (s.followForcing l).azu.grants = s.azu.grants := by
  simp [State.followForcing]

@[simp] theorem State.driveDrawer_frame (s : State) (l : Lane) :
    (s.driveDrawer l).ct = s.ct ∧ (s.driveDrawer l).dpl = s.dpl ∧ (s.driveDrawer l).ntc = s.ntc ∧
    (s.driveDrawer l).gmu = s.gmu ∧ (s.driveDrawer l).ecc = s.ecc ∧ (s.driveDrawer l).slp = s.slp ∧
    (s.driveDrawer l).set = s.set ∧ (s.driveDrawer l).retained = s.retained ∧
    (s.driveDrawer l).ms = s.ms ∧ (s.driveDrawer l).pins = s.pins ∧
    (s.driveDrawer l).pending = s.pending ∧ (s.driveDrawer l).azu.zones = s.azu.zones ∧
    (s.driveDrawer l).azu.cycle = s.azu.cycle ∧ (s.driveDrawer l).azu.grants = s.azu.grants := by
  simp [State.driveDrawer]

@[simp] theorem State.stopDrawer_frame (s : State) (l : Lane) :
    (s.stopDrawer l).ct = s.ct ∧ (s.stopDrawer l).dpl = s.dpl ∧ (s.stopDrawer l).ntc = s.ntc ∧
    (s.stopDrawer l).gmu = s.gmu ∧ (s.stopDrawer l).ecc = s.ecc ∧ (s.stopDrawer l).slp = s.slp ∧
    (s.stopDrawer l).set = s.set ∧ (s.stopDrawer l).retained = s.retained ∧
    (s.stopDrawer l).ms = s.ms ∧ (s.stopDrawer l).pins = s.pins ∧
    (s.stopDrawer l).pending = s.pending ∧ (s.stopDrawer l).azu.zones = s.azu.zones ∧
    (s.stopDrawer l).azu.cycle = s.azu.cycle ∧ (s.stopDrawer l).azu.grants = s.azu.grants := by
  simp [State.stopDrawer]

@[simp] theorem State.runStart_frame (s : State) (t : Transport) :
    (s.runStart t).ct = s.ct ∧ (s.runStart t).dpl = s.dpl ∧ (s.runStart t).ntc = s.ntc ∧
    (s.runStart t).ldc = s.ldc ∧ (s.runStart t).ecc = s.ecc ∧ (s.runStart t).azu = s.azu ∧
    (s.runStart t).slp = s.slp ∧ (s.runStart t).set = s.set ∧ (s.runStart t).retained = s.retained ∧
    (s.runStart t).ms = s.ms ∧ (s.runStart t).pins = s.pins ∧ (s.runStart t).pending = s.pending := by
  simp [State.runStart]

@[simp] theorem State.runEnd_frame (s : State) (t : Transport) :
    (s.runEnd t).ct = s.ct ∧ (s.runEnd t).dpl = s.dpl ∧ (s.runEnd t).ntc = s.ntc ∧
    (s.runEnd t).ldc = s.ldc ∧ (s.runEnd t).ecc = s.ecc ∧ (s.runEnd t).azu = s.azu ∧
    (s.runEnd t).slp = s.slp ∧ (s.runEnd t).retained = s.retained ∧ (s.runEnd t).ms = s.ms ∧
    (s.runEnd t).pins = s.pins ∧ (s.runEnd t).pending = s.pending := by
  unfold State.runEnd
  split <;> simp

@[simp] theorem State.setMeasuring_frame (s : State) (t : Transport) (m : Bool) :
    (s.setMeasuring t m).ct = s.ct ∧ (s.setMeasuring t m).dpl = s.dpl ∧
    (s.setMeasuring t m).ntc = s.ntc ∧ (s.setMeasuring t m).ldc = s.ldc ∧
    (s.setMeasuring t m).ecc = s.ecc ∧ (s.setMeasuring t m).azu = s.azu ∧
    (s.setMeasuring t m).slp = s.slp ∧ (s.setMeasuring t m).set = s.set ∧
    (s.setMeasuring t m).retained = s.retained ∧ (s.setMeasuring t m).ms = s.ms ∧
    (s.setMeasuring t m).pins = s.pins ∧ (s.setMeasuring t m).pending = s.pending := by
  simp [State.setMeasuring]

@[simp] theorem State.startNoteLeader_frame (s : State) :
    (s.startNoteLeader).ct = s.ct ∧ (s.startNoteLeader).dpl = s.dpl ∧ (s.startNoteLeader).ldc = s.ldc ∧
    (s.startNoteLeader).ecc = s.ecc ∧ (s.startNoteLeader).slp = s.slp ∧
    (s.startNoteLeader).set = s.set ∧ (s.startNoteLeader).retained = s.retained ∧
    (s.startNoteLeader).ms = s.ms ∧ (s.startNoteLeader).pins = s.pins ∧
    (s.startNoteLeader).pending = s.pending ∧ (s.startNoteLeader).ntc.pickFails = s.ntc.pickFails ∧
    (s.startNoteLeader).azu.zones = s.azu.zones ∧ (s.startNoteLeader).azu.cycle = s.azu.cycle ∧
    (s.startNoteLeader).azu.grants = s.azu.grants := by
  simp [State.startNoteLeader]

@[simp] theorem State.enterNoteLeader_frame (s : State) :
    (s.enterNoteLeader).ct = s.ct ∧ (s.enterNoteLeader).dpl = s.dpl ∧ (s.enterNoteLeader).ldc = s.ldc ∧
    (s.enterNoteLeader).ecc = s.ecc ∧ (s.enterNoteLeader).slp = s.slp ∧
    (s.enterNoteLeader).set = s.set ∧ (s.enterNoteLeader).retained = s.retained ∧
    (s.enterNoteLeader).ms = s.ms ∧ (s.enterNoteLeader).pins = s.pins ∧
    (s.enterNoteLeader).pending = s.pending ∧ (s.enterNoteLeader).ntc.pickFails = s.ntc.pickFails ∧
    (s.enterNoteLeader).azu.zones = s.azu.zones ∧ (s.enterNoteLeader).azu.cycle = s.azu.cycle ∧
    (s.enterNoteLeader).azu.grants = s.azu.grants := by
  unfold State.enterNoteLeader
  (repeat' split) <;> simp

@[simp] theorem State.takeFromQueue_frame (s : State) (h : Handle) :
    (s.takeFromQueue h).ldc = s.ldc ∧ (s.takeFromQueue h).ecc = s.ecc ∧
    (s.takeFromQueue h).slp = s.slp ∧ (s.takeFromQueue h).set = s.set ∧
    (s.takeFromQueue h).retained = s.retained ∧ (s.takeFromQueue h).ms = s.ms ∧
    (s.takeFromQueue h).pins = s.pins ∧ (s.takeFromQueue h).pending = s.pending ∧
    (s.takeFromQueue h).ct.holdDispenser = s.ct.holdDispenser ∧
    (s.takeFromQueue h).ct.holdReject = s.ct.holdReject ∧
    (s.takeFromQueue h).ct.holdCapture = s.ct.holdCapture ∧
    (s.takeFromQueue h).ct.holdLane = s.ct.holdLane ∧ (s.takeFromQueue h).ct.last = s.ct.last ∧
    (s.takeFromQueue h).dpl.quotes = s.dpl.quotes ∧ (s.takeFromQueue h).dpl.nextTag = s.dpl.nextTag ∧
    (s.takeFromQueue h).dpl.sequence = s.dpl.sequence ∧
    (s.takeFromQueue h).ntc.pickFails = s.ntc.pickFails ∧ (s.takeFromQueue h).azu.zones = s.azu.zones ∧
    (s.takeFromQueue h).azu.cycle = s.azu.cycle ∧ (s.takeFromQueue h).azu.grants = s.azu.grants := by
  simp [State.takeFromQueue]

@[simp] theorem State.examineQueue_frame (s : State) :
    (s.examineQueue).ldc = s.ldc ∧ (s.examineQueue).ecc = s.ecc ∧ (s.examineQueue).set = s.set ∧
    (s.examineQueue).retained = s.retained ∧ (s.examineQueue).ms = s.ms ∧
    (s.examineQueue).pins = s.pins ∧ (s.examineQueue).pending = s.pending ∧
    (s.examineQueue).ct.holdDispenser = s.ct.holdDispenser ∧
    (s.examineQueue).ct.holdReject = s.ct.holdReject ∧
    (s.examineQueue).ct.holdCapture = s.ct.holdCapture ∧ (s.examineQueue).ct.holdLane = s.ct.holdLane ∧
    (s.examineQueue).ct.last = s.ct.last ∧ (s.examineQueue).dpl.quotes = s.dpl.quotes ∧
    (s.examineQueue).dpl.nextTag = s.dpl.nextTag ∧ (s.examineQueue).dpl.sequence = s.dpl.sequence ∧
    (s.examineQueue).ntc.pickFails = s.ntc.pickFails ∧ (s.examineQueue).azu.zones = s.azu.zones ∧
    (s.examineQueue).azu.cycle = s.azu.cycle ∧ (s.examineQueue).azu.grants = s.azu.grants ∧
    (s.examineQueue).slp.receiver = s.slp.receiver ∧ (s.examineQueue).slp.waiting = s.slp.waiting ∧
    (s.examineQueue).slp.response = s.slp.response := by
  unfold State.examineQueue
  (repeat' split) <;> simp

@[simp] theorem State.enterNoteIdle_frame (s : State) :
    (s.enterNoteIdle).ldc = s.ldc ∧ (s.enterNoteIdle).ecc = s.ecc ∧ (s.enterNoteIdle).set = s.set ∧
    (s.enterNoteIdle).retained = s.retained ∧ (s.enterNoteIdle).ms = s.ms ∧
    (s.enterNoteIdle).pins = s.pins ∧ (s.enterNoteIdle).pending = s.pending ∧
    (s.enterNoteIdle).ct.holdDispenser = s.ct.holdDispenser ∧
    (s.enterNoteIdle).ct.holdReject = s.ct.holdReject ∧
    (s.enterNoteIdle).ct.holdCapture = s.ct.holdCapture ∧
    (s.enterNoteIdle).ct.holdLane = s.ct.holdLane ∧ (s.enterNoteIdle).ct.last = s.ct.last ∧
    (s.enterNoteIdle).dpl.quotes = s.dpl.quotes ∧ (s.enterNoteIdle).dpl.nextTag = s.dpl.nextTag ∧
    (s.enterNoteIdle).dpl.sequence = s.dpl.sequence ∧
    (s.enterNoteIdle).ntc.pickFails = s.ntc.pickFails ∧ (s.enterNoteIdle).azu.zones = s.azu.zones ∧
    (s.enterNoteIdle).azu.cycle = s.azu.cycle ∧ (s.enterNoteIdle).azu.grants = s.azu.grants ∧
    (s.enterNoteIdle).slp.receiver = s.slp.receiver ∧ (s.enterNoteIdle).slp.waiting = s.slp.waiting ∧
    (s.enterNoteIdle).slp.response = s.slp.response := by
  simp [State.enterNoteIdle]

@[simp] theorem State.commitPlan_frame (s : State) (l : Lane) (amount : Nat) (parts : List QuotePart) :
    (s.commitPlan l amount parts).1.ntc = s.ntc ∧ (s.commitPlan l amount parts).1.gmu = s.gmu ∧
    (s.commitPlan l amount parts).1.ldc = s.ldc ∧ (s.commitPlan l amount parts).1.ecc = s.ecc ∧
    (s.commitPlan l amount parts).1.azu = s.azu ∧ (s.commitPlan l amount parts).1.set = s.set ∧
    (s.commitPlan l amount parts).1.retained = s.retained ∧ (s.commitPlan l amount parts).1.ms = s.ms ∧
    (s.commitPlan l amount parts).1.pins = s.pins ∧
    (s.commitPlan l amount parts).1.pending = s.pending ∧
    (s.commitPlan l amount parts).1.ct.holdDispenser = s.ct.holdDispenser ∧
    (s.commitPlan l amount parts).1.ct.holdReject = s.ct.holdReject ∧
    (s.commitPlan l amount parts).1.ct.holdCapture = s.ct.holdCapture ∧
    (s.commitPlan l amount parts).1.ct.holdLane = s.ct.holdLane ∧
    (s.commitPlan l amount parts).1.ct.last = s.ct.last ∧
    (s.commitPlan l amount parts).1.dpl.nextTag = s.dpl.nextTag ∧
    (s.commitPlan l amount parts).1.slp.receiver = s.slp.receiver ∧
    (s.commitPlan l amount parts).1.slp.waiting = s.slp.waiting ∧
    (s.commitPlan l amount parts).1.slp.response = s.slp.response := by
  simp [State.commitPlan]

@[simp] theorem State.haltNote_frame (s : State) :
    (s.haltNote).ct = s.ct ∧ (s.haltNote).dpl = s.dpl ∧ (s.haltNote).ldc = s.ldc ∧
    (s.haltNote).ecc = s.ecc ∧ (s.haltNote).slp = s.slp ∧ (s.haltNote).retained = s.retained ∧
    (s.haltNote).ms = s.ms ∧ (s.haltNote).pins = s.pins ∧ (s.haltNote).pending = s.pending ∧
    (s.haltNote).ntc.pickFails = s.ntc.pickFails ∧ (s.haltNote).azu.zones = s.azu.zones ∧
    (s.haltNote).azu.cycle = s.azu.cycle ∧ (s.haltNote).azu.grants = s.azu.grants := by
  simp [State.haltNote]

@[simp] theorem State.commandPick_frame (s : State) :
    (s.commandPick).ct = s.ct ∧ (s.commandPick).dpl = s.dpl ∧ (s.commandPick).gmu = s.gmu ∧
    (s.commandPick).ldc = s.ldc ∧ (s.commandPick).ecc = s.ecc ∧ (s.commandPick).azu = s.azu ∧
    (s.commandPick).slp = s.slp ∧ (s.commandPick).set = s.set ∧ (s.commandPick).retained = s.retained ∧
    (s.commandPick).ms = s.ms ∧ (s.commandPick).pins = s.pins ∧ (s.commandPick).pending = s.pending ∧
    (s.commandPick).ntc.pickFails = s.ntc.pickFails := by
  unfold State.commandPick
  (repeat' split) <;> simp

@[simp] theorem State.enterDiverting_frame (s : State) :
    (s.enterDiverting).ct = s.ct ∧ (s.enterDiverting).dpl = s.dpl ∧ (s.enterDiverting).gmu = s.gmu ∧
    (s.enterDiverting).ldc = s.ldc ∧ (s.enterDiverting).ecc = s.ecc ∧ (s.enterDiverting).slp = s.slp ∧
    (s.enterDiverting).set = s.set ∧ (s.enterDiverting).retained = s.retained ∧
    (s.enterDiverting).ms = s.ms ∧ (s.enterDiverting).pins = s.pins ∧
    (s.enterDiverting).pending = s.pending ∧ (s.enterDiverting).ntc.pickFails = s.ntc.pickFails ∧
    (s.enterDiverting).azu.zones = s.azu.zones ∧ (s.enterDiverting).azu.cycle = s.azu.cycle ∧
    (s.enterDiverting).azu.grants = s.azu.grants := by
  unfold State.enterDiverting
  dsimp only
  (repeat' split) <;> simp

@[simp] theorem State.endBundle_frame (s : State) (e : Ending) :
    (s.endBundle e).ldc = s.ldc ∧ (s.endBundle e).ecc = s.ecc ∧ (s.endBundle e).retained = s.retained ∧
    (s.endBundle e).ms = s.ms ∧ (s.endBundle e).pins = s.pins ∧ (s.endBundle e).pending = s.pending ∧
    (s.endBundle e).ct.holdDispenser = s.ct.holdDispenser ∧
    (s.endBundle e).ct.holdReject = s.ct.holdReject ∧
    (s.endBundle e).ct.holdCapture = s.ct.holdCapture ∧ (s.endBundle e).ct.holdLane = s.ct.holdLane ∧
    (s.endBundle e).dpl.nextTag = s.dpl.nextTag ∧ (s.endBundle e).dpl.sequence = s.dpl.sequence ∧
    (s.endBundle e).ntc.pickFails = s.ntc.pickFails ∧ (s.endBundle e).azu.zones = s.azu.zones ∧
    (s.endBundle e).azu.cycle = s.azu.cycle ∧ (s.endBundle e).azu.grants = s.azu.grants ∧
    (s.endBundle e).slp.receiver = s.slp.receiver ∧ (s.endBundle e).slp.waiting = s.slp.waiting ∧
    (s.endBundle e).slp.response = s.slp.response := by
  unfold State.endBundle
  dsimp only
  (repeat' split) <;> simp

@[simp] theorem State.decideEnding_frame (s : State) (e : Ending) :
    (s.decideEnding e).ldc = s.ldc ∧ (s.decideEnding e).ecc = s.ecc ∧
    (s.decideEnding e).retained = s.retained ∧ (s.decideEnding e).ms = s.ms ∧
    (s.decideEnding e).pins = s.pins ∧ (s.decideEnding e).pending = s.pending ∧
    (s.decideEnding e).ct.holdDispenser = s.ct.holdDispenser ∧
    (s.decideEnding e).ct.holdReject = s.ct.holdReject ∧
    (s.decideEnding e).ct.holdCapture = s.ct.holdCapture ∧
    (s.decideEnding e).ct.holdLane = s.ct.holdLane ∧ (s.decideEnding e).dpl.nextTag = s.dpl.nextTag ∧
    (s.decideEnding e).dpl.sequence = s.dpl.sequence ∧
    (s.decideEnding e).ntc.pickFails = s.ntc.pickFails ∧ (s.decideEnding e).azu.zones = s.azu.zones ∧
    (s.decideEnding e).azu.cycle = s.azu.cycle ∧ (s.decideEnding e).azu.grants = s.azu.grants ∧
    (s.decideEnding e).slp.receiver = s.slp.receiver ∧ (s.decideEnding e).slp.waiting = s.slp.waiting ∧
    (s.decideEnding e).slp.response = s.slp.response := by
  unfold State.decideEnding
  (repeat' split) <;> simp

@[simp] theorem State.cancelInTransport_frame (s : State) :
    (s.cancelInTransport).ldc = s.ldc ∧ (s.cancelInTransport).ecc = s.ecc ∧
    (s.cancelInTransport).retained = s.retained ∧ (s.cancelInTransport).ms = s.ms ∧
    (s.cancelInTransport).pins = s.pins ∧ (s.cancelInTransport).pending = s.pending ∧
    (s.cancelInTransport).ct.holdDispenser = s.ct.holdDispenser ∧
    (s.cancelInTransport).ct.holdReject = s.ct.holdReject ∧
    (s.cancelInTransport).ct.holdCapture = s.ct.holdCapture ∧
    (s.cancelInTransport).ct.holdLane = s.ct.holdLane ∧
    (s.cancelInTransport).dpl.nextTag = s.dpl.nextTag ∧
    (s.cancelInTransport).dpl.sequence = s.dpl.sequence ∧
    (s.cancelInTransport).ntc.pickFails = s.ntc.pickFails ∧
    (s.cancelInTransport).azu.zones = s.azu.zones ∧ (s.cancelInTransport).azu.cycle = s.azu.cycle ∧
    (s.cancelInTransport).azu.grants = s.azu.grants ∧
    (s.cancelInTransport).slp.receiver = s.slp.receiver ∧
    (s.cancelInTransport).slp.waiting = s.slp.waiting ∧
    (s.cancelInTransport).slp.response = s.slp.response := by
  unfold State.cancelInTransport
  (repeat' split) <;> simp

@[simp] theorem State.doubtsDrawn_frame (s : State) (h : List Handle) :
    (s.doubtsDrawn h).ldc = s.ldc ∧ (s.doubtsDrawn h).ecc = s.ecc ∧
    (s.doubtsDrawn h).retained = s.retained ∧ (s.doubtsDrawn h).ms = s.ms ∧
    (s.doubtsDrawn h).pins = s.pins ∧ (s.doubtsDrawn h).pending = s.pending ∧
    (s.doubtsDrawn h).ct.holdDispenser = s.ct.holdDispenser ∧
    (s.doubtsDrawn h).ct.holdReject = s.ct.holdReject ∧
    (s.doubtsDrawn h).ct.holdCapture = s.ct.holdCapture ∧ (s.doubtsDrawn h).ct.holdLane = s.ct.holdLane ∧
    (s.doubtsDrawn h).dpl.nextTag = s.dpl.nextTag ∧ (s.doubtsDrawn h).dpl.sequence = s.dpl.sequence ∧
    (s.doubtsDrawn h).ntc.pickFails = s.ntc.pickFails ∧ (s.doubtsDrawn h).azu.zones = s.azu.zones ∧
    (s.doubtsDrawn h).azu.cycle = s.azu.cycle ∧ (s.doubtsDrawn h).azu.grants = s.azu.grants ∧
    (s.doubtsDrawn h).slp.receiver = s.slp.receiver ∧ (s.doubtsDrawn h).slp.waiting = s.slp.waiting ∧
    (s.doubtsDrawn h).slp.response = s.slp.response := by
  unfold State.doubtsDrawn
  (repeat' split) <;> simp

@[simp] theorem State.doubtDrawn_frame (s : State) (h : Handle) :
    (s.doubtDrawn h).ldc = s.ldc ∧ (s.doubtDrawn h).ecc = s.ecc ∧
    (s.doubtDrawn h).retained = s.retained ∧ (s.doubtDrawn h).ms = s.ms ∧
    (s.doubtDrawn h).pins = s.pins ∧ (s.doubtDrawn h).pending = s.pending ∧
    (s.doubtDrawn h).ct.holdDispenser = s.ct.holdDispenser ∧
    (s.doubtDrawn h).ct.holdReject = s.ct.holdReject ∧
    (s.doubtDrawn h).ct.holdCapture = s.ct.holdCapture ∧ (s.doubtDrawn h).ct.holdLane = s.ct.holdLane ∧
    (s.doubtDrawn h).dpl.nextTag = s.dpl.nextTag ∧ (s.doubtDrawn h).dpl.sequence = s.dpl.sequence ∧
    (s.doubtDrawn h).ntc.pickFails = s.ntc.pickFails ∧ (s.doubtDrawn h).azu.zones = s.azu.zones ∧
    (s.doubtDrawn h).azu.cycle = s.azu.cycle ∧ (s.doubtDrawn h).azu.grants = s.azu.grants ∧
    (s.doubtDrawn h).slp.receiver = s.slp.receiver ∧ (s.doubtDrawn h).slp.waiting = s.slp.waiting ∧
    (s.doubtDrawn h).slp.response = s.slp.response := by
  simp [State.doubtDrawn]

@[simp] theorem State.doubtStockInUse_frame (s : State) (h : Handle) (c : DoubtCause) :
    (s.doubtStockInUse h c).ldc = s.ldc ∧ (s.doubtStockInUse h c).ecc = s.ecc ∧
    (s.doubtStockInUse h c).retained = s.retained ∧ (s.doubtStockInUse h c).ms = s.ms ∧
    (s.doubtStockInUse h c).pins = s.pins ∧ (s.doubtStockInUse h c).pending = s.pending ∧
    (s.doubtStockInUse h c).ct.holdDispenser = s.ct.holdDispenser ∧
    (s.doubtStockInUse h c).ct.holdReject = s.ct.holdReject ∧
    (s.doubtStockInUse h c).ct.holdCapture = s.ct.holdCapture ∧
    (s.doubtStockInUse h c).ct.holdLane = s.ct.holdLane ∧
    (s.doubtStockInUse h c).dpl.nextTag = s.dpl.nextTag ∧
    (s.doubtStockInUse h c).dpl.sequence = s.dpl.sequence ∧
    (s.doubtStockInUse h c).ntc.pickFails = s.ntc.pickFails ∧
    (s.doubtStockInUse h c).azu.zones = s.azu.zones ∧ (s.doubtStockInUse h c).azu.cycle = s.azu.cycle ∧
    (s.doubtStockInUse h c).azu.grants = s.azu.grants ∧
    (s.doubtStockInUse h c).slp.receiver = s.slp.receiver ∧
    (s.doubtStockInUse h c).slp.waiting = s.slp.waiting ∧
    (s.doubtStockInUse h c).slp.response = s.slp.response := by
  unfold State.doubtStockInUse
  (repeat' split) <;> simp

@[simp] theorem State.route_frame (s : State) (h : Handle) (l : Lane) :
    (s.route h l).dpl = s.dpl ∧ (s.route h l).gmu = s.gmu ∧ (s.route h l).ldc = s.ldc ∧
    (s.route h l).ecc = s.ecc ∧ (s.route h l).slp = s.slp ∧ (s.route h l).set = s.set ∧
    (s.route h l).retained = s.retained ∧ (s.route h l).ms = s.ms ∧ (s.route h l).pending = s.pending ∧
    (s.route h l).ct.holdDispenser = s.ct.holdDispenser ∧
    (s.route h l).ct.holdReject = s.ct.holdReject ∧ (s.route h l).ct.holdCapture = s.ct.holdCapture ∧
    (s.route h l).ct.holdLane = s.ct.holdLane ∧ (s.route h l).ct.last = s.ct.last ∧
    (s.route h l).ntc.pickFails = s.ntc.pickFails ∧ (s.route h l).azu.zones = s.azu.zones ∧
    (s.route h l).azu.cycle = s.azu.cycle ∧ (s.route h l).azu.grants = s.azu.grants ∧
    (s.route h l).pins.warning = s.pins.warning ∧ (s.route h l).pins.presence = s.pins.presence ∧
    (s.route h l).pins.throat = s.pins.throat ∧ (s.route h l).pins.tray = s.pins.tray := by
  simp [State.route]

@[simp] theorem State.checkReady_frame (s : State) :
    (s.checkReady).dpl = s.dpl ∧ (s.checkReady).gmu = s.gmu ∧ (s.checkReady).ldc = s.ldc ∧
    (s.checkReady).ecc = s.ecc ∧ (s.checkReady).slp = s.slp ∧ (s.checkReady).set = s.set ∧
    (s.checkReady).retained = s.retained ∧ (s.checkReady).ms = s.ms ∧
    (s.checkReady).pending = s.pending ∧ (s.checkReady).ct.holdDispenser = s.ct.holdDispenser ∧
    (s.checkReady).ct.holdReject = s.ct.holdReject ∧ (s.checkReady).ct.holdCapture = s.ct.holdCapture ∧
    (s.checkReady).ct.holdLane = s.ct.holdLane ∧ (s.checkReady).ct.last = s.ct.last ∧
    (s.checkReady).ntc.pickFails = s.ntc.pickFails ∧ (s.checkReady).azu.zones = s.azu.zones ∧
    (s.checkReady).azu.cycle = s.azu.cycle ∧ (s.checkReady).azu.grants = s.azu.grants ∧
    (s.checkReady).pins.warning = s.pins.warning ∧ (s.checkReady).pins.presence = s.pins.presence ∧
    (s.checkReady).pins.throat = s.pins.throat ∧ (s.checkReady).pins.tray = s.pins.tray := by
  unfold State.checkReady
  (repeat' split) <;> simp

@[simp] theorem State.completeBundle_frame (s : State) :
    (s.completeBundle).dpl = s.dpl ∧ (s.completeBundle).ldc = s.ldc ∧ (s.completeBundle).ecc = s.ecc ∧
    (s.completeBundle).retained = s.retained ∧ (s.completeBundle).ms = s.ms ∧
    (s.completeBundle).pending = s.pending ∧ (s.completeBundle).ct.holdDispenser = s.ct.holdDispenser ∧
    (s.completeBundle).ct.holdReject = s.ct.holdReject ∧
    (s.completeBundle).ct.holdCapture = s.ct.holdCapture ∧
    (s.completeBundle).ct.holdLane = s.ct.holdLane ∧ (s.completeBundle).ct.last = s.ct.last ∧
    (s.completeBundle).ntc.pickFails = s.ntc.pickFails ∧ (s.completeBundle).azu.zones = s.azu.zones ∧
    (s.completeBundle).azu.cycle = s.azu.cycle ∧ (s.completeBundle).azu.grants = s.azu.grants ∧
    (s.completeBundle).slp.receiver = s.slp.receiver ∧ (s.completeBundle).slp.waiting = s.slp.waiting ∧
    (s.completeBundle).slp.response = s.slp.response ∧
    (s.completeBundle).pins.warning = s.pins.warning ∧
    (s.completeBundle).pins.presence = s.pins.presence ∧
    (s.completeBundle).pins.throat = s.pins.throat ∧ (s.completeBundle).pins.tray = s.pins.tray := by
  unfold State.completeBundle
  split <;> simp

@[simp] theorem State.pickingOn_frame (s : State) :
    (s.pickingOn).ldc = s.ldc ∧ (s.pickingOn).ecc = s.ecc ∧ (s.pickingOn).retained = s.retained ∧
    (s.pickingOn).ms = s.ms ∧ (s.pickingOn).pending = s.pending ∧
    (s.pickingOn).ct.holdDispenser = s.ct.holdDispenser ∧
    (s.pickingOn).ct.holdReject = s.ct.holdReject ∧ (s.pickingOn).ct.holdCapture = s.ct.holdCapture ∧
    (s.pickingOn).ct.holdLane = s.ct.holdLane ∧ (s.pickingOn).dpl.nextTag = s.dpl.nextTag ∧
    (s.pickingOn).dpl.sequence = s.dpl.sequence ∧ (s.pickingOn).ntc.pickFails = s.ntc.pickFails ∧
    (s.pickingOn).azu.zones = s.azu.zones ∧ (s.pickingOn).azu.cycle = s.azu.cycle ∧
    (s.pickingOn).azu.grants = s.azu.grants ∧ (s.pickingOn).slp.receiver = s.slp.receiver ∧
    (s.pickingOn).slp.waiting = s.slp.waiting ∧ (s.pickingOn).slp.response = s.slp.response ∧
    (s.pickingOn).pins.warning = s.pins.warning ∧ (s.pickingOn).pins.presence = s.pins.presence ∧
    (s.pickingOn).pins.throat = s.pins.throat ∧ (s.pickingOn).pins.tray = s.pins.tray := by
  unfold State.pickingOn
  (repeat' split) <;> simp

@[simp] theorem State.checkRejectLimit_frame (s : State) :
    (s.checkRejectLimit).ct = s.ct ∧ (s.checkRejectLimit).dpl = s.dpl ∧
    (s.checkRejectLimit).gmu = s.gmu ∧ (s.checkRejectLimit).ldc = s.ldc ∧
    (s.checkRejectLimit).ecc = s.ecc ∧ (s.checkRejectLimit).azu = s.azu ∧
    (s.checkRejectLimit).slp = s.slp ∧ (s.checkRejectLimit).set = s.set ∧
    (s.checkRejectLimit).retained = s.retained ∧ (s.checkRejectLimit).ms = s.ms ∧
    (s.checkRejectLimit).pins = s.pins ∧ (s.checkRejectLimit).pending = s.pending ∧
    (s.checkRejectLimit).ntc.pickFails = s.ntc.pickFails := by
  unfold State.checkRejectLimit
  (repeat' split) <;> simp

@[simp] theorem State.countItem_frame (s : State) (h : Handle) (good : Bool) (n : Nat) (q : Quality) (learn : Stock → Stock) :
    (s.countItem h good n q learn).ldc = s.ldc ∧ (s.countItem h good n q learn).ecc = s.ecc ∧
    (s.countItem h good n q learn).retained = s.retained ∧ (s.countItem h good n q learn).ms = s.ms ∧
    (s.countItem h good n q learn).pending = s.pending ∧
    (s.countItem h good n q learn).ct.holdDispenser = s.ct.holdDispenser ∧
    (s.countItem h good n q learn).ct.holdReject = s.ct.holdReject ∧
    (s.countItem h good n q learn).ct.holdCapture = s.ct.holdCapture ∧
    (s.countItem h good n q learn).ct.holdLane = s.ct.holdLane ∧
    (s.countItem h good n q learn).dpl.nextTag = s.dpl.nextTag ∧
    (s.countItem h good n q learn).dpl.sequence = s.dpl.sequence ∧
    (s.countItem h good n q learn).ntc.pickFails = s.ntc.pickFails ∧
    (s.countItem h good n q learn).azu.zones = s.azu.zones ∧
    (s.countItem h good n q learn).azu.cycle = s.azu.cycle ∧
    (s.countItem h good n q learn).azu.grants = s.azu.grants ∧
    (s.countItem h good n q learn).slp.receiver = s.slp.receiver ∧
    (s.countItem h good n q learn).slp.waiting = s.slp.waiting ∧
    (s.countItem h good n q learn).slp.response = s.slp.response ∧
    (s.countItem h good n q learn).pins.warning = s.pins.warning ∧
    (s.countItem h good n q learn).pins.presence = s.pins.presence ∧
    (s.countItem h good n q learn).pins.throat = s.pins.throat ∧
    (s.countItem h good n q learn).pins.tray = s.pins.tray := by
  unfold State.countItem
  dsimp only
  (repeat' split) <;> simp

@[simp] theorem State.joinPath_frame (s : State) (it : PathItem) :
    (s.joinPath it).ct = s.ct ∧ (s.joinPath it).dpl = s.dpl ∧ (s.joinPath it).gmu = s.gmu ∧
    (s.joinPath it).ldc = s.ldc ∧ (s.joinPath it).ecc = s.ecc ∧ (s.joinPath it).azu = s.azu ∧
    (s.joinPath it).slp = s.slp ∧ (s.joinPath it).set = s.set ∧ (s.joinPath it).retained = s.retained ∧
    (s.joinPath it).ms = s.ms ∧ (s.joinPath it).pins = s.pins ∧ (s.joinPath it).pending = s.pending ∧
    (s.joinPath it).ntc.pickFails = s.ntc.pickFails := by
  simp [State.joinPath]

@[simp] theorem State.noteItemStart_frame (s : State) :
    (s.noteItemStart).ldc = s.ldc ∧ (s.noteItemStart).ecc = s.ecc ∧
    (s.noteItemStart).retained = s.retained ∧ (s.noteItemStart).ms = s.ms ∧
    (s.noteItemStart).pending = s.pending ∧ (s.noteItemStart).ct.holdDispenser = s.ct.holdDispenser ∧
    (s.noteItemStart).ct.holdReject = s.ct.holdReject ∧
    (s.noteItemStart).ct.holdCapture = s.ct.holdCapture ∧
    (s.noteItemStart).ct.holdLane = s.ct.holdLane ∧ (s.noteItemStart).dpl.nextTag = s.dpl.nextTag ∧
    (s.noteItemStart).dpl.sequence = s.dpl.sequence ∧ (s.noteItemStart).azu.zones = s.azu.zones ∧
    (s.noteItemStart).azu.cycle = s.azu.cycle ∧ (s.noteItemStart).azu.grants = s.azu.grants ∧
    (s.noteItemStart).slp.receiver = s.slp.receiver ∧ (s.noteItemStart).slp.waiting = s.slp.waiting ∧
    (s.noteItemStart).slp.response = s.slp.response ∧ (s.noteItemStart).pins.warning = s.pins.warning ∧
    (s.noteItemStart).pins.presence = s.pins.presence ∧ (s.noteItemStart).pins.throat = s.pins.throat ∧
    (s.noteItemStart).pins.tray = s.pins.tray := by
  unfold State.noteItemStart
  dsimp only
  (repeat' split) <;> simp

@[simp] theorem State.noteHandover_frame (s : State) (ref : ItemStock) (m : Measure) (atLimit : Bool) :
    (s.noteHandover ref m atLimit).ldc = s.ldc ∧ (s.noteHandover ref m atLimit).ecc = s.ecc ∧
    (s.noteHandover ref m atLimit).retained = s.retained ∧ (s.noteHandover ref m atLimit).ms = s.ms ∧
    (s.noteHandover ref m atLimit).pending = s.pending ∧
    (s.noteHandover ref m atLimit).ct.holdDispenser = s.ct.holdDispenser ∧
    (s.noteHandover ref m atLimit).ct.holdReject = s.ct.holdReject ∧
    (s.noteHandover ref m atLimit).ct.holdCapture = s.ct.holdCapture ∧
    (s.noteHandover ref m atLimit).ct.holdLane = s.ct.holdLane ∧
    (s.noteHandover ref m atLimit).dpl.nextTag = s.dpl.nextTag ∧
    (s.noteHandover ref m atLimit).dpl.sequence = s.dpl.sequence ∧
    (s.noteHandover ref m atLimit).ntc.pickFails = s.ntc.pickFails ∧
    (s.noteHandover ref m atLimit).azu.zones = s.azu.zones ∧
    (s.noteHandover ref m atLimit).azu.cycle = s.azu.cycle ∧
    (s.noteHandover ref m atLimit).azu.grants = s.azu.grants ∧
    (s.noteHandover ref m atLimit).slp.receiver = s.slp.receiver ∧
    (s.noteHandover ref m atLimit).slp.waiting = s.slp.waiting ∧
    (s.noteHandover ref m atLimit).slp.response = s.slp.response ∧
    (s.noteHandover ref m atLimit).pins.warning = s.pins.warning ∧
    (s.noteHandover ref m atLimit).pins.presence = s.pins.presence ∧
    (s.noteHandover ref m atLimit).pins.throat = s.pins.throat ∧
    (s.noteHandover ref m atLimit).pins.tray = s.pins.tray := by
  unfold State.noteHandover
  dsimp only
  split <;> simp

@[simp] theorem State.noteItemEnd_frame (s : State) :
    (s.noteItemEnd).ct = s.ct ∧ (s.noteItemEnd).dpl = s.dpl ∧ (s.noteItemEnd).gmu = s.gmu ∧
    (s.noteItemEnd).ldc = s.ldc ∧ (s.noteItemEnd).ecc = s.ecc ∧ (s.noteItemEnd).azu = s.azu ∧
    (s.noteItemEnd).slp = s.slp ∧ (s.noteItemEnd).set = s.set ∧ (s.noteItemEnd).retained = s.retained ∧
    (s.noteItemEnd).ms = s.ms ∧ (s.noteItemEnd).pins = s.pins ∧ (s.noteItemEnd).pending = s.pending ∧
    (s.noteItemEnd).ntc.pickFails = s.ntc.pickFails := by
  simp [State.noteItemEnd]

@[simp] theorem State.failBundle_frame (s : State) (h : Handle) (b : Bundle) (c : DoubtCause) (r : FailReason) (vault : Bool) :
    (s.failBundle h b c r vault).ntc = s.ntc ∧ (s.failBundle h b c r vault).gmu = s.gmu ∧
    (s.failBundle h b c r vault).ldc = s.ldc ∧ (s.failBundle h b c r vault).ecc = s.ecc ∧
    (s.failBundle h b c r vault).azu = s.azu ∧ (s.failBundle h b c r vault).set = s.set ∧
    (s.failBundle h b c r vault).retained = s.retained ∧ (s.failBundle h b c r vault).ms = s.ms ∧
    (s.failBundle h b c r vault).pins = s.pins ∧ (s.failBundle h b c r vault).pending = s.pending ∧
    (s.failBundle h b c r vault).ct.holdDispenser = s.ct.holdDispenser ∧
    (s.failBundle h b c r vault).ct.holdReject = s.ct.holdReject ∧
    (s.failBundle h b c r vault).ct.holdCapture = s.ct.holdCapture ∧
    (s.failBundle h b c r vault).ct.holdLane = s.ct.holdLane ∧
    (s.failBundle h b c r vault).dpl.nextTag = s.dpl.nextTag ∧
    (s.failBundle h b c r vault).dpl.sequence = s.dpl.sequence ∧
    (s.failBundle h b c r vault).slp.receiver = s.slp.receiver ∧
    (s.failBundle h b c r vault).slp.waiting = s.slp.waiting ∧
    (s.failBundle h b c r vault).slp.response = s.slp.response := by
  unfold State.failBundle
  dsimp only
  split <;> simp

@[simp] theorem State.stopTransport_frame (s : State) (c : DoubtCause) (r : FailReason) (vault : Bool) :
    (s.stopTransport c r vault).ldc = s.ldc ∧ (s.stopTransport c r vault).ecc = s.ecc ∧
    (s.stopTransport c r vault).retained = s.retained ∧ (s.stopTransport c r vault).ms = s.ms ∧
    (s.stopTransport c r vault).pins = s.pins ∧ (s.stopTransport c r vault).pending = s.pending ∧
    (s.stopTransport c r vault).ct.holdDispenser = s.ct.holdDispenser ∧
    (s.stopTransport c r vault).ct.holdReject = s.ct.holdReject ∧
    (s.stopTransport c r vault).ct.holdCapture = s.ct.holdCapture ∧
    (s.stopTransport c r vault).ct.holdLane = s.ct.holdLane ∧
    (s.stopTransport c r vault).dpl.nextTag = s.dpl.nextTag ∧
    (s.stopTransport c r vault).dpl.sequence = s.dpl.sequence ∧
    (s.stopTransport c r vault).ntc.pickFails = s.ntc.pickFails ∧
    (s.stopTransport c r vault).azu.zones = s.azu.zones ∧
    (s.stopTransport c r vault).azu.cycle = s.azu.cycle ∧
    (s.stopTransport c r vault).azu.grants = s.azu.grants ∧
    (s.stopTransport c r vault).slp.receiver = s.slp.receiver ∧
    (s.stopTransport c r vault).slp.waiting = s.slp.waiting ∧
    (s.stopTransport c r vault).slp.response = s.slp.response := by
  unfold State.stopTransport
  (repeat' split) <;> simp

@[simp] theorem State.noteJam_frame (s : State) :
    (s.noteJam).ldc = s.ldc ∧ (s.noteJam).ecc = s.ecc ∧ (s.noteJam).retained = s.retained ∧
    (s.noteJam).ms = s.ms ∧ (s.noteJam).pins = s.pins ∧ (s.noteJam).pending = s.pending ∧
    (s.noteJam).ct.holdDispenser = s.ct.holdDispenser ∧ (s.noteJam).ct.holdReject = s.ct.holdReject ∧
    (s.noteJam).ct.holdCapture = s.ct.holdCapture ∧ (s.noteJam).ct.holdLane = s.ct.holdLane ∧
    (s.noteJam).dpl.nextTag = s.dpl.nextTag ∧ (s.noteJam).dpl.sequence = s.dpl.sequence ∧
    (s.noteJam).ntc.pickFails = s.ntc.pickFails ∧ (s.noteJam).azu.zones = s.azu.zones ∧
    (s.noteJam).azu.cycle = s.azu.cycle ∧ (s.noteJam).azu.grants = s.azu.grants ∧
    (s.noteJam).slp.receiver = s.slp.receiver ∧ (s.noteJam).slp.waiting = s.slp.waiting ∧
    (s.noteJam).slp.response = s.slp.response := by
  simp [State.noteJam]

@[simp] theorem State.noteDoorStop_frame (s : State) (already : Bool) :
    (s.noteDoorStop already).ldc = s.ldc ∧ (s.noteDoorStop already).ecc = s.ecc ∧
    (s.noteDoorStop already).retained = s.retained ∧ (s.noteDoorStop already).ms = s.ms ∧
    (s.noteDoorStop already).pins = s.pins ∧ (s.noteDoorStop already).pending = s.pending ∧
    (s.noteDoorStop already).ct.holdDispenser = s.ct.holdDispenser ∧
    (s.noteDoorStop already).ct.holdReject = s.ct.holdReject ∧
    (s.noteDoorStop already).ct.holdCapture = s.ct.holdCapture ∧ (s.noteDoorStop already).ct.holdLane = s.ct.holdLane ∧
    (s.noteDoorStop already).dpl.nextTag = s.dpl.nextTag ∧ (s.noteDoorStop already).dpl.sequence = s.dpl.sequence ∧
    (s.noteDoorStop already).ntc.pickFails = s.ntc.pickFails ∧ (s.noteDoorStop already).azu.zones = s.azu.zones ∧
    (s.noteDoorStop already).azu.cycle = s.azu.cycle ∧ (s.noteDoorStop already).azu.grants = s.azu.grants ∧
    (s.noteDoorStop already).slp.receiver = s.slp.receiver ∧ (s.noteDoorStop already).slp.waiting = s.slp.waiting ∧
    (s.noteDoorStop already).slp.response = s.slp.response := by
  unfold State.noteDoorStop
  (repeat' split) <;> simp

@[simp] theorem State.finishClear_frame (s : State) :
    (s.finishClear).ldc = s.ldc ∧ (s.finishClear).ecc = s.ecc ∧ (s.finishClear).retained = s.retained ∧
    (s.finishClear).ms = s.ms ∧ (s.finishClear).pins = s.pins ∧ (s.finishClear).pending = s.pending ∧
    (s.finishClear).ct.holdDispenser = s.ct.holdDispenser ∧
    (s.finishClear).ct.holdReject = s.ct.holdReject ∧
    (s.finishClear).ct.holdCapture = s.ct.holdCapture ∧ (s.finishClear).ct.holdLane = s.ct.holdLane ∧
    (s.finishClear).ct.last = s.ct.last ∧ (s.finishClear).dpl.quotes = s.dpl.quotes ∧
    (s.finishClear).dpl.nextTag = s.dpl.nextTag ∧ (s.finishClear).dpl.sequence = s.dpl.sequence ∧
    (s.finishClear).ntc.pickFails = s.ntc.pickFails ∧ (s.finishClear).azu.zones = s.azu.zones ∧
    (s.finishClear).azu.cycle = s.azu.cycle ∧ (s.finishClear).azu.grants = s.azu.grants ∧
    (s.finishClear).slp.receiver = s.slp.receiver ∧ (s.finishClear).slp.waiting = s.slp.waiting ∧
    (s.finishClear).slp.response = s.slp.response := by
  unfold State.finishClear
  split <;> simp

@[simp] theorem State.noteLeaderDone_frame (s : State) :
    (s.noteLeaderDone).ldc = s.ldc ∧ (s.noteLeaderDone).ecc = s.ecc ∧
    (s.noteLeaderDone).retained = s.retained ∧ (s.noteLeaderDone).ms = s.ms ∧
    (s.noteLeaderDone).pending = s.pending ∧ (s.noteLeaderDone).ct.holdDispenser = s.ct.holdDispenser ∧
    (s.noteLeaderDone).ct.holdReject = s.ct.holdReject ∧
    (s.noteLeaderDone).ct.holdCapture = s.ct.holdCapture ∧
    (s.noteLeaderDone).ct.holdLane = s.ct.holdLane ∧ (s.noteLeaderDone).dpl.nextTag = s.dpl.nextTag ∧
    (s.noteLeaderDone).dpl.sequence = s.dpl.sequence ∧
    (s.noteLeaderDone).ntc.pickFails = s.ntc.pickFails ∧ (s.noteLeaderDone).azu.zones = s.azu.zones ∧
    (s.noteLeaderDone).azu.cycle = s.azu.cycle ∧ (s.noteLeaderDone).azu.grants = s.azu.grants ∧
    (s.noteLeaderDone).slp.receiver = s.slp.receiver ∧ (s.noteLeaderDone).slp.waiting = s.slp.waiting ∧
    (s.noteLeaderDone).slp.response = s.slp.response ∧
    (s.noteLeaderDone).pins.warning = s.pins.warning ∧
    (s.noteLeaderDone).pins.presence = s.pins.presence ∧
    (s.noteLeaderDone).pins.throat = s.pins.throat ∧ (s.noteLeaderDone).pins.tray = s.pins.tray := by
  unfold State.noteLeaderDone
  dsimp only
  (repeat' split) <;> simp

@[simp] theorem State.startRestartNote_frame (s : State) :
    (s.startRestartNote).ct = s.ct ∧ (s.startRestartNote).dpl = s.dpl ∧
    (s.startRestartNote).ldc = s.ldc ∧ (s.startRestartNote).ecc = s.ecc ∧
    (s.startRestartNote).slp = s.slp ∧ (s.startRestartNote).set = s.set ∧
    (s.startRestartNote).retained = s.retained ∧ (s.startRestartNote).ms = s.ms ∧
    (s.startRestartNote).pins = s.pins ∧ (s.startRestartNote).pending = s.pending ∧
    (s.startRestartNote).ntc.pickFails = s.ntc.pickFails ∧
    (s.startRestartNote).azu.zones = s.azu.zones ∧ (s.startRestartNote).azu.cycle = s.azu.cycle ∧
    (s.startRestartNote).azu.grants = s.azu.grants := by
  unfold State.startRestartNote
  split <;> simp

@[simp] theorem State.suspendNote_frame (s : State) :
    (s.suspendNote).ct = s.ct ∧ (s.suspendNote).dpl = s.dpl ∧ (s.suspendNote).gmu = s.gmu ∧
    (s.suspendNote).ldc = s.ldc ∧ (s.suspendNote).ecc = s.ecc ∧ (s.suspendNote).slp = s.slp ∧
    (s.suspendNote).set = s.set ∧ (s.suspendNote).retained = s.retained ∧ (s.suspendNote).ms = s.ms ∧
    (s.suspendNote).pins = s.pins ∧ (s.suspendNote).pending = s.pending ∧
    (s.suspendNote).ntc.pickFails = s.ntc.pickFails ∧ (s.suspendNote).azu.zones = s.azu.zones ∧
    (s.suspendNote).azu.cycle = s.azu.cycle ∧ (s.suspendNote).azu.grants = s.azu.grants := by
  simp [State.suspendNote]

@[simp] theorem State.pauseNote_frame (s : State) :
    (s.pauseNote).ct = s.ct ∧ (s.pauseNote).dpl = s.dpl ∧ (s.pauseNote).gmu = s.gmu ∧
    (s.pauseNote).ldc = s.ldc ∧ (s.pauseNote).ecc = s.ecc ∧ (s.pauseNote).slp = s.slp ∧
    (s.pauseNote).set = s.set ∧ (s.pauseNote).retained = s.retained ∧ (s.pauseNote).ms = s.ms ∧
    (s.pauseNote).pins = s.pins ∧ (s.pauseNote).pending = s.pending ∧
    (s.pauseNote).ntc.pickFails = s.ntc.pickFails ∧ (s.pauseNote).azu.zones = s.azu.zones ∧
    (s.pauseNote).azu.cycle = s.azu.cycle ∧ (s.pauseNote).azu.grants = s.azu.grants := by
  unfold State.pauseNote
  split <;> simp

@[simp] theorem State.restartNoteWork_frame (s : State) :
    (s.restartNoteWork).ldc = s.ldc ∧ (s.restartNoteWork).ecc = s.ecc ∧
    (s.restartNoteWork).retained = s.retained ∧ (s.restartNoteWork).ms = s.ms ∧
    (s.restartNoteWork).pending = s.pending ∧
    (s.restartNoteWork).ct.holdDispenser = s.ct.holdDispenser ∧
    (s.restartNoteWork).ct.holdReject = s.ct.holdReject ∧
    (s.restartNoteWork).ct.holdCapture = s.ct.holdCapture ∧
    (s.restartNoteWork).ct.holdLane = s.ct.holdLane ∧ (s.restartNoteWork).dpl.nextTag = s.dpl.nextTag ∧
    (s.restartNoteWork).dpl.sequence = s.dpl.sequence ∧
    (s.restartNoteWork).ntc.pickFails = s.ntc.pickFails ∧ (s.restartNoteWork).azu.zones = s.azu.zones ∧
    (s.restartNoteWork).azu.cycle = s.azu.cycle ∧ (s.restartNoteWork).azu.grants = s.azu.grants ∧
    (s.restartNoteWork).slp.receiver = s.slp.receiver ∧
    (s.restartNoteWork).slp.waiting = s.slp.waiting ∧
    (s.restartNoteWork).slp.response = s.slp.response ∧
    (s.restartNoteWork).pins.warning = s.pins.warning ∧
    (s.restartNoteWork).pins.presence = s.pins.presence ∧
    (s.restartNoteWork).pins.throat = s.pins.throat ∧ (s.restartNoteWork).pins.tray = s.pins.tray := by
  unfold State.restartNoteWork
  (repeat' split) <;> simp

@[simp] theorem State.resumeNote_frame (s : State) :
    (s.resumeNote).ldc = s.ldc ∧ (s.resumeNote).ecc = s.ecc ∧ (s.resumeNote).retained = s.retained ∧
    (s.resumeNote).ms = s.ms ∧ (s.resumeNote).pending = s.pending ∧
    (s.resumeNote).ct.holdDispenser = s.ct.holdDispenser ∧
    (s.resumeNote).ct.holdReject = s.ct.holdReject ∧ (s.resumeNote).ct.holdCapture = s.ct.holdCapture ∧
    (s.resumeNote).ct.holdLane = s.ct.holdLane ∧ (s.resumeNote).dpl.nextTag = s.dpl.nextTag ∧
    (s.resumeNote).dpl.sequence = s.dpl.sequence ∧ (s.resumeNote).ntc.pickFails = s.ntc.pickFails ∧
    (s.resumeNote).azu.zones = s.azu.zones ∧ (s.resumeNote).azu.cycle = s.azu.cycle ∧
    (s.resumeNote).azu.grants = s.azu.grants ∧ (s.resumeNote).slp.receiver = s.slp.receiver ∧
    (s.resumeNote).slp.waiting = s.slp.waiting ∧ (s.resumeNote).slp.response = s.slp.response ∧
    (s.resumeNote).pins.warning = s.pins.warning ∧ (s.resumeNote).pins.presence = s.pins.presence ∧
    (s.resumeNote).pins.throat = s.pins.throat ∧ (s.resumeNote).pins.tray = s.pins.tray := by
  unfold State.resumeNote
  dsimp only
  (repeat' split) <;> simp

@[simp] theorem State.warnNote_frame (s : State) :
    (s.warnNote).ct = s.ct ∧ (s.warnNote).dpl = s.dpl ∧ (s.warnNote).ldc = s.ldc ∧
    (s.warnNote).ecc = s.ecc ∧ (s.warnNote).slp = s.slp ∧ (s.warnNote).retained = s.retained ∧
    (s.warnNote).ms = s.ms ∧ (s.warnNote).pins = s.pins ∧ (s.warnNote).pending = s.pending ∧
    (s.warnNote).ntc.pickFails = s.ntc.pickFails ∧ (s.warnNote).azu.zones = s.azu.zones ∧
    (s.warnNote).azu.cycle = s.azu.cycle ∧ (s.warnNote).azu.grants = s.azu.grants := by
  simp [State.warnNote]

@[simp] theorem State.endWarnNote_frame (s : State) :
    (s.endWarnNote).ldc = s.ldc ∧ (s.endWarnNote).ecc = s.ecc ∧ (s.endWarnNote).retained = s.retained ∧
    (s.endWarnNote).ms = s.ms ∧ (s.endWarnNote).pending = s.pending ∧
    (s.endWarnNote).ct.holdDispenser = s.ct.holdDispenser ∧
    (s.endWarnNote).ct.holdReject = s.ct.holdReject ∧
    (s.endWarnNote).ct.holdCapture = s.ct.holdCapture ∧ (s.endWarnNote).ct.holdLane = s.ct.holdLane ∧
    (s.endWarnNote).dpl.nextTag = s.dpl.nextTag ∧ (s.endWarnNote).dpl.sequence = s.dpl.sequence ∧
    (s.endWarnNote).ntc.pickFails = s.ntc.pickFails ∧ (s.endWarnNote).azu.zones = s.azu.zones ∧
    (s.endWarnNote).azu.cycle = s.azu.cycle ∧ (s.endWarnNote).azu.grants = s.azu.grants ∧
    (s.endWarnNote).slp.receiver = s.slp.receiver ∧ (s.endWarnNote).slp.waiting = s.slp.waiting ∧
    (s.endWarnNote).slp.response = s.slp.response ∧ (s.endWarnNote).pins.warning = s.pins.warning ∧
    (s.endWarnNote).pins.presence = s.pins.presence ∧ (s.endWarnNote).pins.throat = s.pins.throat ∧
    (s.endWarnNote).pins.tray = s.pins.tray := by
  unfold State.endWarnNote
  dsimp only
  (repeat' split) <;> simp

@[simp] theorem State.substitute_frame (s : State) (h : Handle) (denom : Nat) :
    (s.substitute h denom).ldc = s.ldc ∧ (s.substitute h denom).ecc = s.ecc ∧
    (s.substitute h denom).retained = s.retained ∧ (s.substitute h denom).ms = s.ms ∧
    (s.substitute h denom).pending = s.pending ∧
    (s.substitute h denom).ct.holdDispenser = s.ct.holdDispenser ∧
    (s.substitute h denom).ct.holdReject = s.ct.holdReject ∧
    (s.substitute h denom).ct.holdCapture = s.ct.holdCapture ∧
    (s.substitute h denom).ct.holdLane = s.ct.holdLane ∧
    (s.substitute h denom).dpl.nextTag = s.dpl.nextTag ∧
    (s.substitute h denom).dpl.sequence = s.dpl.sequence ∧
    (s.substitute h denom).ntc.pickFails = s.ntc.pickFails ∧
    (s.substitute h denom).azu.zones = s.azu.zones ∧ (s.substitute h denom).azu.cycle = s.azu.cycle ∧
    (s.substitute h denom).azu.grants = s.azu.grants ∧
    (s.substitute h denom).slp.receiver = s.slp.receiver ∧
    (s.substitute h denom).slp.waiting = s.slp.waiting ∧
    (s.substitute h denom).slp.response = s.slp.response ∧
    (s.substitute h denom).pins.warning = s.pins.warning ∧
    (s.substitute h denom).pins.presence = s.pins.presence ∧
    (s.substitute h denom).pins.throat = s.pins.throat ∧ (s.substitute h denom).pins.tray = s.pins.tray := by
  unfold State.substitute
  dsimp only
  (repeat' split) <;> simp

@[simp] theorem State.failPick_frame (s : State) :
    (s.failPick).ldc = s.ldc ∧ (s.failPick).ecc = s.ecc ∧ (s.failPick).retained = s.retained ∧
    (s.failPick).ms = s.ms ∧ (s.failPick).pending = s.pending ∧
    (s.failPick).ct.holdDispenser = s.ct.holdDispenser ∧ (s.failPick).ct.holdReject = s.ct.holdReject ∧
    (s.failPick).ct.holdCapture = s.ct.holdCapture ∧ (s.failPick).ct.holdLane = s.ct.holdLane ∧
    (s.failPick).dpl.nextTag = s.dpl.nextTag ∧ (s.failPick).dpl.sequence = s.dpl.sequence ∧
    (s.failPick).azu.zones = s.azu.zones ∧ (s.failPick).azu.cycle = s.azu.cycle ∧
    (s.failPick).azu.grants = s.azu.grants ∧ (s.failPick).slp.receiver = s.slp.receiver ∧
    (s.failPick).slp.waiting = s.slp.waiting ∧ (s.failPick).slp.response = s.slp.response ∧
    (s.failPick).pins.warning = s.pins.warning ∧ (s.failPick).pins.presence = s.pins.presence ∧
    (s.failPick).pins.throat = s.pins.throat ∧ (s.failPick).pins.tray = s.pins.tray := by
  unfold State.failPick
  dsimp only
  (repeat' split) <;> simp

@[simp] theorem State.exitDiverter_frame (s : State) :
    (s.exitDiverter).ldc = s.ldc ∧ (s.exitDiverter).ecc = s.ecc ∧
    (s.exitDiverter).retained = s.retained ∧ (s.exitDiverter).ms = s.ms ∧
    (s.exitDiverter).pending = s.pending ∧ (s.exitDiverter).ct.holdDispenser = s.ct.holdDispenser ∧
    (s.exitDiverter).ct.holdReject = s.ct.holdReject ∧
    (s.exitDiverter).ct.holdCapture = s.ct.holdCapture ∧ (s.exitDiverter).ct.holdLane = s.ct.holdLane ∧
    (s.exitDiverter).dpl.nextTag = s.dpl.nextTag ∧ (s.exitDiverter).dpl.sequence = s.dpl.sequence ∧
    (s.exitDiverter).ntc.pickFails = s.ntc.pickFails ∧ (s.exitDiverter).azu.zones = s.azu.zones ∧
    (s.exitDiverter).azu.cycle = s.azu.cycle ∧ (s.exitDiverter).azu.grants = s.azu.grants ∧
    (s.exitDiverter).slp.receiver = s.slp.receiver ∧ (s.exitDiverter).slp.waiting = s.slp.waiting ∧
    (s.exitDiverter).slp.response = s.slp.response ∧ (s.exitDiverter).pins.warning = s.pins.warning ∧
    (s.exitDiverter).pins.presence = s.pins.presence ∧ (s.exitDiverter).pins.throat = s.pins.throat ∧
    (s.exitDiverter).pins.tray = s.pins.tray := by
  unfold State.exitDiverter
  dsimp only
  (repeat' split) <;> simp

@[simp] theorem State.emptyStacker_frame (s : State) :
    (s.emptyStacker).ldc = s.ldc ∧ (s.emptyStacker).ecc = s.ecc ∧
    (s.emptyStacker).retained = s.retained ∧ (s.emptyStacker).ms = s.ms ∧
    (s.emptyStacker).pending = s.pending ∧ (s.emptyStacker).ct.holdDispenser = s.ct.holdDispenser ∧
    (s.emptyStacker).ct.holdReject = s.ct.holdReject ∧
    (s.emptyStacker).ct.holdCapture = s.ct.holdCapture ∧ (s.emptyStacker).ct.holdLane = s.ct.holdLane ∧
    (s.emptyStacker).ct.last = s.ct.last ∧ (s.emptyStacker).dpl.quotes = s.dpl.quotes ∧
    (s.emptyStacker).dpl.nextTag = s.dpl.nextTag ∧ (s.emptyStacker).dpl.sequence = s.dpl.sequence ∧
    (s.emptyStacker).ntc.pickFails = s.ntc.pickFails ∧ (s.emptyStacker).azu.zones = s.azu.zones ∧
    (s.emptyStacker).azu.cycle = s.azu.cycle ∧ (s.emptyStacker).azu.grants = s.azu.grants ∧
    (s.emptyStacker).slp.receiver = s.slp.receiver ∧ (s.emptyStacker).slp.waiting = s.slp.waiting ∧
    (s.emptyStacker).slp.response = s.slp.response ∧ (s.emptyStacker).pins.warning = s.pins.warning ∧
    (s.emptyStacker).pins.presence = s.pins.presence ∧ (s.emptyStacker).pins.throat = s.pins.throat ∧
    (s.emptyStacker).pins.tray = s.pins.tray := by
  unfold State.emptyStacker
  dsimp only
  (repeat' split) <;> simp

@[simp] theorem State.stackerWaitOut_frame (s : State) :
    (s.stackerWaitOut).ldc = s.ldc ∧ (s.stackerWaitOut).ecc = s.ecc ∧
    (s.stackerWaitOut).retained = s.retained ∧ (s.stackerWaitOut).ms = s.ms ∧
    (s.stackerWaitOut).pins = s.pins ∧ (s.stackerWaitOut).pending = s.pending ∧
    (s.stackerWaitOut).ct.holdDispenser = s.ct.holdDispenser ∧
    (s.stackerWaitOut).ct.holdReject = s.ct.holdReject ∧
    (s.stackerWaitOut).ct.holdCapture = s.ct.holdCapture ∧
    (s.stackerWaitOut).ct.holdLane = s.ct.holdLane ∧ (s.stackerWaitOut).dpl.nextTag = s.dpl.nextTag ∧
    (s.stackerWaitOut).dpl.sequence = s.dpl.sequence ∧
    (s.stackerWaitOut).ntc.pickFails = s.ntc.pickFails ∧ (s.stackerWaitOut).azu.zones = s.azu.zones ∧
    (s.stackerWaitOut).azu.cycle = s.azu.cycle ∧ (s.stackerWaitOut).azu.grants = s.azu.grants ∧
    (s.stackerWaitOut).slp.receiver = s.slp.receiver ∧ (s.stackerWaitOut).slp.waiting = s.slp.waiting ∧
    (s.stackerWaitOut).slp.response = s.slp.response := by
  unfold State.stackerWaitOut
  split <;> simp

@[simp] theorem State.reportLane_frame (s : State) (l : Lane) :
    (s.reportLane l).dpl = s.dpl ∧ (s.reportLane l).gmu = s.gmu ∧ (s.reportLane l).ldc = s.ldc ∧
    (s.reportLane l).ecc = s.ecc ∧ (s.reportLane l).slp = s.slp ∧ (s.reportLane l).set = s.set ∧
    (s.reportLane l).retained = s.retained ∧ (s.reportLane l).ms = s.ms ∧
    (s.reportLane l).pending = s.pending ∧ (s.reportLane l).ct.holdDispenser = s.ct.holdDispenser ∧
    (s.reportLane l).ct.holdReject = s.ct.holdReject ∧
    (s.reportLane l).ct.holdCapture = s.ct.holdCapture ∧ (s.reportLane l).ct.holdLane = s.ct.holdLane ∧
    (s.reportLane l).ct.last = s.ct.last ∧ (s.reportLane l).ntc.pickFails = s.ntc.pickFails ∧
    (s.reportLane l).azu.zones = s.azu.zones ∧ (s.reportLane l).azu.cycle = s.azu.cycle ∧
    (s.reportLane l).azu.grants = s.azu.grants ∧ (s.reportLane l).pins.warning = s.pins.warning ∧
    (s.reportLane l).pins.presence = s.pins.presence ∧ (s.reportLane l).pins.throat = s.pins.throat ∧
    (s.reportLane l).pins.tray = s.pins.tray := by
  unfold State.reportLane
  (repeat' split) <;> simp

@[simp] theorem State.startMotion_frame (s : State) (l : Lane) (m : Motion) :
    (s.startMotion l m).ct = s.ct ∧ (s.startMotion l m).dpl = s.dpl ∧ (s.startMotion l m).ntc = s.ntc ∧
    (s.startMotion l m).gmu = s.gmu ∧ (s.startMotion l m).ecc = s.ecc ∧
    (s.startMotion l m).slp = s.slp ∧ (s.startMotion l m).set = s.set ∧
    (s.startMotion l m).retained = s.retained ∧ (s.startMotion l m).ms = s.ms ∧
    (s.startMotion l m).pins = s.pins ∧ (s.startMotion l m).pending = s.pending ∧
    (s.startMotion l m).azu.zones = s.azu.zones ∧ (s.startMotion l m).azu.cycle = s.azu.cycle ∧
    (s.startMotion l m).azu.grants = s.azu.grants := by
  unfold State.startMotion
  split <;> simp

@[simp] theorem State.startTake_frame (s : State) (l : Lane) :
    (s.startTake l).ct = s.ct ∧ (s.startTake l).dpl = s.dpl ∧ (s.startTake l).ntc = s.ntc ∧
    (s.startTake l).gmu = s.gmu ∧ (s.startTake l).ecc = s.ecc ∧ (s.startTake l).azu = s.azu ∧
    (s.startTake l).slp = s.slp ∧ (s.startTake l).set = s.set ∧ (s.startTake l).retained = s.retained ∧
    (s.startTake l).ms = s.ms ∧ (s.startTake l).pins = s.pins ∧ (s.startTake l).pending = s.pending := by
  simp [State.startTake]

@[simp] theorem State.stopTake_frame (s : State) (l : Lane) :
    (s.stopTake l).ct = s.ct ∧ (s.stopTake l).dpl = s.dpl ∧ (s.stopTake l).ntc = s.ntc ∧
    (s.stopTake l).gmu = s.gmu ∧ (s.stopTake l).ecc = s.ecc ∧ (s.stopTake l).azu = s.azu ∧
    (s.stopTake l).slp = s.slp ∧ (s.stopTake l).set = s.set ∧ (s.stopTake l).retained = s.retained ∧
    (s.stopTake l).ms = s.ms ∧ (s.stopTake l).pins = s.pins ∧ (s.stopTake l).pending = s.pending := by
  simp [State.stopTake]

@[simp] theorem State.takeConsignment_frame (s : State) (c0 : Consignment) :
    (s.takeConsignment c0).ntc = s.ntc ∧ (s.takeConsignment c0).gmu = s.gmu ∧
    (s.takeConsignment c0).ldc = s.ldc ∧ (s.takeConsignment c0).ecc = s.ecc ∧
    (s.takeConsignment c0).azu = s.azu ∧ (s.takeConsignment c0).set = s.set ∧
    (s.takeConsignment c0).retained = s.retained ∧ (s.takeConsignment c0).ms = s.ms ∧
    (s.takeConsignment c0).pins = s.pins ∧ (s.takeConsignment c0).pending = s.pending ∧
    (s.takeConsignment c0).ct.holdDispenser = s.ct.holdDispenser ∧
    (s.takeConsignment c0).ct.holdReject = s.ct.holdReject ∧
    (s.takeConsignment c0).ct.holdCapture = s.ct.holdCapture ∧
    (s.takeConsignment c0).ct.holdLane = s.ct.holdLane ∧
    (s.takeConsignment c0).dpl.nextTag = s.dpl.nextTag ∧
    (s.takeConsignment c0).dpl.sequence = s.dpl.sequence ∧
    (s.takeConsignment c0).slp.receiver = s.slp.receiver ∧
    (s.takeConsignment c0).slp.waiting = s.slp.waiting ∧
    (s.takeConsignment c0).slp.response = s.slp.response := by
  unfold State.takeConsignment
  split <;> simp

@[simp] theorem State.comeBack_frame (s : State) (c0 : Consignment) :
    (s.comeBack c0).dpl = s.dpl ∧ (s.comeBack c0).ntc = s.ntc ∧ (s.comeBack c0).gmu = s.gmu ∧
    (s.comeBack c0).ldc = s.ldc ∧ (s.comeBack c0).ecc = s.ecc ∧ (s.comeBack c0).azu = s.azu ∧
    (s.comeBack c0).set = s.set ∧ (s.comeBack c0).retained = s.retained ∧ (s.comeBack c0).ms = s.ms ∧
    (s.comeBack c0).pins = s.pins ∧ (s.comeBack c0).pending = s.pending ∧
    (s.comeBack c0).ct.holdDispenser = s.ct.holdDispenser ∧
    (s.comeBack c0).ct.holdReject = s.ct.holdReject ∧
    (s.comeBack c0).ct.holdCapture = s.ct.holdCapture ∧ (s.comeBack c0).ct.holdLane = s.ct.holdLane ∧
    (s.comeBack c0).ct.last = s.ct.last ∧ (s.comeBack c0).slp.receiver = s.slp.receiver ∧
    (s.comeBack c0).slp.waiting = s.slp.waiting ∧ (s.comeBack c0).slp.response = s.slp.response := by
  unfold State.comeBack
  (repeat' split) <;> simp

@[simp] theorem State.presentConsignment_frame (s : State) (c0 : Consignment) :
    (s.presentConsignment c0).dpl = s.dpl ∧ (s.presentConsignment c0).ntc = s.ntc ∧
    (s.presentConsignment c0).gmu = s.gmu ∧ (s.presentConsignment c0).ldc = s.ldc ∧
    (s.presentConsignment c0).ecc = s.ecc ∧ (s.presentConsignment c0).azu = s.azu ∧
    (s.presentConsignment c0).set = s.set ∧ (s.presentConsignment c0).retained = s.retained ∧
    (s.presentConsignment c0).ms = s.ms ∧ (s.presentConsignment c0).pins = s.pins ∧
    (s.presentConsignment c0).pending = s.pending ∧
    (s.presentConsignment c0).ct.holdDispenser = s.ct.holdDispenser ∧
    (s.presentConsignment c0).ct.holdReject = s.ct.holdReject ∧
    (s.presentConsignment c0).ct.holdCapture = s.ct.holdCapture ∧
    (s.presentConsignment c0).ct.holdLane = s.ct.holdLane ∧
    (s.presentConsignment c0).ct.last = s.ct.last ∧
    (s.presentConsignment c0).slp.receiver = s.slp.receiver ∧
    (s.presentConsignment c0).slp.waiting = s.slp.waiting ∧
    (s.presentConsignment c0).slp.response = s.slp.response := by
  unfold State.presentConsignment
  (repeat' split) <;> simp

@[simp] theorem State.takeDeposit_frame (s : State) (l : Lane) :
    (s.takeDeposit l).dpl = s.dpl ∧ (s.takeDeposit l).ntc = s.ntc ∧ (s.takeDeposit l).gmu = s.gmu ∧
    (s.takeDeposit l).ldc = s.ldc ∧ (s.takeDeposit l).ecc = s.ecc ∧ (s.takeDeposit l).azu = s.azu ∧
    (s.takeDeposit l).set = s.set ∧ (s.takeDeposit l).retained = s.retained ∧
    (s.takeDeposit l).ms = s.ms ∧ (s.takeDeposit l).pins = s.pins ∧
    (s.takeDeposit l).pending = s.pending ∧ (s.takeDeposit l).ct.holdDispenser = s.ct.holdDispenser ∧
    (s.takeDeposit l).ct.holdReject = s.ct.holdReject ∧
    (s.takeDeposit l).ct.holdCapture = s.ct.holdCapture ∧
    (s.takeDeposit l).ct.holdLane = s.ct.holdLane ∧ (s.takeDeposit l).ct.last = s.ct.last ∧
    (s.takeDeposit l).slp.receiver = s.slp.receiver ∧ (s.takeDeposit l).slp.waiting = s.slp.waiting ∧
    (s.takeDeposit l).slp.response = s.slp.response := by
  simp [State.takeDeposit]

@[simp] theorem State.takeUnseen_frame (s : State) (b : Bundle) (c : Consignment) :
    (s.takeUnseen b c).ldc = s.ldc ∧ (s.takeUnseen b c).ecc = s.ecc ∧
    (s.takeUnseen b c).retained = s.retained ∧ (s.takeUnseen b c).ms = s.ms ∧
    (s.takeUnseen b c).pins = s.pins ∧ (s.takeUnseen b c).pending = s.pending ∧
    (s.takeUnseen b c).ct.holdDispenser = s.ct.holdDispenser ∧
    (s.takeUnseen b c).ct.holdReject = s.ct.holdReject ∧
    (s.takeUnseen b c).ct.holdCapture = s.ct.holdCapture ∧
    (s.takeUnseen b c).ct.holdLane = s.ct.holdLane ∧
    (s.takeUnseen b c).dpl.nextTag = s.dpl.nextTag ∧
    (s.takeUnseen b c).dpl.sequence = s.dpl.sequence ∧
    (s.takeUnseen b c).ntc.pickFails = s.ntc.pickFails ∧
    (s.takeUnseen b c).azu.zones = s.azu.zones ∧ (s.takeUnseen b c).azu.cycle = s.azu.cycle ∧
    (s.takeUnseen b c).azu.grants = s.azu.grants ∧
    (s.takeUnseen b c).slp.receiver = s.slp.receiver ∧
    (s.takeUnseen b c).slp.waiting = s.slp.waiting ∧
    (s.takeUnseen b c).slp.response = s.slp.response := by
  simp [State.takeUnseen]

@[simp] theorem State.judgeHome_frame (s : State) (l : Lane) (restart : Bool) :
    (s.judgeHome l restart).ldc = s.ldc ∧ (s.judgeHome l restart).ecc = s.ecc ∧
    (s.judgeHome l restart).retained = s.retained ∧ (s.judgeHome l restart).ms = s.ms ∧
    (s.judgeHome l restart).pins = s.pins ∧ (s.judgeHome l restart).pending = s.pending ∧
    (s.judgeHome l restart).ct.holdDispenser = s.ct.holdDispenser ∧
    (s.judgeHome l restart).ct.holdReject = s.ct.holdReject ∧
    (s.judgeHome l restart).ct.holdCapture = s.ct.holdCapture ∧
    (s.judgeHome l restart).ct.holdLane = s.ct.holdLane ∧
    (s.judgeHome l restart).dpl.nextTag = s.dpl.nextTag ∧
    (s.judgeHome l restart).dpl.sequence = s.dpl.sequence ∧
    (s.judgeHome l restart).ntc.pickFails = s.ntc.pickFails ∧
    (s.judgeHome l restart).azu.zones = s.azu.zones ∧ (s.judgeHome l restart).azu.cycle = s.azu.cycle ∧
    (s.judgeHome l restart).azu.grants = s.azu.grants ∧
    (s.judgeHome l restart).slp.receiver = s.slp.receiver ∧
    (s.judgeHome l restart).slp.waiting = s.slp.waiting ∧
    (s.judgeHome l restart).slp.response = s.slp.response := by
  unfold State.judgeHome
  (repeat' split) <;> simp

@[simp] theorem State.enterHome_frame (s : State) (l : Lane) (flag : Bool) :
    (s.enterHome l flag).ecc = s.ecc ∧ (s.enterHome l flag).retained = s.retained ∧
    (s.enterHome l flag).ms = s.ms ∧ (s.enterHome l flag).pending = s.pending ∧
    (s.enterHome l flag).ct.holdDispenser = s.ct.holdDispenser ∧
    (s.enterHome l flag).ct.holdReject = s.ct.holdReject ∧
    (s.enterHome l flag).ct.holdCapture = s.ct.holdCapture ∧
    (s.enterHome l flag).ct.holdLane = s.ct.holdLane ∧
    (s.enterHome l flag).dpl.nextTag = s.dpl.nextTag ∧
    (s.enterHome l flag).dpl.sequence = s.dpl.sequence ∧
    (s.enterHome l flag).ntc.pickFails = s.ntc.pickFails ∧
    (s.enterHome l flag).azu.zones = s.azu.zones ∧ (s.enterHome l flag).azu.cycle = s.azu.cycle ∧
    (s.enterHome l flag).azu.grants = s.azu.grants ∧
    (s.enterHome l flag).slp.receiver = s.slp.receiver ∧
    (s.enterHome l flag).slp.waiting = s.slp.waiting ∧
    (s.enterHome l flag).slp.response = s.slp.response ∧
    (s.enterHome l flag).pins.warning = s.pins.warning ∧
    (s.enterHome l flag).pins.presence = s.pins.presence ∧
    (s.enterHome l flag).pins.throat = s.pins.throat ∧ (s.enterHome l flag).pins.tray = s.pins.tray := by
  unfold State.enterHome
  split <;> simp

@[simp] theorem State.enterOut_frame (s : State) (l : Lane) :
    (s.enterOut l).dpl = s.dpl ∧ (s.enterOut l).gmu = s.gmu ∧ (s.enterOut l).ecc = s.ecc ∧
    (s.enterOut l).set = s.set ∧ (s.enterOut l).retained = s.retained ∧ (s.enterOut l).ms = s.ms ∧
    (s.enterOut l).pending = s.pending ∧ (s.enterOut l).ct.holdDispenser = s.ct.holdDispenser ∧
    (s.enterOut l).ct.holdReject = s.ct.holdReject ∧ (s.enterOut l).ct.holdCapture = s.ct.holdCapture ∧
    (s.enterOut l).ct.holdLane = s.ct.holdLane ∧ (s.enterOut l).ct.last = s.ct.last ∧
    (s.enterOut l).ntc.pickFails = s.ntc.pickFails ∧ (s.enterOut l).azu.zones = s.azu.zones ∧
    (s.enterOut l).azu.cycle = s.azu.cycle ∧ (s.enterOut l).azu.grants = s.azu.grants ∧
    (s.enterOut l).slp.receiver = s.slp.receiver ∧ (s.enterOut l).slp.waiting = s.slp.waiting ∧
    (s.enterOut l).slp.response = s.slp.response ∧ (s.enterOut l).pins.warning = s.pins.warning ∧
    (s.enterOut l).pins.presence = s.pins.presence ∧ (s.enterOut l).pins.throat = s.pins.throat ∧
    (s.enterOut l).pins.tray = s.pins.tray := by
  unfold State.enterOut
  dsimp only
  split <;> simp

@[simp] theorem State.sendHome_frame (s : State) (l : Lane) (flag : Bool) :
    (s.sendHome l flag).ecc = s.ecc ∧ (s.sendHome l flag).retained = s.retained ∧
    (s.sendHome l flag).ms = s.ms ∧ (s.sendHome l flag).pending = s.pending ∧
    (s.sendHome l flag).ct.holdDispenser = s.ct.holdDispenser ∧
    (s.sendHome l flag).ct.holdReject = s.ct.holdReject ∧
    (s.sendHome l flag).ct.holdCapture = s.ct.holdCapture ∧
    (s.sendHome l flag).ct.holdLane = s.ct.holdLane ∧ (s.sendHome l flag).dpl.nextTag = s.dpl.nextTag ∧
    (s.sendHome l flag).dpl.sequence = s.dpl.sequence ∧
    (s.sendHome l flag).ntc.pickFails = s.ntc.pickFails ∧ (s.sendHome l flag).azu.zones = s.azu.zones ∧
    (s.sendHome l flag).azu.cycle = s.azu.cycle ∧ (s.sendHome l flag).azu.grants = s.azu.grants ∧
    (s.sendHome l flag).slp.receiver = s.slp.receiver ∧
    (s.sendHome l flag).slp.waiting = s.slp.waiting ∧
    (s.sendHome l flag).slp.response = s.slp.response ∧
    (s.sendHome l flag).pins.warning = s.pins.warning ∧
    (s.sendHome l flag).pins.presence = s.pins.presence ∧
    (s.sendHome l flag).pins.throat = s.pins.throat ∧ (s.sendHome l flag).pins.tray = s.pins.tray := by
  unfold State.sendHome
  split <;> simp

@[simp] theorem State.present_frame (s : State) (l : Lane) :
    (s.present l).dpl = s.dpl ∧ (s.present l).gmu = s.gmu ∧ (s.present l).ecc = s.ecc ∧
    (s.present l).slp = s.slp ∧ (s.present l).set = s.set ∧ (s.present l).retained = s.retained ∧
    (s.present l).ms = s.ms ∧ (s.present l).pending = s.pending ∧
    (s.present l).ct.holdDispenser = s.ct.holdDispenser ∧
    (s.present l).ct.holdReject = s.ct.holdReject ∧ (s.present l).ct.holdCapture = s.ct.holdCapture ∧
    (s.present l).ct.holdLane = s.ct.holdLane ∧ (s.present l).ct.last = s.ct.last ∧
    (s.present l).ntc.pickFails = s.ntc.pickFails ∧ (s.present l).azu.zones = s.azu.zones ∧
    (s.present l).azu.cycle = s.azu.cycle ∧ (s.present l).azu.grants = s.azu.grants ∧
    (s.present l).pins.warning = s.pins.warning ∧ (s.present l).pins.presence = s.pins.presence ∧
    (s.present l).pins.throat = s.pins.throat ∧ (s.present l).pins.tray = s.pins.tray := by
  simp [State.present]

@[simp] theorem State.retract_frame (s : State) (l : Lane) :
    (s.retract l).dpl = s.dpl ∧ (s.retract l).gmu = s.gmu ∧ (s.retract l).ecc = s.ecc ∧
    (s.retract l).slp = s.slp ∧ (s.retract l).set = s.set ∧ (s.retract l).retained = s.retained ∧
    (s.retract l).ms = s.ms ∧ (s.retract l).pending = s.pending ∧
    (s.retract l).ct.holdDispenser = s.ct.holdDispenser ∧
    (s.retract l).ct.holdReject = s.ct.holdReject ∧ (s.retract l).ct.holdCapture = s.ct.holdCapture ∧
    (s.retract l).ct.holdLane = s.ct.holdLane ∧ (s.retract l).ct.last = s.ct.last ∧
    (s.retract l).ntc.pickFails = s.ntc.pickFails ∧ (s.retract l).azu.zones = s.azu.zones ∧
    (s.retract l).azu.cycle = s.azu.cycle ∧ (s.retract l).azu.grants = s.azu.grants ∧
    (s.retract l).pins.warning = s.pins.warning ∧ (s.retract l).pins.presence = s.pins.presence ∧
    (s.retract l).pins.throat = s.pins.throat ∧ (s.retract l).pins.tray = s.pins.tray := by
  simp [State.retract]

@[simp] theorem State.autoPresent_frame (s : State) (l : Lane) :
    (s.autoPresent l).dpl = s.dpl ∧ (s.autoPresent l).gmu = s.gmu ∧ (s.autoPresent l).ecc = s.ecc ∧
    (s.autoPresent l).slp = s.slp ∧ (s.autoPresent l).set = s.set ∧
    (s.autoPresent l).retained = s.retained ∧ (s.autoPresent l).ms = s.ms ∧
    (s.autoPresent l).pending = s.pending ∧ (s.autoPresent l).ct.holdDispenser = s.ct.holdDispenser ∧
    (s.autoPresent l).ct.holdReject = s.ct.holdReject ∧
    (s.autoPresent l).ct.holdCapture = s.ct.holdCapture ∧
    (s.autoPresent l).ct.holdLane = s.ct.holdLane ∧ (s.autoPresent l).ct.last = s.ct.last ∧
    (s.autoPresent l).ntc.pickFails = s.ntc.pickFails ∧ (s.autoPresent l).azu.zones = s.azu.zones ∧
    (s.autoPresent l).azu.cycle = s.azu.cycle ∧ (s.autoPresent l).azu.grants = s.azu.grants ∧
    (s.autoPresent l).pins.warning = s.pins.warning ∧
    (s.autoPresent l).pins.presence = s.pins.presence ∧ (s.autoPresent l).pins.throat = s.pins.throat ∧
    (s.autoPresent l).pins.tray = s.pins.tray := by
  unfold State.autoPresent
  split <;> simp

@[simp] theorem State.motionOut_frame (s : State) (l : Lane) :
    (s.motionOut l).dpl = s.dpl ∧ (s.motionOut l).gmu = s.gmu ∧ (s.motionOut l).ecc = s.ecc ∧
    (s.motionOut l).set = s.set ∧ (s.motionOut l).retained = s.retained ∧ (s.motionOut l).ms = s.ms ∧
    (s.motionOut l).pending = s.pending ∧ (s.motionOut l).ct.holdDispenser = s.ct.holdDispenser ∧
    (s.motionOut l).ct.holdReject = s.ct.holdReject ∧
    (s.motionOut l).ct.holdCapture = s.ct.holdCapture ∧ (s.motionOut l).ct.holdLane = s.ct.holdLane ∧
    (s.motionOut l).ct.last = s.ct.last ∧ (s.motionOut l).ntc.pickFails = s.ntc.pickFails ∧
    (s.motionOut l).azu.zones = s.azu.zones ∧ (s.motionOut l).azu.cycle = s.azu.cycle ∧
    (s.motionOut l).azu.grants = s.azu.grants ∧ (s.motionOut l).slp.receiver = s.slp.receiver ∧
    (s.motionOut l).slp.waiting = s.slp.waiting ∧ (s.motionOut l).slp.response = s.slp.response ∧
    (s.motionOut l).pins.warning = s.pins.warning ∧ (s.motionOut l).pins.presence = s.pins.presence ∧
    (s.motionOut l).pins.throat = s.pins.throat ∧ (s.motionOut l).pins.tray = s.pins.tray := by
  unfold State.motionOut
  dsimp only
  split <;> simp

@[simp] theorem State.takeOut_frame (s : State) (l : Lane) :
    (s.takeOut l).dpl = s.dpl ∧ (s.takeOut l).gmu = s.gmu ∧ (s.takeOut l).ecc = s.ecc ∧
    (s.takeOut l).slp = s.slp ∧ (s.takeOut l).set = s.set ∧ (s.takeOut l).retained = s.retained ∧
    (s.takeOut l).ms = s.ms ∧ (s.takeOut l).pending = s.pending ∧
    (s.takeOut l).ct.holdDispenser = s.ct.holdDispenser ∧
    (s.takeOut l).ct.holdReject = s.ct.holdReject ∧ (s.takeOut l).ct.holdCapture = s.ct.holdCapture ∧
    (s.takeOut l).ct.holdLane = s.ct.holdLane ∧ (s.takeOut l).ct.last = s.ct.last ∧
    (s.takeOut l).ntc.pickFails = s.ntc.pickFails ∧ (s.takeOut l).azu.zones = s.azu.zones ∧
    (s.takeOut l).azu.cycle = s.azu.cycle ∧ (s.takeOut l).azu.grants = s.azu.grants ∧
    (s.takeOut l).pins.warning = s.pins.warning ∧ (s.takeOut l).pins.presence = s.pins.presence ∧
    (s.takeOut l).pins.throat = s.pins.throat ∧ (s.takeOut l).pins.tray = s.pins.tray := by
  unfold State.takeOut
  dsimp only
  split <;> simp

@[simp] theorem State.arriveHome_frame (s : State) (l : Lane) :
    (s.arriveHome l).ecc = s.ecc ∧ (s.arriveHome l).retained = s.retained ∧
    (s.arriveHome l).ms = s.ms ∧ (s.arriveHome l).pending = s.pending ∧
    (s.arriveHome l).ct.holdDispenser = s.ct.holdDispenser ∧
    (s.arriveHome l).ct.holdReject = s.ct.holdReject ∧
    (s.arriveHome l).ct.holdCapture = s.ct.holdCapture ∧ (s.arriveHome l).ct.holdLane = s.ct.holdLane ∧
    (s.arriveHome l).dpl.nextTag = s.dpl.nextTag ∧ (s.arriveHome l).dpl.sequence = s.dpl.sequence ∧
    (s.arriveHome l).ntc.pickFails = s.ntc.pickFails ∧ (s.arriveHome l).azu.zones = s.azu.zones ∧
    (s.arriveHome l).azu.cycle = s.azu.cycle ∧ (s.arriveHome l).azu.grants = s.azu.grants ∧
    (s.arriveHome l).slp.receiver = s.slp.receiver ∧ (s.arriveHome l).slp.waiting = s.slp.waiting ∧
    (s.arriveHome l).slp.response = s.slp.response ∧ (s.arriveHome l).pins.warning = s.pins.warning ∧
    (s.arriveHome l).pins.presence = s.pins.presence ∧ (s.arriveHome l).pins.throat = s.pins.throat ∧
    (s.arriveHome l).pins.tray = s.pins.tray := by
  unfold State.arriveHome
  split <;> simp

@[simp] theorem State.arriveOut_frame (s : State) (l : Lane) :
    (s.arriveOut l).dpl = s.dpl ∧ (s.arriveOut l).gmu = s.gmu ∧ (s.arriveOut l).ecc = s.ecc ∧
    (s.arriveOut l).set = s.set ∧ (s.arriveOut l).retained = s.retained ∧ (s.arriveOut l).ms = s.ms ∧
    (s.arriveOut l).pending = s.pending ∧ (s.arriveOut l).ct.holdDispenser = s.ct.holdDispenser ∧
    (s.arriveOut l).ct.holdReject = s.ct.holdReject ∧
    (s.arriveOut l).ct.holdCapture = s.ct.holdCapture ∧ (s.arriveOut l).ct.holdLane = s.ct.holdLane ∧
    (s.arriveOut l).ct.last = s.ct.last ∧ (s.arriveOut l).ntc.pickFails = s.ntc.pickFails ∧
    (s.arriveOut l).azu.zones = s.azu.zones ∧ (s.arriveOut l).azu.cycle = s.azu.cycle ∧
    (s.arriveOut l).azu.grants = s.azu.grants ∧ (s.arriveOut l).slp.receiver = s.slp.receiver ∧
    (s.arriveOut l).slp.waiting = s.slp.waiting ∧ (s.arriveOut l).slp.response = s.slp.response ∧
    (s.arriveOut l).pins.warning = s.pins.warning ∧ (s.arriveOut l).pins.presence = s.pins.presence ∧
    (s.arriveOut l).pins.throat = s.pins.throat ∧ (s.arriveOut l).pins.tray = s.pins.tray := by
  unfold State.arriveOut
  split <;> simp

@[simp] theorem State.tellerEmpties_frame (s : State) (c0 : Consignment) :
    (s.tellerEmpties c0).dpl = s.dpl ∧ (s.tellerEmpties c0).ntc = s.ntc ∧
    (s.tellerEmpties c0).gmu = s.gmu ∧ (s.tellerEmpties c0).ldc = s.ldc ∧
    (s.tellerEmpties c0).ecc = s.ecc ∧ (s.tellerEmpties c0).azu = s.azu ∧
    (s.tellerEmpties c0).set = s.set ∧ (s.tellerEmpties c0).retained = s.retained ∧
    (s.tellerEmpties c0).ms = s.ms ∧ (s.tellerEmpties c0).pins = s.pins ∧
    (s.tellerEmpties c0).pending = s.pending ∧
    (s.tellerEmpties c0).ct.holdDispenser = s.ct.holdDispenser ∧
    (s.tellerEmpties c0).ct.holdReject = s.ct.holdReject ∧
    (s.tellerEmpties c0).ct.holdCapture = s.ct.holdCapture ∧
    (s.tellerEmpties c0).ct.holdLane = s.ct.holdLane ∧ (s.tellerEmpties c0).ct.last = s.ct.last ∧
    (s.tellerEmpties c0).slp.receiver = s.slp.receiver ∧
    (s.tellerEmpties c0).slp.waiting = s.slp.waiting ∧
    (s.tellerEmpties c0).slp.response = s.slp.response := by
  unfold State.tellerEmpties
  (repeat' split) <;> simp

@[simp] theorem State.trayEmptied_frame (s : State) (l : Lane) :
    (s.trayEmptied l).ntc = s.ntc ∧ (s.trayEmptied l).gmu = s.gmu ∧ (s.trayEmptied l).ldc = s.ldc ∧
    (s.trayEmptied l).ecc = s.ecc ∧ (s.trayEmptied l).azu = s.azu ∧ (s.trayEmptied l).set = s.set ∧
    (s.trayEmptied l).retained = s.retained ∧ (s.trayEmptied l).ms = s.ms ∧
    (s.trayEmptied l).pins = s.pins ∧ (s.trayEmptied l).pending = s.pending ∧
    (s.trayEmptied l).ct.holdDispenser = s.ct.holdDispenser ∧
    (s.trayEmptied l).ct.holdReject = s.ct.holdReject ∧
    (s.trayEmptied l).ct.holdCapture = s.ct.holdCapture ∧
    (s.trayEmptied l).ct.holdLane = s.ct.holdLane ∧ (s.trayEmptied l).dpl.nextTag = s.dpl.nextTag ∧
    (s.trayEmptied l).dpl.sequence = s.dpl.sequence ∧ (s.trayEmptied l).slp.receiver = s.slp.receiver ∧
    (s.trayEmptied l).slp.waiting = s.slp.waiting ∧ (s.trayEmptied l).slp.response = s.slp.response := by
  unfold State.trayEmptied
  (repeat' split) <;> simp

@[simp] theorem State.trayRestart_frame (s : State) (l : Lane) :
    (s.trayRestart l).ct = s.ct ∧ (s.trayRestart l).dpl = s.dpl ∧ (s.trayRestart l).ntc = s.ntc ∧
    (s.trayRestart l).gmu = s.gmu ∧ (s.trayRestart l).ecc = s.ecc ∧ (s.trayRestart l).azu = s.azu ∧
    (s.trayRestart l).slp = s.slp ∧ (s.trayRestart l).set = s.set ∧
    (s.trayRestart l).retained = s.retained ∧ (s.trayRestart l).ms = s.ms ∧
    (s.trayRestart l).pins = s.pins ∧ (s.trayRestart l).pending = s.pending := by
  unfold State.trayRestart
  split <;> simp

@[simp] theorem State.trayChange_frame (s : State) (l : Lane) (occupied : Bool) :
    (s.trayChange l occupied).gmu = s.gmu ∧ (s.trayChange l occupied).ecc = s.ecc ∧
    (s.trayChange l occupied).set = s.set ∧ (s.trayChange l occupied).retained = s.retained ∧
    (s.trayChange l occupied).ms = s.ms ∧ (s.trayChange l occupied).pending = s.pending ∧
    (s.trayChange l occupied).ct.holdDispenser = s.ct.holdDispenser ∧
    (s.trayChange l occupied).ct.holdReject = s.ct.holdReject ∧
    (s.trayChange l occupied).ct.holdCapture = s.ct.holdCapture ∧
    (s.trayChange l occupied).ct.holdLane = s.ct.holdLane ∧
    (s.trayChange l occupied).dpl.nextTag = s.dpl.nextTag ∧
    (s.trayChange l occupied).dpl.sequence = s.dpl.sequence ∧
    (s.trayChange l occupied).ntc.pickFails = s.ntc.pickFails ∧
    (s.trayChange l occupied).azu.zones = s.azu.zones ∧
    (s.trayChange l occupied).azu.cycle = s.azu.cycle ∧
    (s.trayChange l occupied).azu.grants = s.azu.grants ∧
    (s.trayChange l occupied).slp.receiver = s.slp.receiver ∧
    (s.trayChange l occupied).slp.waiting = s.slp.waiting ∧
    (s.trayChange l occupied).slp.response = s.slp.response ∧
    (s.trayChange l occupied).pins.warning = s.pins.warning ∧
    (s.trayChange l occupied).pins.presence = s.pins.presence ∧
    (s.trayChange l occupied).pins.throat = s.pins.throat := by
  unfold State.trayChange
  (repeat' split) <;> simp

@[simp] theorem State.haltDrawer_frame (s : State) (l : Lane) :
    (s.haltDrawer l).ct = s.ct ∧ (s.haltDrawer l).dpl = s.dpl ∧ (s.haltDrawer l).ntc = s.ntc ∧
    (s.haltDrawer l).gmu = s.gmu ∧ (s.haltDrawer l).ecc = s.ecc ∧ (s.haltDrawer l).slp = s.slp ∧
    (s.haltDrawer l).set = s.set ∧ (s.haltDrawer l).retained = s.retained ∧
    (s.haltDrawer l).ms = s.ms ∧ (s.haltDrawer l).pins = s.pins ∧
    (s.haltDrawer l).pending = s.pending ∧ (s.haltDrawer l).azu.zones = s.azu.zones ∧
    (s.haltDrawer l).azu.cycle = s.azu.cycle ∧ (s.haltDrawer l).azu.grants = s.azu.grants := by
  unfold State.haltDrawer
  split <;> simp

@[simp] theorem State.lockLane_frame (s : State) (l : Lane) (z : ZoneId) :
    (s.lockLane l z).dpl = s.dpl ∧ (s.lockLane l z).gmu = s.gmu ∧ (s.lockLane l z).ecc = s.ecc ∧
    (s.lockLane l z).set = s.set ∧ (s.lockLane l z).retained = s.retained ∧
    (s.lockLane l z).ms = s.ms ∧ (s.lockLane l z).pending = s.pending ∧
    (s.lockLane l z).ct.holdDispenser = s.ct.holdDispenser ∧
    (s.lockLane l z).ct.holdReject = s.ct.holdReject ∧
    (s.lockLane l z).ct.holdCapture = s.ct.holdCapture ∧ (s.lockLane l z).ct.holdLane = s.ct.holdLane ∧
    (s.lockLane l z).ct.last = s.ct.last ∧ (s.lockLane l z).ntc.pickFails = s.ntc.pickFails ∧
    (s.lockLane l z).azu.zones = s.azu.zones ∧ (s.lockLane l z).azu.cycle = s.azu.cycle ∧
    (s.lockLane l z).azu.grants = s.azu.grants ∧ (s.lockLane l z).slp.receiver = s.slp.receiver ∧
    (s.lockLane l z).slp.waiting = s.slp.waiting ∧ (s.lockLane l z).slp.response = s.slp.response ∧
    (s.lockLane l z).pins.warning = s.pins.warning ∧ (s.lockLane l z).pins.presence = s.pins.presence ∧
    (s.lockLane l z).pins.throat = s.pins.throat ∧ (s.lockLane l z).pins.tray = s.pins.tray := by
  unfold State.lockLane
  dsimp only
  (repeat' split) <;> simp

@[simp] theorem State.presentDelivered_frame (s : State) (l : Lane) :
    (s.presentDelivered l).dpl = s.dpl ∧ (s.presentDelivered l).gmu = s.gmu ∧
    (s.presentDelivered l).ecc = s.ecc ∧ (s.presentDelivered l).slp = s.slp ∧
    (s.presentDelivered l).set = s.set ∧ (s.presentDelivered l).retained = s.retained ∧
    (s.presentDelivered l).ms = s.ms ∧ (s.presentDelivered l).pending = s.pending ∧
    (s.presentDelivered l).ct.holdDispenser = s.ct.holdDispenser ∧
    (s.presentDelivered l).ct.holdReject = s.ct.holdReject ∧
    (s.presentDelivered l).ct.holdCapture = s.ct.holdCapture ∧
    (s.presentDelivered l).ct.holdLane = s.ct.holdLane ∧ (s.presentDelivered l).ct.last = s.ct.last ∧
    (s.presentDelivered l).ntc.pickFails = s.ntc.pickFails ∧
    (s.presentDelivered l).azu.zones = s.azu.zones ∧ (s.presentDelivered l).azu.cycle = s.azu.cycle ∧
    (s.presentDelivered l).azu.grants = s.azu.grants ∧
    (s.presentDelivered l).pins.warning = s.pins.warning ∧
    (s.presentDelivered l).pins.presence = s.pins.presence ∧
    (s.presentDelivered l).pins.throat = s.pins.throat ∧ (s.presentDelivered l).pins.tray = s.pins.tray := by
  unfold State.presentDelivered
  (repeat' split) <;> simp

@[simp] theorem State.endLock_frame (s : State) (l : Lane) :
    (s.endLock l).ecc = s.ecc ∧ (s.endLock l).retained = s.retained ∧ (s.endLock l).ms = s.ms ∧
    (s.endLock l).pending = s.pending ∧ (s.endLock l).ct.holdDispenser = s.ct.holdDispenser ∧
    (s.endLock l).ct.holdReject = s.ct.holdReject ∧ (s.endLock l).ct.holdCapture = s.ct.holdCapture ∧
    (s.endLock l).ct.holdLane = s.ct.holdLane ∧ (s.endLock l).dpl.nextTag = s.dpl.nextTag ∧
    (s.endLock l).dpl.sequence = s.dpl.sequence ∧ (s.endLock l).ntc.pickFails = s.ntc.pickFails ∧
    (s.endLock l).azu.zones = s.azu.zones ∧ (s.endLock l).azu.cycle = s.azu.cycle ∧
    (s.endLock l).azu.grants = s.azu.grants ∧ (s.endLock l).slp.receiver = s.slp.receiver ∧
    (s.endLock l).slp.waiting = s.slp.waiting ∧ (s.endLock l).slp.response = s.slp.response ∧
    (s.endLock l).pins.warning = s.pins.warning ∧ (s.endLock l).pins.presence = s.pins.presence ∧
    (s.endLock l).pins.throat = s.pins.throat ∧ (s.endLock l).pins.tray = s.pins.tray := by
  unfold State.endLock
  dsimp only
  (repeat' split) <;> simp

@[simp] theorem State.resetLane_frame (s : State) (l : Lane) :
    (s.resetLane l).ecc = s.ecc ∧ (s.resetLane l).retained = s.retained ∧ (s.resetLane l).ms = s.ms ∧
    (s.resetLane l).pending = s.pending ∧ (s.resetLane l).ct.holdDispenser = s.ct.holdDispenser ∧
    (s.resetLane l).ct.holdReject = s.ct.holdReject ∧
    (s.resetLane l).ct.holdCapture = s.ct.holdCapture ∧ (s.resetLane l).ct.holdLane = s.ct.holdLane ∧
    (s.resetLane l).dpl.nextTag = s.dpl.nextTag ∧ (s.resetLane l).dpl.sequence = s.dpl.sequence ∧
    (s.resetLane l).ntc.pickFails = s.ntc.pickFails ∧ (s.resetLane l).azu.zones = s.azu.zones ∧
    (s.resetLane l).azu.cycle = s.azu.cycle ∧ (s.resetLane l).azu.grants = s.azu.grants ∧
    (s.resetLane l).slp.receiver = s.slp.receiver ∧ (s.resetLane l).slp.waiting = s.slp.waiting ∧
    (s.resetLane l).slp.response = s.slp.response ∧ (s.resetLane l).pins.warning = s.pins.warning ∧
    (s.resetLane l).pins.presence = s.pins.presence ∧ (s.resetLane l).pins.throat = s.pins.throat ∧
    (s.resetLane l).pins.tray = s.pins.tray := by
  unfold State.resetLane
  dsimp only
  (repeat' split) <;> simp

@[simp] theorem State.warnLane_frame (s : State) (l : Lane) :
    (s.warnLane l).ct = s.ct ∧ (s.warnLane l).dpl = s.dpl ∧ (s.warnLane l).ntc = s.ntc ∧
    (s.warnLane l).gmu = s.gmu ∧ (s.warnLane l).ecc = s.ecc ∧ (s.warnLane l).slp = s.slp ∧
    (s.warnLane l).set = s.set ∧ (s.warnLane l).retained = s.retained ∧ (s.warnLane l).ms = s.ms ∧
    (s.warnLane l).pins = s.pins ∧ (s.warnLane l).pending = s.pending ∧
    (s.warnLane l).azu.zones = s.azu.zones ∧ (s.warnLane l).azu.cycle = s.azu.cycle ∧
    (s.warnLane l).azu.grants = s.azu.grants := by
  simp [State.warnLane]

@[simp] theorem State.endWarnLane_frame (s : State) (l : Lane) :
    (s.endWarnLane l).ecc = s.ecc ∧ (s.endWarnLane l).retained = s.retained ∧
    (s.endWarnLane l).ms = s.ms ∧ (s.endWarnLane l).pending = s.pending ∧
    (s.endWarnLane l).ct.holdDispenser = s.ct.holdDispenser ∧
    (s.endWarnLane l).ct.holdReject = s.ct.holdReject ∧
    (s.endWarnLane l).ct.holdCapture = s.ct.holdCapture ∧
    (s.endWarnLane l).ct.holdLane = s.ct.holdLane ∧ (s.endWarnLane l).dpl.nextTag = s.dpl.nextTag ∧
    (s.endWarnLane l).dpl.sequence = s.dpl.sequence ∧
    (s.endWarnLane l).ntc.pickFails = s.ntc.pickFails ∧ (s.endWarnLane l).azu.zones = s.azu.zones ∧
    (s.endWarnLane l).azu.cycle = s.azu.cycle ∧ (s.endWarnLane l).azu.grants = s.azu.grants ∧
    (s.endWarnLane l).slp.receiver = s.slp.receiver ∧ (s.endWarnLane l).slp.waiting = s.slp.waiting ∧
    (s.endWarnLane l).slp.response = s.slp.response ∧ (s.endWarnLane l).pins.warning = s.pins.warning ∧
    (s.endWarnLane l).pins.presence = s.pins.presence ∧ (s.endWarnLane l).pins.throat = s.pins.throat ∧
    (s.endWarnLane l).pins.tray = s.pins.tray := by
  unfold State.endWarnLane
  dsimp only
  (repeat' split) <;> simp

@[simp] theorem State.onThroat_frame (s : State) (t : Throat) (f : ThroatUnit → ThroatUnit) :
    (s.onThroat t f).ct = s.ct ∧ (s.onThroat t f).dpl = s.dpl ∧ (s.onThroat t f).ntc = s.ntc ∧
    (s.onThroat t f).gmu = s.gmu ∧ (s.onThroat t f).ldc = s.ldc ∧ (s.onThroat t f).azu = s.azu ∧
    (s.onThroat t f).slp = s.slp ∧ (s.onThroat t f).set = s.set ∧
    (s.onThroat t f).retained = s.retained ∧ (s.onThroat t f).ms = s.ms ∧
    (s.onThroat t f).pins = s.pins ∧ (s.onThroat t f).pending = s.pending ∧
    (s.onThroat t f).ecc.nextNumber = s.ecc.nextNumber ∧
    (s.onThroat t f).ecc.lastServed = s.ecc.lastServed := by
  simp [State.onThroat]

@[simp] theorem State.examineThroats_frame (s : State) :
    (s.examineThroats).ct = s.ct ∧ (s.examineThroats).dpl = s.dpl ∧ (s.examineThroats).ntc = s.ntc ∧
    (s.examineThroats).gmu = s.gmu ∧ (s.examineThroats).ldc = s.ldc ∧ (s.examineThroats).azu = s.azu ∧
    (s.examineThroats).slp = s.slp ∧ (s.examineThroats).set = s.set ∧
    (s.examineThroats).retained = s.retained ∧ (s.examineThroats).ms = s.ms ∧
    (s.examineThroats).pins = s.pins ∧ (s.examineThroats).pending = s.pending ∧
    (s.examineThroats).ecc.nextNumber = s.ecc.nextNumber ∧
    (s.examineThroats).ecc.lastServed = s.ecc.lastServed := by
  simp [State.examineThroats]

@[simp] theorem State.settleThroat_frame (s : State) (t : Throat) :
    (s.settleThroat t).ct = s.ct ∧ (s.settleThroat t).dpl = s.dpl ∧ (s.settleThroat t).ntc = s.ntc ∧
    (s.settleThroat t).gmu = s.gmu ∧ (s.settleThroat t).ldc = s.ldc ∧ (s.settleThroat t).azu = s.azu ∧
    (s.settleThroat t).slp = s.slp ∧ (s.settleThroat t).set = s.set ∧
    (s.settleThroat t).retained = s.retained ∧ (s.settleThroat t).ms = s.ms ∧
    (s.settleThroat t).pins = s.pins ∧ (s.settleThroat t).pending = s.pending ∧
    (s.settleThroat t).ecc.nextNumber = s.ecc.nextNumber ∧
    (s.settleThroat t).ecc.lastServed = s.ecc.lastServed := by
  simp [State.settleThroat]

@[simp] theorem State.startEnvLeader_frame (s : State) :
    (s.startEnvLeader).ct = s.ct ∧ (s.startEnvLeader).dpl = s.dpl ∧ (s.startEnvLeader).ntc = s.ntc ∧
    (s.startEnvLeader).ldc = s.ldc ∧ (s.startEnvLeader).slp = s.slp ∧ (s.startEnvLeader).set = s.set ∧
    (s.startEnvLeader).retained = s.retained ∧ (s.startEnvLeader).ms = s.ms ∧
    (s.startEnvLeader).pins = s.pins ∧ (s.startEnvLeader).pending = s.pending ∧
    (s.startEnvLeader).ecc.nextNumber = s.ecc.nextNumber ∧
    (s.startEnvLeader).ecc.lastServed = s.ecc.lastServed ∧ (s.startEnvLeader).azu.zones = s.azu.zones ∧
    (s.startEnvLeader).azu.cycle = s.azu.cycle ∧ (s.startEnvLeader).azu.grants = s.azu.grants := by
  simp [State.startEnvLeader]

@[simp] theorem State.enterEnvLeader_frame (s : State) :
    (s.enterEnvLeader).ct = s.ct ∧ (s.enterEnvLeader).dpl = s.dpl ∧ (s.enterEnvLeader).ntc = s.ntc ∧
    (s.enterEnvLeader).ldc = s.ldc ∧ (s.enterEnvLeader).slp = s.slp ∧ (s.enterEnvLeader).set = s.set ∧
    (s.enterEnvLeader).retained = s.retained ∧ (s.enterEnvLeader).ms = s.ms ∧
    (s.enterEnvLeader).pins = s.pins ∧ (s.enterEnvLeader).pending = s.pending ∧
    (s.enterEnvLeader).ecc.nextNumber = s.ecc.nextNumber ∧
    (s.enterEnvLeader).ecc.lastServed = s.ecc.lastServed ∧ (s.enterEnvLeader).azu.zones = s.azu.zones ∧
    (s.enterEnvLeader).azu.cycle = s.azu.cycle ∧ (s.enterEnvLeader).azu.grants = s.azu.grants := by
  unfold State.enterEnvLeader
  (repeat' split) <;> simp

@[simp] theorem State.takeThroat_frame (s : State) (t : Throat) (recapture : Bool) :
    (s.takeThroat t recapture).ct = s.ct ∧ (s.takeThroat t recapture).dpl = s.dpl ∧
    (s.takeThroat t recapture).ntc = s.ntc ∧ (s.takeThroat t recapture).ldc = s.ldc ∧
    (s.takeThroat t recapture).slp = s.slp ∧ (s.takeThroat t recapture).set = s.set ∧
    (s.takeThroat t recapture).retained = s.retained ∧ (s.takeThroat t recapture).ms = s.ms ∧
    (s.takeThroat t recapture).pins = s.pins ∧ (s.takeThroat t recapture).pending = s.pending ∧
    (s.takeThroat t recapture).ecc.nextNumber = s.ecc.nextNumber ∧
    (s.takeThroat t recapture).azu.zones = s.azu.zones ∧
    (s.takeThroat t recapture).azu.cycle = s.azu.cycle ∧
    (s.takeThroat t recapture).azu.grants = s.azu.grants := by
  simp [State.takeThroat]

@[simp] theorem State.arbitrate_frame (s : State) :
    (s.arbitrate).dpl = s.dpl ∧ (s.arbitrate).ntc = s.ntc ∧ (s.arbitrate).ldc = s.ldc ∧
    (s.arbitrate).retained = s.retained ∧ (s.arbitrate).ms = s.ms ∧ (s.arbitrate).pins = s.pins ∧
    (s.arbitrate).pending = s.pending ∧ (s.arbitrate).ct.holdDispenser = s.ct.holdDispenser ∧
    (s.arbitrate).ct.holdReject = s.ct.holdReject ∧ (s.arbitrate).ct.holdCapture = s.ct.holdCapture ∧
    (s.arbitrate).ct.holdLane = s.ct.holdLane ∧ (s.arbitrate).ct.last = s.ct.last ∧
    (s.arbitrate).ecc.nextNumber = s.ecc.nextNumber ∧ (s.arbitrate).azu.zones = s.azu.zones ∧
    (s.arbitrate).azu.cycle = s.azu.cycle ∧ (s.arbitrate).azu.grants = s.azu.grants ∧
    (s.arbitrate).slp.receiver = s.slp.receiver ∧ (s.arbitrate).slp.waiting = s.slp.waiting ∧
    (s.arbitrate).slp.response = s.slp.response := by
  unfold State.arbitrate
  (repeat' split) <;> simp

@[simp] theorem State.followOpen_frame (s : State) (before : Bool) :
    (s.followOpen before).dpl = s.dpl ∧ (s.followOpen before).ntc = s.ntc ∧
    (s.followOpen before).ldc = s.ldc ∧ (s.followOpen before).retained = s.retained ∧
    (s.followOpen before).ms = s.ms ∧ (s.followOpen before).pins = s.pins ∧
    (s.followOpen before).pending = s.pending ∧
    (s.followOpen before).ct.holdDispenser = s.ct.holdDispenser ∧
    (s.followOpen before).ct.holdReject = s.ct.holdReject ∧
    (s.followOpen before).ct.holdCapture = s.ct.holdCapture ∧
    (s.followOpen before).ct.holdLane = s.ct.holdLane ∧ (s.followOpen before).ct.last = s.ct.last ∧
    (s.followOpen before).ecc.nextNumber = s.ecc.nextNumber ∧
    (s.followOpen before).azu.zones = s.azu.zones ∧ (s.followOpen before).azu.cycle = s.azu.cycle ∧
    (s.followOpen before).azu.grants = s.azu.grants ∧
    (s.followOpen before).slp.receiver = s.slp.receiver ∧
    (s.followOpen before).slp.waiting = s.slp.waiting ∧
    (s.followOpen before).slp.response = s.slp.response := by
  unfold State.followOpen
  (repeat' split) <;> simp

@[simp] theorem State.haltEnv_frame (s : State) :
    (s.haltEnv).ct = s.ct ∧ (s.haltEnv).dpl = s.dpl ∧ (s.haltEnv).ntc = s.ntc ∧
    (s.haltEnv).ldc = s.ldc ∧ (s.haltEnv).slp = s.slp ∧ (s.haltEnv).retained = s.retained ∧
    (s.haltEnv).ms = s.ms ∧ (s.haltEnv).pins = s.pins ∧ (s.haltEnv).pending = s.pending ∧
    (s.haltEnv).ecc.nextNumber = s.ecc.nextNumber ∧ (s.haltEnv).ecc.lastServed = s.ecc.lastServed ∧
    (s.haltEnv).azu.zones = s.azu.zones ∧ (s.haltEnv).azu.cycle = s.azu.cycle ∧
    (s.haltEnv).azu.grants = s.azu.grants := by
  simp [State.haltEnv]

@[simp] theorem State.enterEnvIdle_frame (s : State) :
    (s.enterEnvIdle).ct = s.ct ∧ (s.enterEnvIdle).dpl = s.dpl ∧ (s.enterEnvIdle).ntc = s.ntc ∧
    (s.enterEnvIdle).gmu = s.gmu ∧ (s.enterEnvIdle).ldc = s.ldc ∧ (s.enterEnvIdle).azu = s.azu ∧
    (s.enterEnvIdle).slp = s.slp ∧ (s.enterEnvIdle).set = s.set ∧
    (s.enterEnvIdle).retained = s.retained ∧ (s.enterEnvIdle).ms = s.ms ∧
    (s.enterEnvIdle).pins = s.pins ∧ (s.enterEnvIdle).pending = s.pending ∧
    (s.enterEnvIdle).ecc.nextNumber = s.ecc.nextNumber ∧
    (s.enterEnvIdle).ecc.lastServed = s.ecc.lastServed := by
  simp [State.enterEnvIdle]

@[simp] theorem State.stopEnvTransport_frame (s : State) (c : DoubtCause) :
    (s.stopEnvTransport c).dpl = s.dpl ∧ (s.stopEnvTransport c).ntc = s.ntc ∧
    (s.stopEnvTransport c).ldc = s.ldc ∧ (s.stopEnvTransport c).retained = s.retained ∧
    (s.stopEnvTransport c).ms = s.ms ∧ (s.stopEnvTransport c).pins = s.pins ∧
    (s.stopEnvTransport c).pending = s.pending ∧
    (s.stopEnvTransport c).ct.holdDispenser = s.ct.holdDispenser ∧
    (s.stopEnvTransport c).ct.holdReject = s.ct.holdReject ∧
    (s.stopEnvTransport c).ct.holdCapture = s.ct.holdCapture ∧
    (s.stopEnvTransport c).ct.holdLane = s.ct.holdLane ∧ (s.stopEnvTransport c).ct.last = s.ct.last ∧
    (s.stopEnvTransport c).ecc.nextNumber = s.ecc.nextNumber ∧
    (s.stopEnvTransport c).azu.zones = s.azu.zones ∧ (s.stopEnvTransport c).azu.cycle = s.azu.cycle ∧
    (s.stopEnvTransport c).azu.grants = s.azu.grants ∧
    (s.stopEnvTransport c).slp.receiver = s.slp.receiver ∧
    (s.stopEnvTransport c).slp.waiting = s.slp.waiting ∧
    (s.stopEnvTransport c).slp.response = s.slp.response := by
  unfold State.stopEnvTransport
  dsimp only
  (repeat' split) <;> simp

@[simp] theorem State.envJam_frame (s : State) :
    (s.envJam).dpl = s.dpl ∧ (s.envJam).ntc = s.ntc ∧ (s.envJam).ldc = s.ldc ∧
    (s.envJam).retained = s.retained ∧ (s.envJam).ms = s.ms ∧ (s.envJam).pins = s.pins ∧
    (s.envJam).pending = s.pending ∧ (s.envJam).ct.holdDispenser = s.ct.holdDispenser ∧
    (s.envJam).ct.holdReject = s.ct.holdReject ∧ (s.envJam).ct.holdCapture = s.ct.holdCapture ∧
    (s.envJam).ct.holdLane = s.ct.holdLane ∧ (s.envJam).ct.last = s.ct.last ∧
    (s.envJam).ecc.nextNumber = s.ecc.nextNumber ∧ (s.envJam).azu.zones = s.azu.zones ∧
    (s.envJam).azu.cycle = s.azu.cycle ∧ (s.envJam).azu.grants = s.azu.grants ∧
    (s.envJam).slp.receiver = s.slp.receiver ∧ (s.envJam).slp.waiting = s.slp.waiting ∧
    (s.envJam).slp.response = s.slp.response := by
  simp [State.envJam]

@[simp] theorem State.backToOverdue_frame (s : State) (t : Throat) :
    (s.backToOverdue t).ct = s.ct ∧ (s.backToOverdue t).dpl = s.dpl ∧ (s.backToOverdue t).ntc = s.ntc ∧
    (s.backToOverdue t).gmu = s.gmu ∧ (s.backToOverdue t).ldc = s.ldc ∧
    (s.backToOverdue t).azu = s.azu ∧ (s.backToOverdue t).slp = s.slp ∧
    (s.backToOverdue t).set = s.set ∧ (s.backToOverdue t).retained = s.retained ∧
    (s.backToOverdue t).ms = s.ms ∧ (s.backToOverdue t).pins = s.pins ∧
    (s.backToOverdue t).pending = s.pending ∧ (s.backToOverdue t).ecc.nextNumber = s.ecc.nextNumber ∧
    (s.backToOverdue t).ecc.lastServed = s.ecc.lastServed := by
  simp [State.backToOverdue]

@[simp] theorem State.backToWaiting_frame (s : State) (t : Throat) :
    (s.backToWaiting t).ct = s.ct ∧ (s.backToWaiting t).dpl = s.dpl ∧ (s.backToWaiting t).ntc = s.ntc ∧
    (s.backToWaiting t).gmu = s.gmu ∧ (s.backToWaiting t).ldc = s.ldc ∧
    (s.backToWaiting t).azu = s.azu ∧ (s.backToWaiting t).slp = s.slp ∧
    (s.backToWaiting t).set = s.set ∧ (s.backToWaiting t).retained = s.retained ∧
    (s.backToWaiting t).ms = s.ms ∧ (s.backToWaiting t).pins = s.pins ∧
    (s.backToWaiting t).pending = s.pending ∧ (s.backToWaiting t).ecc.nextNumber = s.ecc.nextNumber ∧
    (s.backToWaiting t).ecc.lastServed = s.ecc.lastServed := by
  simp [State.backToWaiting]

@[simp] theorem State.finishEnvClear_frame (s : State) :
    (s.finishEnvClear).dpl = s.dpl ∧ (s.finishEnvClear).ntc = s.ntc ∧ (s.finishEnvClear).ldc = s.ldc ∧
    (s.finishEnvClear).retained = s.retained ∧ (s.finishEnvClear).ms = s.ms ∧
    (s.finishEnvClear).pins = s.pins ∧ (s.finishEnvClear).pending = s.pending ∧
    (s.finishEnvClear).ct.holdDispenser = s.ct.holdDispenser ∧
    (s.finishEnvClear).ct.holdReject = s.ct.holdReject ∧
    (s.finishEnvClear).ct.holdCapture = s.ct.holdCapture ∧
    (s.finishEnvClear).ct.holdLane = s.ct.holdLane ∧ (s.finishEnvClear).ct.last = s.ct.last ∧
    (s.finishEnvClear).ecc.nextNumber = s.ecc.nextNumber ∧ (s.finishEnvClear).azu.zones = s.azu.zones ∧
    (s.finishEnvClear).azu.cycle = s.azu.cycle ∧ (s.finishEnvClear).azu.grants = s.azu.grants ∧
    (s.finishEnvClear).slp.receiver = s.slp.receiver ∧ (s.finishEnvClear).slp.waiting = s.slp.waiting ∧
    (s.finishEnvClear).slp.response = s.slp.response := by
  unfold State.finishEnvClear
  split <;> simp

@[simp] theorem State.dropLeader_frame (s : State) :
    (s.dropLeader).dpl = s.dpl ∧ (s.dropLeader).ntc = s.ntc ∧ (s.dropLeader).ldc = s.ldc ∧
    (s.dropLeader).retained = s.retained ∧ (s.dropLeader).ms = s.ms ∧
    (s.dropLeader).pins = s.pins ∧ (s.dropLeader).pending = s.pending ∧
    (s.dropLeader).ct.holdDispenser = s.ct.holdDispenser ∧
    (s.dropLeader).ct.holdReject = s.ct.holdReject ∧
    (s.dropLeader).ct.holdCapture = s.ct.holdCapture ∧
    (s.dropLeader).ct.holdLane = s.ct.holdLane ∧ (s.dropLeader).ct.last = s.ct.last ∧
    (s.dropLeader).ecc.nextNumber = s.ecc.nextNumber ∧ (s.dropLeader).azu.zones = s.azu.zones ∧
    (s.dropLeader).azu.cycle = s.azu.cycle ∧ (s.dropLeader).azu.grants = s.azu.grants ∧
    (s.dropLeader).slp.receiver = s.slp.receiver ∧ (s.dropLeader).slp.waiting = s.slp.waiting ∧
    (s.dropLeader).slp.response = s.slp.response := by
  unfold State.dropLeader
  dsimp only
  (repeat' split) <;> simp

@[simp] theorem State.completeReturn_frame (s : State) :
    (s.completeReturn).dpl = s.dpl ∧ (s.completeReturn).ntc = s.ntc ∧ (s.completeReturn).ldc = s.ldc ∧
    (s.completeReturn).retained = s.retained ∧ (s.completeReturn).ms = s.ms ∧
    (s.completeReturn).pins = s.pins ∧ (s.completeReturn).pending = s.pending ∧
    (s.completeReturn).ct.holdDispenser = s.ct.holdDispenser ∧
    (s.completeReturn).ct.holdReject = s.ct.holdReject ∧
    (s.completeReturn).ct.holdCapture = s.ct.holdCapture ∧
    (s.completeReturn).ct.holdLane = s.ct.holdLane ∧ (s.completeReturn).ct.last = s.ct.last ∧
    (s.completeReturn).ecc.nextNumber = s.ecc.nextNumber ∧ (s.completeReturn).azu.zones = s.azu.zones ∧
    (s.completeReturn).azu.cycle = s.azu.cycle ∧ (s.completeReturn).azu.grants = s.azu.grants ∧
    (s.completeReturn).slp.receiver = s.slp.receiver ∧ (s.completeReturn).slp.waiting = s.slp.waiting ∧
    (s.completeReturn).slp.response = s.slp.response := by
  unfold State.completeReturn
  split <;> simp

@[simp] theorem State.startReverse_frame (s : State) :
    (s.startReverse).dpl = s.dpl ∧ (s.startReverse).ntc = s.ntc ∧ (s.startReverse).ldc = s.ldc ∧
    (s.startReverse).retained = s.retained ∧ (s.startReverse).ms = s.ms ∧
    (s.startReverse).pins = s.pins ∧ (s.startReverse).pending = s.pending ∧
    (s.startReverse).ct.holdDispenser = s.ct.holdDispenser ∧
    (s.startReverse).ct.holdReject = s.ct.holdReject ∧
    (s.startReverse).ct.holdCapture = s.ct.holdCapture ∧ (s.startReverse).ct.holdLane = s.ct.holdLane ∧
    (s.startReverse).ct.last = s.ct.last ∧ (s.startReverse).ecc.nextNumber = s.ecc.nextNumber ∧
    (s.startReverse).azu.zones = s.azu.zones ∧ (s.startReverse).azu.cycle = s.azu.cycle ∧
    (s.startReverse).azu.grants = s.azu.grants ∧ (s.startReverse).slp.receiver = s.slp.receiver ∧
    (s.startReverse).slp.waiting = s.slp.waiting ∧ (s.startReverse).slp.response = s.slp.response := by
  unfold State.startReverse
  dsimp only
  (repeat' split) <;> simp

@[simp] theorem State.reverseEnv_frame (s : State) :
    (s.reverseEnv).dpl = s.dpl ∧ (s.reverseEnv).ntc = s.ntc ∧ (s.reverseEnv).ldc = s.ldc ∧
    (s.reverseEnv).retained = s.retained ∧ (s.reverseEnv).ms = s.ms ∧ (s.reverseEnv).pins = s.pins ∧
    (s.reverseEnv).pending = s.pending ∧ (s.reverseEnv).ct.holdDispenser = s.ct.holdDispenser ∧
    (s.reverseEnv).ct.holdReject = s.ct.holdReject ∧ (s.reverseEnv).ct.holdCapture = s.ct.holdCapture ∧
    (s.reverseEnv).ct.holdLane = s.ct.holdLane ∧ (s.reverseEnv).ct.last = s.ct.last ∧
    (s.reverseEnv).ecc.nextNumber = s.ecc.nextNumber ∧ (s.reverseEnv).azu.zones = s.azu.zones ∧
    (s.reverseEnv).azu.cycle = s.azu.cycle ∧ (s.reverseEnv).azu.grants = s.azu.grants ∧
    (s.reverseEnv).slp.receiver = s.slp.receiver ∧ (s.reverseEnv).slp.waiting = s.slp.waiting ∧
    (s.reverseEnv).slp.response = s.slp.response := by
  unfold State.reverseEnv
  (repeat' split) <;> simp

@[simp] theorem State.onCurrent_frame (s : State) (f : CurrentEnv → CurrentEnv) :
    (s.onCurrent f).ct = s.ct ∧ (s.onCurrent f).dpl = s.dpl ∧ (s.onCurrent f).ntc = s.ntc ∧
    (s.onCurrent f).gmu = s.gmu ∧ (s.onCurrent f).ldc = s.ldc ∧ (s.onCurrent f).azu = s.azu ∧
    (s.onCurrent f).slp = s.slp ∧ (s.onCurrent f).set = s.set ∧ (s.onCurrent f).retained = s.retained ∧
    (s.onCurrent f).ms = s.ms ∧ (s.onCurrent f).pins = s.pins ∧ (s.onCurrent f).pending = s.pending ∧
    (s.onCurrent f).ecc.nextNumber = s.ecc.nextNumber ∧
    (s.onCurrent f).ecc.lastServed = s.ecc.lastServed := by
  simp [State.onCurrent]

@[simp] theorem State.recheckDestination_frame (s : State) (held : Bool) :
    (s.recheckDestination held).dpl = s.dpl ∧ (s.recheckDestination held).ntc = s.ntc ∧
    (s.recheckDestination held).ldc = s.ldc ∧ (s.recheckDestination held).retained = s.retained ∧
    (s.recheckDestination held).ms = s.ms ∧ (s.recheckDestination held).pins = s.pins ∧
    (s.recheckDestination held).pending = s.pending ∧
    (s.recheckDestination held).ct.holdDispenser = s.ct.holdDispenser ∧
    (s.recheckDestination held).ct.holdReject = s.ct.holdReject ∧
    (s.recheckDestination held).ct.holdCapture = s.ct.holdCapture ∧
    (s.recheckDestination held).ct.holdLane = s.ct.holdLane ∧
    (s.recheckDestination held).ct.last = s.ct.last ∧
    (s.recheckDestination held).ecc.nextNumber = s.ecc.nextNumber ∧
    (s.recheckDestination held).azu.zones = s.azu.zones ∧
    (s.recheckDestination held).azu.cycle = s.azu.cycle ∧
    (s.recheckDestination held).azu.grants = s.azu.grants ∧
    (s.recheckDestination held).slp.receiver = s.slp.receiver ∧
    (s.recheckDestination held).slp.waiting = s.slp.waiting ∧
    (s.recheckDestination held).slp.response = s.slp.response := by
  unfold State.recheckDestination
  (repeat' split) <;> simp

@[simp] theorem State.envItemStart_frame (s : State) :
    (s.envItemStart).dpl = s.dpl ∧ (s.envItemStart).ntc = s.ntc ∧ (s.envItemStart).ldc = s.ldc ∧
    (s.envItemStart).retained = s.retained ∧ (s.envItemStart).ms = s.ms ∧
    (s.envItemStart).pins = s.pins ∧ (s.envItemStart).pending = s.pending ∧
    (s.envItemStart).ct.holdDispenser = s.ct.holdDispenser ∧
    (s.envItemStart).ct.holdReject = s.ct.holdReject ∧
    (s.envItemStart).ct.holdCapture = s.ct.holdCapture ∧ (s.envItemStart).ct.holdLane = s.ct.holdLane ∧
    (s.envItemStart).ct.last = s.ct.last ∧ (s.envItemStart).ecc.nextNumber = s.ecc.nextNumber ∧
    (s.envItemStart).azu.zones = s.azu.zones ∧ (s.envItemStart).azu.cycle = s.azu.cycle ∧
    (s.envItemStart).azu.grants = s.azu.grants ∧ (s.envItemStart).slp.receiver = s.slp.receiver ∧
    (s.envItemStart).slp.waiting = s.slp.waiting ∧ (s.envItemStart).slp.response = s.slp.response := by
  unfold State.envItemStart
  dsimp only
  (repeat' split) <;> simp

@[simp] theorem State.envHandover_frame (s : State) (m : Measure) (atLimit : Bool) :
    (s.envHandover m atLimit).dpl = s.dpl ∧ (s.envHandover m atLimit).ntc = s.ntc ∧
    (s.envHandover m atLimit).ldc = s.ldc ∧ (s.envHandover m atLimit).retained = s.retained ∧
    (s.envHandover m atLimit).ms = s.ms ∧ (s.envHandover m atLimit).pins = s.pins ∧
    (s.envHandover m atLimit).pending = s.pending ∧
    (s.envHandover m atLimit).ct.holdDispenser = s.ct.holdDispenser ∧
    (s.envHandover m atLimit).ct.holdReject = s.ct.holdReject ∧
    (s.envHandover m atLimit).ct.holdCapture = s.ct.holdCapture ∧
    (s.envHandover m atLimit).ct.holdLane = s.ct.holdLane ∧
    (s.envHandover m atLimit).ct.last = s.ct.last ∧
    (s.envHandover m atLimit).ecc.nextNumber = s.ecc.nextNumber ∧
    (s.envHandover m atLimit).azu.zones = s.azu.zones ∧
    (s.envHandover m atLimit).azu.cycle = s.azu.cycle ∧
    (s.envHandover m atLimit).azu.grants = s.azu.grants ∧
    (s.envHandover m atLimit).slp.receiver = s.slp.receiver ∧
    (s.envHandover m atLimit).slp.waiting = s.slp.waiting ∧
    (s.envHandover m atLimit).slp.response = s.slp.response := by
  unfold State.envHandover
  dsimp only
  (repeat' split) <;> simp

@[simp] theorem State.envItemEnd_frame (s : State) :
    (s.envItemEnd).ct = s.ct ∧ (s.envItemEnd).dpl = s.dpl ∧ (s.envItemEnd).ntc = s.ntc ∧
    (s.envItemEnd).gmu = s.gmu ∧ (s.envItemEnd).ldc = s.ldc ∧ (s.envItemEnd).azu = s.azu ∧
    (s.envItemEnd).slp = s.slp ∧ (s.envItemEnd).set = s.set ∧ (s.envItemEnd).retained = s.retained ∧
    (s.envItemEnd).ms = s.ms ∧ (s.envItemEnd).pins = s.pins ∧ (s.envItemEnd).pending = s.pending ∧
    (s.envItemEnd).ecc.nextNumber = s.ecc.nextNumber ∧ (s.envItemEnd).ecc.lastServed = s.ecc.lastServed := by
  simp [State.envItemEnd]

@[simp] theorem State.envLeaderDone_frame (s : State) :
    (s.envLeaderDone).dpl = s.dpl ∧ (s.envLeaderDone).ntc = s.ntc ∧ (s.envLeaderDone).ldc = s.ldc ∧
    (s.envLeaderDone).retained = s.retained ∧ (s.envLeaderDone).ms = s.ms ∧
    (s.envLeaderDone).pins = s.pins ∧ (s.envLeaderDone).pending = s.pending ∧
    (s.envLeaderDone).ct.holdDispenser = s.ct.holdDispenser ∧
    (s.envLeaderDone).ct.holdReject = s.ct.holdReject ∧
    (s.envLeaderDone).ct.holdCapture = s.ct.holdCapture ∧
    (s.envLeaderDone).ct.holdLane = s.ct.holdLane ∧ (s.envLeaderDone).ct.last = s.ct.last ∧
    (s.envLeaderDone).ecc.nextNumber = s.ecc.nextNumber ∧ (s.envLeaderDone).azu.zones = s.azu.zones ∧
    (s.envLeaderDone).azu.cycle = s.azu.cycle ∧ (s.envLeaderDone).azu.grants = s.azu.grants ∧
    (s.envLeaderDone).slp.receiver = s.slp.receiver ∧ (s.envLeaderDone).slp.waiting = s.slp.waiting ∧
    (s.envLeaderDone).slp.response = s.slp.response := by
  unfold State.envLeaderDone
  (repeat' split) <;> simp

@[simp] theorem State.suspendEnv_frame (s : State) :
    (s.suspendEnv).ct = s.ct ∧ (s.suspendEnv).dpl = s.dpl ∧ (s.suspendEnv).ntc = s.ntc ∧
    (s.suspendEnv).gmu = s.gmu ∧ (s.suspendEnv).ldc = s.ldc ∧ (s.suspendEnv).slp = s.slp ∧
    (s.suspendEnv).set = s.set ∧ (s.suspendEnv).retained = s.retained ∧ (s.suspendEnv).ms = s.ms ∧
    (s.suspendEnv).pins = s.pins ∧ (s.suspendEnv).pending = s.pending ∧
    (s.suspendEnv).ecc.nextNumber = s.ecc.nextNumber ∧
    (s.suspendEnv).ecc.lastServed = s.ecc.lastServed ∧ (s.suspendEnv).azu.zones = s.azu.zones ∧
    (s.suspendEnv).azu.cycle = s.azu.cycle ∧ (s.suspendEnv).azu.grants = s.azu.grants := by
  simp [State.suspendEnv]

@[simp] theorem State.pauseEnv_frame (s : State) :
    (s.pauseEnv).ct = s.ct ∧ (s.pauseEnv).dpl = s.dpl ∧ (s.pauseEnv).ntc = s.ntc ∧
    (s.pauseEnv).gmu = s.gmu ∧ (s.pauseEnv).ldc = s.ldc ∧ (s.pauseEnv).slp = s.slp ∧
    (s.pauseEnv).set = s.set ∧ (s.pauseEnv).retained = s.retained ∧ (s.pauseEnv).ms = s.ms ∧
    (s.pauseEnv).pins = s.pins ∧ (s.pauseEnv).pending = s.pending ∧
    (s.pauseEnv).ecc.nextNumber = s.ecc.nextNumber ∧ (s.pauseEnv).ecc.lastServed = s.ecc.lastServed ∧
    (s.pauseEnv).azu.zones = s.azu.zones ∧ (s.pauseEnv).azu.cycle = s.azu.cycle ∧
    (s.pauseEnv).azu.grants = s.azu.grants := by
  unfold State.pauseEnv
  split <;> simp

@[simp] theorem State.startRestartEnv_frame (s : State) :
    (s.startRestartEnv).ct = s.ct ∧ (s.startRestartEnv).dpl = s.dpl ∧ (s.startRestartEnv).ntc = s.ntc ∧
    (s.startRestartEnv).ldc = s.ldc ∧ (s.startRestartEnv).slp = s.slp ∧
    (s.startRestartEnv).set = s.set ∧ (s.startRestartEnv).retained = s.retained ∧
    (s.startRestartEnv).ms = s.ms ∧ (s.startRestartEnv).pins = s.pins ∧
    (s.startRestartEnv).pending = s.pending ∧ (s.startRestartEnv).ecc.nextNumber = s.ecc.nextNumber ∧
    (s.startRestartEnv).ecc.lastServed = s.ecc.lastServed ∧
    (s.startRestartEnv).azu.zones = s.azu.zones ∧ (s.startRestartEnv).azu.cycle = s.azu.cycle ∧
    (s.startRestartEnv).azu.grants = s.azu.grants := by
  unfold State.startRestartEnv
  (repeat' split) <;> simp

@[simp] theorem State.intakeOut_frame (s : State) :
    (s.intakeOut).dpl = s.dpl ∧ (s.intakeOut).ntc = s.ntc ∧ (s.intakeOut).ldc = s.ldc ∧
    (s.intakeOut).retained = s.retained ∧ (s.intakeOut).ms = s.ms ∧ (s.intakeOut).pins = s.pins ∧
    (s.intakeOut).pending = s.pending ∧ (s.intakeOut).ct.holdDispenser = s.ct.holdDispenser ∧
    (s.intakeOut).ct.holdReject = s.ct.holdReject ∧ (s.intakeOut).ct.holdCapture = s.ct.holdCapture ∧
    (s.intakeOut).ct.holdLane = s.ct.holdLane ∧ (s.intakeOut).ct.last = s.ct.last ∧
    (s.intakeOut).ecc.nextNumber = s.ecc.nextNumber ∧ (s.intakeOut).azu.zones = s.azu.zones ∧
    (s.intakeOut).azu.cycle = s.azu.cycle ∧ (s.intakeOut).azu.grants = s.azu.grants ∧
    (s.intakeOut).slp.receiver = s.slp.receiver ∧ (s.intakeOut).slp.waiting = s.slp.waiting ∧
    (s.intakeOut).slp.response = s.slp.response := by
  unfold State.intakeOut
  dsimp only
  (repeat' split) <;> simp

@[simp] theorem State.passGate_frame (s : State) (b : BinId) :
    (s.passGate b).ct = s.ct ∧ (s.passGate b).dpl = s.dpl ∧ (s.passGate b).ntc = s.ntc ∧
    (s.passGate b).gmu = s.gmu ∧ (s.passGate b).ldc = s.ldc ∧ (s.passGate b).azu = s.azu ∧
    (s.passGate b).slp = s.slp ∧ (s.passGate b).set = s.set ∧ (s.passGate b).retained = s.retained ∧
    (s.passGate b).ms = s.ms ∧ (s.passGate b).pins = s.pins ∧ (s.passGate b).pending = s.pending ∧
    (s.passGate b).ecc.lastServed = s.ecc.lastServed := by
  simp [State.passGate]

@[simp] theorem State.gateReport_frame (s : State) :
    (s.gateReport).dpl = s.dpl ∧ (s.gateReport).ntc = s.ntc ∧ (s.gateReport).ldc = s.ldc ∧
    (s.gateReport).retained = s.retained ∧ (s.gateReport).ms = s.ms ∧ (s.gateReport).pins = s.pins ∧
    (s.gateReport).pending = s.pending ∧ (s.gateReport).ct.holdDispenser = s.ct.holdDispenser ∧
    (s.gateReport).ct.holdReject = s.ct.holdReject ∧ (s.gateReport).ct.holdCapture = s.ct.holdCapture ∧
    (s.gateReport).ct.holdLane = s.ct.holdLane ∧ (s.gateReport).ct.last = s.ct.last ∧
    (s.gateReport).azu.zones = s.azu.zones ∧ (s.gateReport).azu.cycle = s.azu.cycle ∧
    (s.gateReport).azu.grants = s.azu.grants ∧ (s.gateReport).slp.receiver = s.slp.receiver ∧
    (s.gateReport).slp.waiting = s.slp.waiting ∧ (s.gateReport).slp.response = s.slp.response := by
  unfold State.gateReport
  (repeat' split) <;> simp

@[simp] theorem State.imprinterSays_frame (s : State) (printed : Bool) :
    (s.imprinterSays printed).ct = s.ct ∧ (s.imprinterSays printed).dpl = s.dpl ∧
    (s.imprinterSays printed).ntc = s.ntc ∧ (s.imprinterSays printed).gmu = s.gmu ∧
    (s.imprinterSays printed).ldc = s.ldc ∧ (s.imprinterSays printed).azu = s.azu ∧
    (s.imprinterSays printed).slp = s.slp ∧ (s.imprinterSays printed).set = s.set ∧
    (s.imprinterSays printed).retained = s.retained ∧ (s.imprinterSays printed).ms = s.ms ∧
    (s.imprinterSays printed).pins = s.pins ∧ (s.imprinterSays printed).pending = s.pending ∧
    (s.imprinterSays printed).ecc.nextNumber = s.ecc.nextNumber ∧
    (s.imprinterSays printed).ecc.lastServed = s.ecc.lastServed := by
  simp [State.imprinterSays]

@[simp] theorem State.judgeFill_frame (s : State) (b : BinId) :
    (s.judgeFill b).dpl = s.dpl ∧ (s.judgeFill b).ntc = s.ntc ∧ (s.judgeFill b).gmu = s.gmu ∧
    (s.judgeFill b).ldc = s.ldc ∧ (s.judgeFill b).ecc = s.ecc ∧ (s.judgeFill b).azu = s.azu ∧
    (s.judgeFill b).set = s.set ∧ (s.judgeFill b).retained = s.retained ∧ (s.judgeFill b).ms = s.ms ∧
    (s.judgeFill b).pins = s.pins ∧ (s.judgeFill b).pending = s.pending ∧
    (s.judgeFill b).ct.holdDispenser = s.ct.holdDispenser ∧
    (s.judgeFill b).ct.holdReject = s.ct.holdReject ∧
    (s.judgeFill b).ct.holdCapture = s.ct.holdCapture ∧ (s.judgeFill b).ct.holdLane = s.ct.holdLane ∧
    (s.judgeFill b).ct.last = s.ct.last ∧ (s.judgeFill b).slp.receiver = s.slp.receiver ∧
    (s.judgeFill b).slp.waiting = s.slp.waiting ∧ (s.judgeFill b).slp.response = s.slp.response := by
  unfold State.judgeFill State.switchBins
  try dsimp only
  (repeat' split)
  all_goals simp

@[simp] theorem State.capture_frame (s : State) (e : CurrentEnv) (n : Nat) (h : Handle) (b : BinId) :
    (s.capture e n h b).dpl = s.dpl ∧ (s.capture e n h b).ntc = s.ntc ∧
    (s.capture e n h b).ldc = s.ldc ∧ (s.capture e n h b).retained = s.retained ∧
    (s.capture e n h b).ms = s.ms ∧ (s.capture e n h b).pins = s.pins ∧
    (s.capture e n h b).pending = s.pending ∧
    (s.capture e n h b).ct.holdDispenser = s.ct.holdDispenser ∧
    (s.capture e n h b).ct.holdReject = s.ct.holdReject ∧
    (s.capture e n h b).ct.holdCapture = s.ct.holdCapture ∧
    (s.capture e n h b).ct.holdLane = s.ct.holdLane ∧ (s.capture e n h b).ct.last = s.ct.last ∧
    (s.capture e n h b).ecc.nextNumber = s.ecc.nextNumber ∧
    (s.capture e n h b).azu.zones = s.azu.zones ∧ (s.capture e n h b).azu.cycle = s.azu.cycle ∧
    (s.capture e n h b).azu.grants = s.azu.grants ∧ (s.capture e n h b).slp.receiver = s.slp.receiver ∧
    (s.capture e n h b).slp.waiting = s.slp.waiting ∧ (s.capture e n h b).slp.response = s.slp.response := by
  simp [State.capture]

@[simp] theorem State.binReport_frame (s : State) (b : BinId) :
    (s.binReport b).dpl = s.dpl ∧ (s.binReport b).ntc = s.ntc ∧ (s.binReport b).ldc = s.ldc ∧
    (s.binReport b).retained = s.retained ∧ (s.binReport b).ms = s.ms ∧ (s.binReport b).pins = s.pins ∧
    (s.binReport b).pending = s.pending ∧ (s.binReport b).ct.holdDispenser = s.ct.holdDispenser ∧
    (s.binReport b).ct.holdReject = s.ct.holdReject ∧
    (s.binReport b).ct.holdCapture = s.ct.holdCapture ∧ (s.binReport b).ct.holdLane = s.ct.holdLane ∧
    (s.binReport b).ct.last = s.ct.last ∧ (s.binReport b).ecc.nextNumber = s.ecc.nextNumber ∧
    (s.binReport b).azu.zones = s.azu.zones ∧ (s.binReport b).azu.cycle = s.azu.cycle ∧
    (s.binReport b).azu.grants = s.azu.grants ∧ (s.binReport b).slp.receiver = s.slp.receiver ∧
    (s.binReport b).slp.waiting = s.slp.waiting ∧ (s.binReport b).slp.response = s.slp.response := by
  unfold State.binReport
  (repeat' split) <;> simp

@[simp] theorem State.recaptureOut_frame (s : State) :
    (s.recaptureOut).dpl = s.dpl ∧ (s.recaptureOut).ntc = s.ntc ∧ (s.recaptureOut).ldc = s.ldc ∧
    (s.recaptureOut).retained = s.retained ∧ (s.recaptureOut).ms = s.ms ∧
    (s.recaptureOut).pins = s.pins ∧ (s.recaptureOut).pending = s.pending ∧
    (s.recaptureOut).ct.holdDispenser = s.ct.holdDispenser ∧
    (s.recaptureOut).ct.holdReject = s.ct.holdReject ∧
    (s.recaptureOut).ct.holdCapture = s.ct.holdCapture ∧ (s.recaptureOut).ct.holdLane = s.ct.holdLane ∧
    (s.recaptureOut).ct.last = s.ct.last ∧ (s.recaptureOut).ecc.nextNumber = s.ecc.nextNumber ∧
    (s.recaptureOut).azu.zones = s.azu.zones ∧ (s.recaptureOut).azu.cycle = s.azu.cycle ∧
    (s.recaptureOut).azu.grants = s.azu.grants ∧ (s.recaptureOut).slp.receiver = s.slp.receiver ∧
    (s.recaptureOut).slp.waiting = s.slp.waiting ∧ (s.recaptureOut).slp.response = s.slp.response := by
  unfold State.recaptureOut
  (repeat' split) <;> simp

@[simp] theorem State.waitOut_frame (s : State) (t : Throat) :
    (s.waitOut t).dpl = s.dpl ∧ (s.waitOut t).ntc = s.ntc ∧ (s.waitOut t).ldc = s.ldc ∧
    (s.waitOut t).retained = s.retained ∧ (s.waitOut t).ms = s.ms ∧ (s.waitOut t).pins = s.pins ∧
    (s.waitOut t).pending = s.pending ∧ (s.waitOut t).ct.holdDispenser = s.ct.holdDispenser ∧
    (s.waitOut t).ct.holdReject = s.ct.holdReject ∧ (s.waitOut t).ct.holdCapture = s.ct.holdCapture ∧
    (s.waitOut t).ct.holdLane = s.ct.holdLane ∧ (s.waitOut t).ct.last = s.ct.last ∧
    (s.waitOut t).ecc.nextNumber = s.ecc.nextNumber ∧ (s.waitOut t).azu.zones = s.azu.zones ∧
    (s.waitOut t).azu.cycle = s.azu.cycle ∧ (s.waitOut t).azu.grants = s.azu.grants ∧
    (s.waitOut t).slp.receiver = s.slp.receiver ∧ (s.waitOut t).slp.waiting = s.slp.waiting ∧
    (s.waitOut t).slp.response = s.slp.response := by
  unfold State.waitOut
  dsimp only
  split <;> simp

@[simp] theorem State.throatChange_frame (s : State) (t : Throat) (here : Bool) :
    (s.throatChange t here).dpl = s.dpl ∧ (s.throatChange t here).ntc = s.ntc ∧
    (s.throatChange t here).ldc = s.ldc ∧ (s.throatChange t here).retained = s.retained ∧
    (s.throatChange t here).ms = s.ms ∧ (s.throatChange t here).pending = s.pending ∧
    (s.throatChange t here).ct.holdDispenser = s.ct.holdDispenser ∧
    (s.throatChange t here).ct.holdReject = s.ct.holdReject ∧
    (s.throatChange t here).ct.holdCapture = s.ct.holdCapture ∧
    (s.throatChange t here).ct.holdLane = s.ct.holdLane ∧ (s.throatChange t here).ct.last = s.ct.last ∧
    (s.throatChange t here).ecc.nextNumber = s.ecc.nextNumber ∧
    (s.throatChange t here).azu.zones = s.azu.zones ∧ (s.throatChange t here).azu.cycle = s.azu.cycle ∧
    (s.throatChange t here).azu.grants = s.azu.grants ∧
    (s.throatChange t here).slp.receiver = s.slp.receiver ∧
    (s.throatChange t here).slp.waiting = s.slp.waiting ∧
    (s.throatChange t here).slp.response = s.slp.response ∧
    (s.throatChange t here).pins.warning = s.pins.warning ∧
    (s.throatChange t here).pins.presence = s.pins.presence ∧
    (s.throatChange t here).pins.tray = s.pins.tray := by
  unfold State.throatChange
  dsimp only
  (repeat' split) <;> simp

@[simp] theorem State.restartEnvTravel_frame (s : State) (f : Feed) :
    (s.restartEnvTravel f).ct = s.ct ∧ (s.restartEnvTravel f).dpl = s.dpl ∧
    (s.restartEnvTravel f).ntc = s.ntc ∧ (s.restartEnvTravel f).gmu = s.gmu ∧
    (s.restartEnvTravel f).ldc = s.ldc ∧ (s.restartEnvTravel f).slp = s.slp ∧
    (s.restartEnvTravel f).set = s.set ∧ (s.restartEnvTravel f).retained = s.retained ∧
    (s.restartEnvTravel f).ms = s.ms ∧ (s.restartEnvTravel f).pins = s.pins ∧
    (s.restartEnvTravel f).pending = s.pending ∧
    (s.restartEnvTravel f).ecc.nextNumber = s.ecc.nextNumber ∧
    (s.restartEnvTravel f).ecc.lastServed = s.ecc.lastServed ∧
    (s.restartEnvTravel f).azu.zones = s.azu.zones ∧ (s.restartEnvTravel f).azu.cycle = s.azu.cycle ∧
    (s.restartEnvTravel f).azu.grants = s.azu.grants := by
  simp [State.restartEnvTravel]

@[simp] theorem State.restartEnvWork_frame (s : State) :
    (s.restartEnvWork).dpl = s.dpl ∧ (s.restartEnvWork).ntc = s.ntc ∧ (s.restartEnvWork).ldc = s.ldc ∧
    (s.restartEnvWork).retained = s.retained ∧ (s.restartEnvWork).ms = s.ms ∧
    (s.restartEnvWork).pins = s.pins ∧ (s.restartEnvWork).pending = s.pending ∧
    (s.restartEnvWork).ct.holdDispenser = s.ct.holdDispenser ∧
    (s.restartEnvWork).ct.holdReject = s.ct.holdReject ∧
    (s.restartEnvWork).ct.holdCapture = s.ct.holdCapture ∧
    (s.restartEnvWork).ct.holdLane = s.ct.holdLane ∧ (s.restartEnvWork).ct.last = s.ct.last ∧
    (s.restartEnvWork).ecc.nextNumber = s.ecc.nextNumber ∧ (s.restartEnvWork).azu.zones = s.azu.zones ∧
    (s.restartEnvWork).azu.cycle = s.azu.cycle ∧ (s.restartEnvWork).azu.grants = s.azu.grants ∧
    (s.restartEnvWork).slp.receiver = s.slp.receiver ∧ (s.restartEnvWork).slp.waiting = s.slp.waiting ∧
    (s.restartEnvWork).slp.response = s.slp.response := by
  unfold State.restartEnvWork
  (repeat' split) <;> simp

@[simp] theorem State.resumeEnv_frame (s : State) :
    (s.resumeEnv).dpl = s.dpl ∧ (s.resumeEnv).ntc = s.ntc ∧ (s.resumeEnv).ldc = s.ldc ∧
    (s.resumeEnv).retained = s.retained ∧ (s.resumeEnv).ms = s.ms ∧ (s.resumeEnv).pins = s.pins ∧
    (s.resumeEnv).pending = s.pending ∧ (s.resumeEnv).ct.holdDispenser = s.ct.holdDispenser ∧
    (s.resumeEnv).ct.holdReject = s.ct.holdReject ∧ (s.resumeEnv).ct.holdCapture = s.ct.holdCapture ∧
    (s.resumeEnv).ct.holdLane = s.ct.holdLane ∧ (s.resumeEnv).ct.last = s.ct.last ∧
    (s.resumeEnv).ecc.nextNumber = s.ecc.nextNumber ∧ (s.resumeEnv).azu.zones = s.azu.zones ∧
    (s.resumeEnv).azu.cycle = s.azu.cycle ∧ (s.resumeEnv).azu.grants = s.azu.grants ∧
    (s.resumeEnv).slp.receiver = s.slp.receiver ∧ (s.resumeEnv).slp.waiting = s.slp.waiting ∧
    (s.resumeEnv).slp.response = s.slp.response := by
  unfold State.resumeEnv
  dsimp only
  (repeat' split) <;> simp

@[simp] theorem State.warnEnv_frame (s : State) (before : Bool) :
    (s.warnEnv before).dpl = s.dpl ∧ (s.warnEnv before).ntc = s.ntc ∧ (s.warnEnv before).ldc = s.ldc ∧
    (s.warnEnv before).retained = s.retained ∧ (s.warnEnv before).ms = s.ms ∧
    (s.warnEnv before).pins = s.pins ∧ (s.warnEnv before).pending = s.pending ∧
    (s.warnEnv before).ct.holdDispenser = s.ct.holdDispenser ∧
    (s.warnEnv before).ct.holdReject = s.ct.holdReject ∧
    (s.warnEnv before).ct.holdCapture = s.ct.holdCapture ∧
    (s.warnEnv before).ct.holdLane = s.ct.holdLane ∧ (s.warnEnv before).ct.last = s.ct.last ∧
    (s.warnEnv before).ecc.nextNumber = s.ecc.nextNumber ∧ (s.warnEnv before).azu.zones = s.azu.zones ∧
    (s.warnEnv before).azu.cycle = s.azu.cycle ∧ (s.warnEnv before).azu.grants = s.azu.grants ∧
    (s.warnEnv before).slp.receiver = s.slp.receiver ∧ (s.warnEnv before).slp.waiting = s.slp.waiting ∧
    (s.warnEnv before).slp.response = s.slp.response := by
  simp [State.warnEnv]

@[simp] theorem State.endWarnEnv_frame (s : State) (before : Bool) :
    (s.endWarnEnv before).dpl = s.dpl ∧ (s.endWarnEnv before).ntc = s.ntc ∧
    (s.endWarnEnv before).ldc = s.ldc ∧ (s.endWarnEnv before).retained = s.retained ∧
    (s.endWarnEnv before).ms = s.ms ∧ (s.endWarnEnv before).pins = s.pins ∧
    (s.endWarnEnv before).pending = s.pending ∧
    (s.endWarnEnv before).ct.holdDispenser = s.ct.holdDispenser ∧
    (s.endWarnEnv before).ct.holdReject = s.ct.holdReject ∧
    (s.endWarnEnv before).ct.holdCapture = s.ct.holdCapture ∧
    (s.endWarnEnv before).ct.holdLane = s.ct.holdLane ∧ (s.endWarnEnv before).ct.last = s.ct.last ∧
    (s.endWarnEnv before).ecc.nextNumber = s.ecc.nextNumber ∧
    (s.endWarnEnv before).azu.zones = s.azu.zones ∧ (s.endWarnEnv before).azu.cycle = s.azu.cycle ∧
    (s.endWarnEnv before).azu.grants = s.azu.grants ∧
    (s.endWarnEnv before).slp.receiver = s.slp.receiver ∧
    (s.endWarnEnv before).slp.waiting = s.slp.waiting ∧
    (s.endWarnEnv before).slp.response = s.slp.response := by
  unfold State.endWarnEnv
  (repeat' split) <;> simp

@[simp] theorem State.holdNotes_frame (s : State) (z : ZoneId) (already : Bool) :
    (s.holdNotes z already).ldc = s.ldc ∧ (s.holdNotes z already).ecc = s.ecc ∧ (s.holdNotes z already).retained = s.retained ∧
    (s.holdNotes z already).ms = s.ms ∧ (s.holdNotes z already).pins = s.pins ∧ (s.holdNotes z already).pending = s.pending ∧
    (s.holdNotes z already).ct.holdDispenser = s.ct.holdDispenser ∧
    (s.holdNotes z already).ct.holdReject = s.ct.holdReject ∧
    (s.holdNotes z already).ct.holdCapture = s.ct.holdCapture ∧ (s.holdNotes z already).ct.holdLane = s.ct.holdLane ∧
    (s.holdNotes z already).dpl.nextTag = s.dpl.nextTag ∧ (s.holdNotes z already).dpl.sequence = s.dpl.sequence ∧
    (s.holdNotes z already).ntc.pickFails = s.ntc.pickFails ∧ (s.holdNotes z already).azu.zones = s.azu.zones ∧
    (s.holdNotes z already).azu.cycle = s.azu.cycle ∧ (s.holdNotes z already).azu.grants = s.azu.grants ∧
    (s.holdNotes z already).slp.receiver = s.slp.receiver ∧ (s.holdNotes z already).slp.waiting = s.slp.waiting ∧
    (s.holdNotes z already).slp.response = s.slp.response := by
  unfold State.holdNotes
  (repeat' split) <;> simp

@[simp] theorem State.holdEnvelopes_frame (s : State) (z : ZoneId) :
    (s.holdEnvelopes z).dpl = s.dpl ∧ (s.holdEnvelopes z).ntc = s.ntc ∧
    (s.holdEnvelopes z).ldc = s.ldc ∧ (s.holdEnvelopes z).retained = s.retained ∧
    (s.holdEnvelopes z).ms = s.ms ∧ (s.holdEnvelopes z).pins = s.pins ∧
    (s.holdEnvelopes z).pending = s.pending ∧
    (s.holdEnvelopes z).ct.holdDispenser = s.ct.holdDispenser ∧
    (s.holdEnvelopes z).ct.holdReject = s.ct.holdReject ∧
    (s.holdEnvelopes z).ct.holdCapture = s.ct.holdCapture ∧
    (s.holdEnvelopes z).ct.holdLane = s.ct.holdLane ∧ (s.holdEnvelopes z).ct.last = s.ct.last ∧
    (s.holdEnvelopes z).ecc.nextNumber = s.ecc.nextNumber ∧
    (s.holdEnvelopes z).azu.zones = s.azu.zones ∧ (s.holdEnvelopes z).azu.cycle = s.azu.cycle ∧
    (s.holdEnvelopes z).azu.grants = s.azu.grants ∧ (s.holdEnvelopes z).slp.receiver = s.slp.receiver ∧
    (s.holdEnvelopes z).slp.waiting = s.slp.waiting ∧ (s.holdEnvelopes z).slp.response = s.slp.response := by
  unfold State.holdEnvelopes
  split <;> simp

@[simp] theorem State.holdLanes_frame (s : State) (z : ZoneId) :
    (s.holdLanes z).dpl = s.dpl ∧ (s.holdLanes z).gmu = s.gmu ∧ (s.holdLanes z).ecc = s.ecc ∧
    (s.holdLanes z).set = s.set ∧ (s.holdLanes z).retained = s.retained ∧ (s.holdLanes z).ms = s.ms ∧
    (s.holdLanes z).pending = s.pending ∧ (s.holdLanes z).ct.holdDispenser = s.ct.holdDispenser ∧
    (s.holdLanes z).ct.holdReject = s.ct.holdReject ∧
    (s.holdLanes z).ct.holdCapture = s.ct.holdCapture ∧ (s.holdLanes z).ct.holdLane = s.ct.holdLane ∧
    (s.holdLanes z).ct.last = s.ct.last ∧ (s.holdLanes z).ntc.pickFails = s.ntc.pickFails ∧
    (s.holdLanes z).azu.zones = s.azu.zones ∧ (s.holdLanes z).azu.cycle = s.azu.cycle ∧
    (s.holdLanes z).azu.grants = s.azu.grants ∧ (s.holdLanes z).slp.receiver = s.slp.receiver ∧
    (s.holdLanes z).slp.waiting = s.slp.waiting ∧ (s.holdLanes z).slp.response = s.slp.response ∧
    (s.holdLanes z).pins.warning = s.pins.warning ∧ (s.holdLanes z).pins.presence = s.pins.presence ∧
    (s.holdLanes z).pins.throat = s.pins.throat ∧ (s.holdLanes z).pins.tray = s.pins.tray := by
  unfold State.holdLanes
  refine ⟨foldl_dpl _ _ ?_ _,
    foldl_gmu _ _ ?_ _,
    foldl_ecc _ _ ?_ _,
    foldl_set _ _ ?_ _,
    foldl_retained _ _ ?_ _,
    foldl_ms _ _ ?_ _,
    foldl_pending _ _ ?_ _,
    foldl_ct_holdDispenser _ _ ?_ _,
    foldl_ct_holdReject _ _ ?_ _,
    foldl_ct_holdCapture _ _ ?_ _,
    foldl_ct_holdLane _ _ ?_ _,
    foldl_ct_last _ _ ?_ _,
    foldl_ntc_pickFails _ _ ?_ _,
    foldl_azu_zones _ _ ?_ _,
    foldl_azu_cycle _ _ ?_ _,
    foldl_azu_grants _ _ ?_ _,
    foldl_slp_receiver _ _ ?_ _,
    foldl_slp_waiting _ _ ?_ _,
    foldl_slp_response _ _ ?_ _,
    foldl_pins_warning _ _ ?_ _,
    foldl_pins_presence _ _ ?_ _,
    foldl_pins_throat _ _ ?_ _,
    foldl_pins_tray _ _ ?_ _⟩ <;>
    (intro s a; (repeat' split) <;> simp)

@[simp] theorem State.takeHold_frame (s : State) (z : ZoneId) (already : Bool) :
    (s.takeHold z already).retained = s.retained ∧ (s.takeHold z already).ms = s.ms ∧
    (s.takeHold z already).pending = s.pending ∧ (s.takeHold z already).dpl.nextTag = s.dpl.nextTag ∧
    (s.takeHold z already).dpl.sequence = s.dpl.sequence ∧
    (s.takeHold z already).ntc.pickFails = s.ntc.pickFails ∧
    (s.takeHold z already).ecc.nextNumber = s.ecc.nextNumber ∧
    (s.takeHold z already).azu.zones = s.azu.zones ∧ (s.takeHold z already).azu.cycle = s.azu.cycle ∧
    (s.takeHold z already).azu.grants = s.azu.grants ∧
    (s.takeHold z already).slp.receiver = s.slp.receiver ∧
    (s.takeHold z already).slp.waiting = s.slp.waiting ∧
    (s.takeHold z already).slp.response = s.slp.response ∧
    (s.takeHold z already).pins.warning = s.pins.warning ∧
    (s.takeHold z already).pins.presence = s.pins.presence ∧
    (s.takeHold z already).pins.throat = s.pins.throat ∧ (s.takeHold z already).pins.tray = s.pins.tray := by
  unfold State.takeHold
  (repeat' split) <;> simp

@[simp] theorem State.releaseHolds_frame (s : State) (old : Ct) :
    (s.releaseHolds old).ldc = s.ldc ∧ (s.releaseHolds old).retained = s.retained ∧
    (s.releaseHolds old).ms = s.ms ∧ (s.releaseHolds old).pins = s.pins ∧
    (s.releaseHolds old).pending = s.pending ∧
    (s.releaseHolds old).ct.holdDispenser = s.ct.holdDispenser ∧
    (s.releaseHolds old).ct.holdReject = s.ct.holdReject ∧
    (s.releaseHolds old).ct.holdCapture = s.ct.holdCapture ∧
    (s.releaseHolds old).ct.holdLane = s.ct.holdLane ∧ (s.releaseHolds old).ct.last = s.ct.last ∧
    (s.releaseHolds old).dpl.quotes = s.dpl.quotes ∧ (s.releaseHolds old).dpl.nextTag = s.dpl.nextTag ∧
    (s.releaseHolds old).dpl.sequence = s.dpl.sequence ∧
    (s.releaseHolds old).ntc.pickFails = s.ntc.pickFails ∧
    (s.releaseHolds old).ecc.nextNumber = s.ecc.nextNumber ∧
    (s.releaseHolds old).azu.zones = s.azu.zones ∧ (s.releaseHolds old).azu.cycle = s.azu.cycle ∧
    (s.releaseHolds old).azu.grants = s.azu.grants ∧
    (s.releaseHolds old).slp.receiver = s.slp.receiver ∧
    (s.releaseHolds old).slp.waiting = s.slp.waiting ∧
    (s.releaseHolds old).slp.response = s.slp.response := by
  unfold State.releaseHolds
  dsimp only
  (repeat' split) <;> simp

@[simp] theorem State.liftHold_frame (s : State) (z : ZoneId) :
    (s.liftHold z).ldc = s.ldc ∧ (s.liftHold z).retained = s.retained ∧
    (s.liftHold z).ms = s.ms ∧ (s.liftHold z).pending = s.pending ∧
    (s.liftHold z).dpl.nextTag = s.dpl.nextTag ∧
    (s.liftHold z).dpl.sequence = s.dpl.sequence ∧
    (s.liftHold z).ntc.pickFails = s.ntc.pickFails ∧
    (s.liftHold z).ecc.nextNumber = s.ecc.nextNumber ∧
    (s.liftHold z).azu.zones = s.azu.zones ∧
    (s.liftHold z).azu.cycle = s.azu.cycle ∧
    (s.liftHold z).azu.grants = s.azu.grants ∧
    (s.liftHold z).slp.receiver = s.slp.receiver ∧
    (s.liftHold z).slp.waiting = s.slp.waiting ∧
    (s.liftHold z).slp.response = s.slp.response ∧
    (s.liftHold z).pins.warning = s.pins.warning ∧
    (s.liftHold z).pins.presence = s.pins.presence ∧
    (s.liftHold z).pins.throat = s.pins.throat ∧
    (s.liftHold z).pins.tray = s.pins.tray := by
  unfold State.liftHold
  split <;> simp

@[simp] theorem State.writeZones_frame (s : State) (news : List (ZoneId × Zone)) :
    (s.writeZones news).retained = s.retained ∧ (s.writeZones news).ms = s.ms ∧
    (s.writeZones news).pending = s.pending ∧ (s.writeZones news).dpl.nextTag = s.dpl.nextTag ∧
    (s.writeZones news).dpl.sequence = s.dpl.sequence ∧
    (s.writeZones news).ntc.pickFails = s.ntc.pickFails ∧
    (s.writeZones news).ecc.nextNumber = s.ecc.nextNumber ∧ (s.writeZones news).azu.cycle = s.azu.cycle ∧
    (s.writeZones news).azu.grants = s.azu.grants ∧ (s.writeZones news).slp.receiver = s.slp.receiver ∧
    (s.writeZones news).slp.waiting = s.slp.waiting ∧ (s.writeZones news).slp.response = s.slp.response ∧
    (s.writeZones news).pins.warning = s.pins.warning ∧
    (s.writeZones news).pins.presence = s.pins.presence ∧ (s.writeZones news).pins.throat = s.pins.throat ∧
    (s.writeZones news).pins.tray = s.pins.tray := by
  unfold State.writeZones
  dsimp only
  split <;> simp

@[simp] theorem State.putZones_frame (s : State) (news : List (ZoneId × Zone)) :
    (s.putZones news).retained = s.retained ∧ (s.putZones news).ms = s.ms ∧
    (s.putZones news).pending = s.pending ∧ (s.putZones news).dpl.nextTag = s.dpl.nextTag ∧
    (s.putZones news).dpl.sequence = s.dpl.sequence ∧
    (s.putZones news).ntc.pickFails = s.ntc.pickFails ∧
    (s.putZones news).ecc.nextNumber = s.ecc.nextNumber ∧ (s.putZones news).azu.cycle = s.azu.cycle ∧
    (s.putZones news).azu.grants = s.azu.grants ∧ (s.putZones news).slp.receiver = s.slp.receiver ∧
    (s.putZones news).slp.waiting = s.slp.waiting ∧ (s.putZones news).slp.response = s.slp.response ∧
    (s.putZones news).pins.warning = s.pins.warning ∧
    (s.putZones news).pins.presence = s.pins.presence ∧ (s.putZones news).pins.throat = s.pins.throat ∧
    (s.putZones news).pins.tray = s.pins.tray := by
  unfold State.putZones
  dsimp only
  split <;> simp

@[simp] theorem State.putZone_frame (s : State) (z : ZoneId) (new : Zone) :
    (s.putZone z new).retained = s.retained ∧ (s.putZone z new).ms = s.ms ∧
    (s.putZone z new).pending = s.pending ∧ (s.putZone z new).dpl.nextTag = s.dpl.nextTag ∧
    (s.putZone z new).dpl.sequence = s.dpl.sequence ∧
    (s.putZone z new).ntc.pickFails = s.ntc.pickFails ∧
    (s.putZone z new).ecc.nextNumber = s.ecc.nextNumber ∧ (s.putZone z new).azu.cycle = s.azu.cycle ∧
    (s.putZone z new).azu.grants = s.azu.grants ∧ (s.putZone z new).slp.receiver = s.slp.receiver ∧
    (s.putZone z new).slp.waiting = s.slp.waiting ∧ (s.putZone z new).slp.response = s.slp.response ∧
    (s.putZone z new).pins.warning = s.pins.warning ∧
    (s.putZone z new).pins.presence = s.pins.presence ∧ (s.putZone z new).pins.throat = s.pins.throat ∧
    (s.putZone z new).pins.tray = s.pins.tray := by
  simp [State.putZone]

@[simp] theorem State.changeLoop_frame (s : State) (z : ZoneId) (c : LoopClass) :
    (s.changeLoop z c).retained = s.retained ∧ (s.changeLoop z c).ms = s.ms ∧
    (s.changeLoop z c).pending = s.pending ∧ (s.changeLoop z c).dpl.nextTag = s.dpl.nextTag ∧
    (s.changeLoop z c).dpl.sequence = s.dpl.sequence ∧
    (s.changeLoop z c).ntc.pickFails = s.ntc.pickFails ∧
    (s.changeLoop z c).ecc.nextNumber = s.ecc.nextNumber ∧ (s.changeLoop z c).azu.cycle = s.azu.cycle ∧
    (s.changeLoop z c).azu.grants = s.azu.grants ∧ (s.changeLoop z c).slp.receiver = s.slp.receiver ∧
    (s.changeLoop z c).slp.waiting = s.slp.waiting ∧ (s.changeLoop z c).slp.response = s.slp.response ∧
    (s.changeLoop z c).pins.warning = s.pins.warning ∧
    (s.changeLoop z c).pins.presence = s.pins.presence ∧
    (s.changeLoop z c).pins.throat = s.pins.throat ∧ (s.changeLoop z c).pins.tray = s.pins.tray := by
  unfold State.changeLoop
  split <;> simp

@[simp] theorem State.forcingEvent_frame (s : State) (l : Lane) (switch : DrawerSwitch) (closed : Bool) :
    (s.forcingEvent l switch closed).retained = s.retained ∧
    (s.forcingEvent l switch closed).ms = s.ms ∧ (s.forcingEvent l switch closed).pending = s.pending ∧
    (s.forcingEvent l switch closed).dpl.nextTag = s.dpl.nextTag ∧
    (s.forcingEvent l switch closed).dpl.sequence = s.dpl.sequence ∧
    (s.forcingEvent l switch closed).ntc.pickFails = s.ntc.pickFails ∧
    (s.forcingEvent l switch closed).ecc.nextNumber = s.ecc.nextNumber ∧
    (s.forcingEvent l switch closed).azu.cycle = s.azu.cycle ∧
    (s.forcingEvent l switch closed).azu.grants = s.azu.grants ∧
    (s.forcingEvent l switch closed).slp.receiver = s.slp.receiver ∧
    (s.forcingEvent l switch closed).slp.waiting = s.slp.waiting ∧
    (s.forcingEvent l switch closed).slp.response = s.slp.response ∧
    (s.forcingEvent l switch closed).pins.warning = s.pins.warning ∧
    (s.forcingEvent l switch closed).pins.presence = s.pins.presence ∧
    (s.forcingEvent l switch closed).pins.throat = s.pins.throat ∧
    (s.forcingEvent l switch closed).pins.tray = s.pins.tray := by
  simp [State.forcingEvent]

@[simp] theorem State.judgeWindow_frame (s : State) (z : ZoneId) :
    (s.judgeWindow z).retained = s.retained ∧ (s.judgeWindow z).ms = s.ms ∧
    (s.judgeWindow z).pending = s.pending ∧ (s.judgeWindow z).dpl.nextTag = s.dpl.nextTag ∧
    (s.judgeWindow z).dpl.sequence = s.dpl.sequence ∧
    (s.judgeWindow z).ntc.pickFails = s.ntc.pickFails ∧
    (s.judgeWindow z).ecc.nextNumber = s.ecc.nextNumber ∧ (s.judgeWindow z).azu.cycle = s.azu.cycle ∧
    (s.judgeWindow z).azu.grants = s.azu.grants ∧ (s.judgeWindow z).slp.receiver = s.slp.receiver ∧
    (s.judgeWindow z).slp.waiting = s.slp.waiting ∧ (s.judgeWindow z).slp.response = s.slp.response ∧
    (s.judgeWindow z).pins.warning = s.pins.warning ∧
    (s.judgeWindow z).pins.presence = s.pins.presence ∧ (s.judgeWindow z).pins.throat = s.pins.throat ∧
    (s.judgeWindow z).pins.tray = s.pins.tray := by
  unfold State.judgeWindow
  dsimp only
  split <;> simp

@[simp] theorem State.tailOut_frame (s : State) (z : ZoneId) :
    (s.tailOut z).retained = s.retained ∧ (s.tailOut z).ms = s.ms ∧ (s.tailOut z).pending = s.pending ∧
    (s.tailOut z).dpl.nextTag = s.dpl.nextTag ∧ (s.tailOut z).dpl.sequence = s.dpl.sequence ∧
    (s.tailOut z).ntc.pickFails = s.ntc.pickFails ∧ (s.tailOut z).ecc.nextNumber = s.ecc.nextNumber ∧
    (s.tailOut z).azu.cycle = s.azu.cycle ∧ (s.tailOut z).azu.grants = s.azu.grants ∧
    (s.tailOut z).slp.receiver = s.slp.receiver ∧ (s.tailOut z).slp.waiting = s.slp.waiting ∧
    (s.tailOut z).slp.response = s.slp.response ∧ (s.tailOut z).pins.warning = s.pins.warning ∧
    (s.tailOut z).pins.presence = s.pins.presence ∧ (s.tailOut z).pins.throat = s.pins.throat ∧
    (s.tailOut z).pins.tray = s.pins.tray := by
  unfold State.tailOut
  (repeat' split) <;> simp

@[simp] theorem State.scanChannel_frame (s : State) (cycle : List ZoneId) (z : ZoneId) :
    (s.scanChannel cycle z).retained = s.retained ∧ (s.scanChannel cycle z).ms = s.ms ∧
    (s.scanChannel cycle z).pending = s.pending ∧ (s.scanChannel cycle z).dpl.nextTag = s.dpl.nextTag ∧
    (s.scanChannel cycle z).dpl.sequence = s.dpl.sequence ∧
    (s.scanChannel cycle z).ntc.pickFails = s.ntc.pickFails ∧
    (s.scanChannel cycle z).ecc.nextNumber = s.ecc.nextNumber ∧
    (s.scanChannel cycle z).azu.cycle = s.azu.cycle ∧
    (s.scanChannel cycle z).azu.grants = s.azu.grants ∧
    (s.scanChannel cycle z).slp.receiver = s.slp.receiver ∧
    (s.scanChannel cycle z).slp.waiting = s.slp.waiting ∧
    (s.scanChannel cycle z).slp.response = s.slp.response ∧
    (s.scanChannel cycle z).pins.warning = s.pins.warning ∧
    (s.scanChannel cycle z).pins.presence = s.pins.presence ∧
    (s.scanChannel cycle z).pins.throat = s.pins.throat ∧
    (s.scanChannel cycle z).pins.tray = s.pins.tray := by
  unfold State.scanChannel
  dsimp only
  (repeat' split) <;> simp

@[simp] theorem State.formCycle_frame (s : State) :
    (s.formCycle).retained = s.retained ∧ (s.formCycle).ms = s.ms ∧ (s.formCycle).pending = s.pending ∧
    (s.formCycle).dpl.nextTag = s.dpl.nextTag ∧ (s.formCycle).dpl.sequence = s.dpl.sequence ∧
    (s.formCycle).ntc.pickFails = s.ntc.pickFails ∧ (s.formCycle).ecc.nextNumber = s.ecc.nextNumber ∧
    (s.formCycle).azu.grants = s.azu.grants ∧ (s.formCycle).slp.receiver = s.slp.receiver ∧
    (s.formCycle).slp.waiting = s.slp.waiting ∧ (s.formCycle).slp.response = s.slp.response ∧
    (s.formCycle).pins.warning = s.pins.warning ∧ (s.formCycle).pins.presence = s.pins.presence ∧
    (s.formCycle).pins.throat = s.pins.throat ∧ (s.formCycle).pins.tray = s.pins.tray := by
  simp [State.formCycle]

@[simp] theorem State.convertLoop_frame (s : State) (z : ZoneId) (band : LoopClass) :
    (s.convertLoop z band).retained = s.retained ∧ (s.convertLoop z band).ms = s.ms ∧
    (s.convertLoop z band).pending = s.pending ∧ (s.convertLoop z band).dpl.nextTag = s.dpl.nextTag ∧
    (s.convertLoop z band).dpl.sequence = s.dpl.sequence ∧
    (s.convertLoop z band).ntc.pickFails = s.ntc.pickFails ∧
    (s.convertLoop z band).ecc.nextNumber = s.ecc.nextNumber ∧
    (s.convertLoop z band).azu.cycle = s.azu.cycle ∧ (s.convertLoop z band).azu.grants = s.azu.grants ∧
    (s.convertLoop z band).slp.receiver = s.slp.receiver ∧
    (s.convertLoop z band).slp.waiting = s.slp.waiting ∧
    (s.convertLoop z band).slp.response = s.slp.response ∧
    (s.convertLoop z band).pins.warning = s.pins.warning ∧
    (s.convertLoop z band).pins.presence = s.pins.presence ∧
    (s.convertLoop z band).pins.throat = s.pins.throat ∧ (s.convertLoop z band).pins.tray = s.pins.tray := by
  unfold State.convertLoop
  dsimp only
  (repeat' split) <;> simp

@[simp] theorem State.convertNext_frame (s : State) (code : Sample) :
    (s.convertNext code).retained = s.retained ∧ (s.convertNext code).ms = s.ms ∧
    (s.convertNext code).pending = s.pending ∧ (s.convertNext code).dpl.nextTag = s.dpl.nextTag ∧
    (s.convertNext code).dpl.sequence = s.dpl.sequence ∧
    (s.convertNext code).ntc.pickFails = s.ntc.pickFails ∧
    (s.convertNext code).ecc.nextNumber = s.ecc.nextNumber ∧
    (s.convertNext code).azu.grants = s.azu.grants ∧
    (s.convertNext code).slp.receiver = s.slp.receiver ∧
    (s.convertNext code).slp.waiting = s.slp.waiting ∧
    (s.convertNext code).slp.response = s.slp.response ∧
    (s.convertNext code).pins.warning = s.pins.warning ∧
    (s.convertNext code).pins.presence = s.pins.presence ∧
    (s.convertNext code).pins.throat = s.pins.throat ∧ (s.convertNext code).pins.tray = s.pins.tray := by
  unfold State.convertNext
  dsimp only
  (repeat' split) <;> simp

@[simp] theorem State.enableZones_frame (s : State) (mask : ZoneSet) (on : Bool) :
    (s.enableZones mask on).retained = s.retained ∧ (s.enableZones mask on).ms = s.ms ∧
    (s.enableZones mask on).pending = s.pending ∧ (s.enableZones mask on).dpl.nextTag = s.dpl.nextTag ∧
    (s.enableZones mask on).dpl.sequence = s.dpl.sequence ∧
    (s.enableZones mask on).ntc.pickFails = s.ntc.pickFails ∧
    (s.enableZones mask on).ecc.nextNumber = s.ecc.nextNumber ∧
    (s.enableZones mask on).azu.cycle = s.azu.cycle ∧
    (s.enableZones mask on).azu.grants = s.azu.grants ∧
    (s.enableZones mask on).slp.receiver = s.slp.receiver ∧
    (s.enableZones mask on).slp.waiting = s.slp.waiting ∧
    (s.enableZones mask on).slp.response = s.slp.response ∧
    (s.enableZones mask on).pins.warning = s.pins.warning ∧
    (s.enableZones mask on).pins.presence = s.pins.presence ∧
    (s.enableZones mask on).pins.throat = s.pins.throat ∧
    (s.enableZones mask on).pins.tray = s.pins.tray := by
  simp [State.enableZones]

@[simp] theorem State.armZone_frame (s : State) (z : ZoneId) :
    (s.armZone z).retained = s.retained ∧ (s.armZone z).ms = s.ms ∧ (s.armZone z).pending = s.pending ∧
    (s.armZone z).dpl.nextTag = s.dpl.nextTag ∧ (s.armZone z).dpl.sequence = s.dpl.sequence ∧
    (s.armZone z).ntc.pickFails = s.ntc.pickFails ∧ (s.armZone z).ecc.nextNumber = s.ecc.nextNumber ∧
    (s.armZone z).azu.cycle = s.azu.cycle ∧ (s.armZone z).azu.grants = s.azu.grants ∧
    (s.armZone z).slp.receiver = s.slp.receiver ∧ (s.armZone z).slp.waiting = s.slp.waiting ∧
    (s.armZone z).slp.response = s.slp.response ∧ (s.armZone z).pins.warning = s.pins.warning ∧
    (s.armZone z).pins.presence = s.pins.presence ∧ (s.armZone z).pins.throat = s.pins.throat ∧
    (s.armZone z).pins.tray = s.pins.tray := by
  unfold State.armZone
  dsimp only
  split <;> simp

@[simp] theorem State.putGrant_frame (s : State) (a : Area) (g : Grant) :
    (s.putGrant a g).dpl = s.dpl ∧ (s.putGrant a g).ntc = s.ntc ∧ (s.putGrant a g).ldc = s.ldc ∧
    (s.putGrant a g).retained = s.retained ∧ (s.putGrant a g).ms = s.ms ∧
    (s.putGrant a g).pins = s.pins ∧ (s.putGrant a g).pending = s.pending ∧
    (s.putGrant a g).ct.holdDispenser = s.ct.holdDispenser ∧
    (s.putGrant a g).ct.holdReject = s.ct.holdReject ∧
    (s.putGrant a g).ct.holdCapture = s.ct.holdCapture ∧ (s.putGrant a g).ct.holdLane = s.ct.holdLane ∧
    (s.putGrant a g).ct.last = s.ct.last ∧ (s.putGrant a g).ecc.nextNumber = s.ecc.nextNumber ∧
    (s.putGrant a g).azu.zones = s.azu.zones ∧ (s.putGrant a g).azu.cycle = s.azu.cycle ∧
    (s.putGrant a g).slp.receiver = s.slp.receiver ∧ (s.putGrant a g).slp.waiting = s.slp.waiting ∧
    (s.putGrant a g).slp.response = s.slp.response := by
  simp [State.putGrant]

@[simp] theorem State.endGrant_frame (s : State) (a : Area) :
    (s.endGrant a).retained = s.retained ∧ (s.endGrant a).ms = s.ms ∧
    (s.endGrant a).pending = s.pending ∧ (s.endGrant a).dpl.nextTag = s.dpl.nextTag ∧
    (s.endGrant a).dpl.sequence = s.dpl.sequence ∧ (s.endGrant a).ntc.pickFails = s.ntc.pickFails ∧
    (s.endGrant a).ecc.nextNumber = s.ecc.nextNumber ∧ (s.endGrant a).azu.cycle = s.azu.cycle ∧
    (s.endGrant a).slp.receiver = s.slp.receiver ∧ (s.endGrant a).slp.waiting = s.slp.waiting ∧
    (s.endGrant a).slp.response = s.slp.response ∧ (s.endGrant a).pins.warning = s.pins.warning ∧
    (s.endGrant a).pins.presence = s.pins.presence ∧ (s.endGrant a).pins.throat = s.pins.throat ∧
    (s.endGrant a).pins.tray = s.pins.tray := by
  unfold State.endGrant
  split <;> simp

@[simp] theorem State.lapse_frame (s : State) (a : Area) :
    (s.lapse a).dpl = s.dpl ∧ (s.lapse a).ntc = s.ntc ∧ (s.lapse a).ldc = s.ldc ∧
    (s.lapse a).retained = s.retained ∧ (s.lapse a).ms = s.ms ∧ (s.lapse a).pins = s.pins ∧
    (s.lapse a).pending = s.pending ∧ (s.lapse a).ct.holdDispenser = s.ct.holdDispenser ∧
    (s.lapse a).ct.holdReject = s.ct.holdReject ∧ (s.lapse a).ct.holdCapture = s.ct.holdCapture ∧
    (s.lapse a).ct.holdLane = s.ct.holdLane ∧ (s.lapse a).ct.last = s.ct.last ∧
    (s.lapse a).ecc.nextNumber = s.ecc.nextNumber ∧ (s.lapse a).azu.zones = s.azu.zones ∧
    (s.lapse a).azu.cycle = s.azu.cycle ∧ (s.lapse a).slp.receiver = s.slp.receiver ∧
    (s.lapse a).slp.waiting = s.slp.waiting ∧ (s.lapse a).slp.response = s.slp.response := by
  unfold State.lapse
  dsimp only
  (repeat' split) <;> simp

@[simp] theorem State.grantOut_frame (s : State) (a : Area) :
    (s.grantOut a).retained = s.retained ∧ (s.grantOut a).ms = s.ms ∧
    (s.grantOut a).pending = s.pending ∧ (s.grantOut a).dpl.nextTag = s.dpl.nextTag ∧
    (s.grantOut a).dpl.sequence = s.dpl.sequence ∧ (s.grantOut a).ntc.pickFails = s.ntc.pickFails ∧
    (s.grantOut a).ecc.nextNumber = s.ecc.nextNumber ∧ (s.grantOut a).azu.cycle = s.azu.cycle ∧
    (s.grantOut a).slp.receiver = s.slp.receiver ∧ (s.grantOut a).slp.waiting = s.slp.waiting ∧
    (s.grantOut a).slp.response = s.slp.response ∧ (s.grantOut a).pins.warning = s.pins.warning ∧
    (s.grantOut a).pins.presence = s.pins.presence ∧ (s.grantOut a).pins.throat = s.pins.throat ∧
    (s.grantOut a).pins.tray = s.pins.tray := by
  unfold State.grantOut
  dsimp only
  split <;> simp

@[simp] theorem State.endMotion_frame (s : State) (l : Lane) (switch : DrawerSwitch) (closed : Bool) :
    (s.endMotion l switch closed).ecc = s.ecc ∧ (s.endMotion l switch closed).retained = s.retained ∧
    (s.endMotion l switch closed).ms = s.ms ∧ (s.endMotion l switch closed).pending = s.pending ∧
    (s.endMotion l switch closed).ct.holdDispenser = s.ct.holdDispenser ∧
    (s.endMotion l switch closed).ct.holdReject = s.ct.holdReject ∧
    (s.endMotion l switch closed).ct.holdCapture = s.ct.holdCapture ∧
    (s.endMotion l switch closed).ct.holdLane = s.ct.holdLane ∧
    (s.endMotion l switch closed).dpl.nextTag = s.dpl.nextTag ∧
    (s.endMotion l switch closed).dpl.sequence = s.dpl.sequence ∧
    (s.endMotion l switch closed).ntc.pickFails = s.ntc.pickFails ∧
    (s.endMotion l switch closed).azu.zones = s.azu.zones ∧
    (s.endMotion l switch closed).azu.cycle = s.azu.cycle ∧
    (s.endMotion l switch closed).azu.grants = s.azu.grants ∧
    (s.endMotion l switch closed).slp.receiver = s.slp.receiver ∧
    (s.endMotion l switch closed).slp.waiting = s.slp.waiting ∧
    (s.endMotion l switch closed).slp.response = s.slp.response ∧
    (s.endMotion l switch closed).pins.warning = s.pins.warning ∧
    (s.endMotion l switch closed).pins.presence = s.pins.presence ∧
    (s.endMotion l switch closed).pins.throat = s.pins.throat ∧
    (s.endMotion l switch closed).pins.tray = s.pins.tray := by
  unfold State.endMotion
  split <;> simp

@[simp] theorem State.switchChange_frame (s : State) (l : Lane) (switch : DrawerSwitch) (closed : Bool) :
    (s.switchChange l switch closed).retained = s.retained ∧
    (s.switchChange l switch closed).ms = s.ms ∧ (s.switchChange l switch closed).pending = s.pending ∧
    (s.switchChange l switch closed).dpl.nextTag = s.dpl.nextTag ∧
    (s.switchChange l switch closed).dpl.sequence = s.dpl.sequence ∧
    (s.switchChange l switch closed).ntc.pickFails = s.ntc.pickFails ∧
    (s.switchChange l switch closed).ecc.nextNumber = s.ecc.nextNumber ∧
    (s.switchChange l switch closed).azu.cycle = s.azu.cycle ∧
    (s.switchChange l switch closed).azu.grants = s.azu.grants ∧
    (s.switchChange l switch closed).slp.receiver = s.slp.receiver ∧
    (s.switchChange l switch closed).slp.waiting = s.slp.waiting ∧
    (s.switchChange l switch closed).slp.response = s.slp.response ∧
    (s.switchChange l switch closed).pins.warning = s.pins.warning ∧
    (s.switchChange l switch closed).pins.presence = s.pins.presence ∧
    (s.switchChange l switch closed).pins.throat = s.pins.throat ∧
    (s.switchChange l switch closed).pins.tray = s.pins.tray := by
  unfold State.switchChange
  dsimp only
  (repeat' split) <;> simp

@[simp] theorem State.dark_frame (s : State) (inputs : Pins) :
    (s.dark inputs).pending = s.pending := by
  rfl

@[simp] theorem State.clearBackup_frame (s : State) :
    (s.clearBackup).ntc = s.ntc ∧ (s.clearBackup).gmu = s.gmu ∧ (s.clearBackup).slp = s.slp ∧
    (s.clearBackup).retained = s.retained ∧ (s.clearBackup).ms = s.ms ∧ (s.clearBackup).pins = s.pins ∧
    (s.clearBackup).pending = s.pending := by
  simp [State.clearBackup]

@[simp] theorem State.rebuildQueue_frame (s : State) :
    (s.rebuildQueue).ct = s.ct ∧ (s.rebuildQueue).ntc = s.ntc ∧ (s.rebuildQueue).gmu = s.gmu ∧
    (s.rebuildQueue).ldc = s.ldc ∧ (s.rebuildQueue).ecc = s.ecc ∧ (s.rebuildQueue).azu = s.azu ∧
    (s.rebuildQueue).slp = s.slp ∧ (s.rebuildQueue).set = s.set ∧
    (s.rebuildQueue).retained = s.retained ∧ (s.rebuildQueue).ms = s.ms ∧
    (s.rebuildQueue).pins = s.pins ∧ (s.rebuildQueue).pending = s.pending ∧
    (s.rebuildQueue).dpl.quotes = s.dpl.quotes ∧ (s.rebuildQueue).dpl.nextTag = s.dpl.nextTag ∧
    (s.rebuildQueue).dpl.sequence = s.dpl.sequence := by
  simp [State.rebuildQueue]

@[simp] theorem State.failInTransport_frame (s : State) :
    (s.failInTransport).ntc = s.ntc ∧ (s.failInTransport).gmu = s.gmu ∧
    (s.failInTransport).ldc = s.ldc ∧ (s.failInTransport).ecc = s.ecc ∧
    (s.failInTransport).azu = s.azu ∧ (s.failInTransport).set = s.set ∧
    (s.failInTransport).retained = s.retained ∧ (s.failInTransport).ms = s.ms ∧
    (s.failInTransport).pins = s.pins ∧ (s.failInTransport).pending = s.pending ∧
    (s.failInTransport).ct.holdDispenser = s.ct.holdDispenser ∧
    (s.failInTransport).ct.holdReject = s.ct.holdReject ∧
    (s.failInTransport).ct.holdCapture = s.ct.holdCapture ∧
    (s.failInTransport).ct.holdLane = s.ct.holdLane ∧ (s.failInTransport).dpl.nextTag = s.dpl.nextTag ∧
    (s.failInTransport).dpl.sequence = s.dpl.sequence ∧
    (s.failInTransport).slp.receiver = s.slp.receiver ∧
    (s.failInTransport).slp.waiting = s.slp.waiting ∧ (s.failInTransport).slp.response = s.slp.response := by
  simp [State.failInTransport]

@[simp] theorem State.failInFlight_frame (s : State) :
    (s.failInFlight).dpl = s.dpl ∧ (s.failInFlight).ntc = s.ntc ∧ (s.failInFlight).gmu = s.gmu ∧
    (s.failInFlight).ldc = s.ldc ∧ (s.failInFlight).azu = s.azu ∧ (s.failInFlight).slp = s.slp ∧
    (s.failInFlight).set = s.set ∧ (s.failInFlight).retained = s.retained ∧
    (s.failInFlight).ms = s.ms ∧ (s.failInFlight).pins = s.pins ∧
    (s.failInFlight).pending = s.pending ∧ (s.failInFlight).ct.holdDispenser = s.ct.holdDispenser ∧
    (s.failInFlight).ct.holdReject = s.ct.holdReject ∧
    (s.failInFlight).ct.holdCapture = s.ct.holdCapture ∧ (s.failInFlight).ct.holdLane = s.ct.holdLane ∧
    (s.failInFlight).ct.last = s.ct.last ∧ (s.failInFlight).ecc.nextNumber = s.ecc.nextNumber ∧
    (s.failInFlight).ecc.lastServed = s.ecc.lastServed := by
  unfold State.failInFlight
  split <;> simp

@[simp] theorem State.restartChanges_frame (s : State) :
    (s.restartChanges).ntc = s.ntc ∧ (s.restartChanges).gmu = s.gmu ∧ (s.restartChanges).ldc = s.ldc ∧
    (s.restartChanges).azu = s.azu ∧ (s.restartChanges).set = s.set ∧
    (s.restartChanges).retained = s.retained ∧ (s.restartChanges).ms = s.ms ∧
    (s.restartChanges).pins = s.pins ∧ (s.restartChanges).pending = s.pending ∧
    (s.restartChanges).ct.holdDispenser = s.ct.holdDispenser ∧
    (s.restartChanges).ct.holdReject = s.ct.holdReject ∧
    (s.restartChanges).ct.holdCapture = s.ct.holdCapture ∧
    (s.restartChanges).ct.holdLane = s.ct.holdLane ∧ (s.restartChanges).dpl.nextTag = s.dpl.nextTag ∧
    (s.restartChanges).dpl.sequence = s.dpl.sequence ∧
    (s.restartChanges).ecc.nextNumber = s.ecc.nextNumber ∧
    (s.restartChanges).ecc.lastServed = s.ecc.lastServed ∧
    (s.restartChanges).slp.receiver = s.slp.receiver ∧ (s.restartChanges).slp.waiting = s.slp.waiting ∧
    (s.restartChanges).slp.response = s.slp.response := by
  unfold State.restartChanges
  dsimp only
  split <;> simp

@[simp] theorem State.applyFitted_frame (s : State) :
    (s.applyFitted).ct = s.ct ∧ (s.applyFitted).dpl = s.dpl ∧ (s.applyFitted).ntc = s.ntc ∧
    (s.applyFitted).gmu = s.gmu ∧ (s.applyFitted).ldc = s.ldc ∧ (s.applyFitted).ecc = s.ecc ∧
    (s.applyFitted).azu = s.azu ∧ (s.applyFitted).slp = s.slp ∧ (s.applyFitted).retained = s.retained ∧
    (s.applyFitted).ms = s.ms ∧ (s.applyFitted).pins = s.pins ∧ (s.applyFitted).pending = s.pending := by
  unfold State.applyFitted
  (repeat' split) <;> simp

@[simp] theorem State.hideUnfittedFlags_frame (s : State) :
    (s.hideUnfittedFlags).ct = s.ct ∧ (s.hideUnfittedFlags).dpl = s.dpl ∧
    (s.hideUnfittedFlags).ntc = s.ntc ∧ (s.hideUnfittedFlags).gmu = s.gmu ∧
    (s.hideUnfittedFlags).ldc = s.ldc ∧ (s.hideUnfittedFlags).ecc = s.ecc ∧
    (s.hideUnfittedFlags).azu = s.azu ∧ (s.hideUnfittedFlags).set = s.set ∧
    (s.hideUnfittedFlags).retained = s.retained ∧ (s.hideUnfittedFlags).ms = s.ms ∧
    (s.hideUnfittedFlags).pins = s.pins ∧ (s.hideUnfittedFlags).pending = s.pending ∧
    (s.hideUnfittedFlags).slp.receiver = s.slp.receiver ∧
    (s.hideUnfittedFlags).slp.waiting = s.slp.waiting ∧
    (s.hideUnfittedFlags).slp.response = s.slp.response := by
  unfold State.hideUnfittedFlags
  refine ⟨foldl_ct _ _ ?_ _,
    foldl_dpl _ _ ?_ _,
    foldl_ntc _ _ ?_ _,
    foldl_gmu _ _ ?_ _,
    foldl_ldc _ _ ?_ _,
    foldl_ecc _ _ ?_ _,
    foldl_azu _ _ ?_ _,
    foldl_set _ _ ?_ _,
    foldl_retained _ _ ?_ _,
    foldl_ms _ _ ?_ _,
    foldl_pins _ _ ?_ _,
    foldl_pending _ _ ?_ _,
    foldl_slp_receiver _ _ ?_ _,
    foldl_slp_waiting _ _ ?_ _,
    foldl_slp_response _ _ ?_ _⟩ <;>
    (intro s a; (repeat' split) <;> simp)

@[simp] theorem State.presenceFound_frame (s : State) (p : CassettePos) :
    (s.presenceFound p).ntc = s.ntc ∧ (s.presenceFound p).gmu = s.gmu ∧
    (s.presenceFound p).ldc = s.ldc ∧ (s.presenceFound p).ecc = s.ecc ∧
    (s.presenceFound p).azu = s.azu ∧ (s.presenceFound p).set = s.set ∧
    (s.presenceFound p).retained = s.retained ∧ (s.presenceFound p).ms = s.ms ∧
    (s.presenceFound p).pins = s.pins ∧ (s.presenceFound p).pending = s.pending ∧
    (s.presenceFound p).ct.holdDispenser = s.ct.holdDispenser ∧
    (s.presenceFound p).ct.holdReject = s.ct.holdReject ∧
    (s.presenceFound p).ct.holdCapture = s.ct.holdCapture ∧
    (s.presenceFound p).ct.holdLane = s.ct.holdLane ∧ (s.presenceFound p).dpl.nextTag = s.dpl.nextTag ∧
    (s.presenceFound p).dpl.sequence = s.dpl.sequence ∧
    (s.presenceFound p).slp.receiver = s.slp.receiver ∧
    (s.presenceFound p).slp.waiting = s.slp.waiting ∧ (s.presenceFound p).slp.response = s.slp.response := by
  unfold State.presenceFound
  split <;> simp

@[simp] theorem State.readPresence_frame (s : State) :
    (s.readPresence).ntc = s.ntc ∧ (s.readPresence).gmu = s.gmu ∧ (s.readPresence).ldc = s.ldc ∧
    (s.readPresence).ecc = s.ecc ∧ (s.readPresence).azu = s.azu ∧ (s.readPresence).set = s.set ∧
    (s.readPresence).retained = s.retained ∧ (s.readPresence).ms = s.ms ∧
    (s.readPresence).pins = s.pins ∧ (s.readPresence).pending = s.pending ∧
    (s.readPresence).ct.holdDispenser = s.ct.holdDispenser ∧
    (s.readPresence).ct.holdReject = s.ct.holdReject ∧
    (s.readPresence).ct.holdCapture = s.ct.holdCapture ∧ (s.readPresence).ct.holdLane = s.ct.holdLane ∧
    (s.readPresence).dpl.nextTag = s.dpl.nextTag ∧ (s.readPresence).dpl.sequence = s.dpl.sequence ∧
    (s.readPresence).slp.receiver = s.slp.receiver ∧ (s.readPresence).slp.waiting = s.slp.waiting ∧
    (s.readPresence).slp.response = s.slp.response := by
  unfold State.readPresence
  refine ⟨foldl_ntc _ _ ?_ _,
    foldl_gmu _ _ ?_ _,
    foldl_ldc _ _ ?_ _,
    foldl_ecc _ _ ?_ _,
    foldl_azu _ _ ?_ _,
    foldl_set _ _ ?_ _,
    foldl_retained _ _ ?_ _,
    foldl_ms _ _ ?_ _,
    foldl_pins _ _ ?_ _,
    foldl_pending _ _ ?_ _,
    foldl_ct_holdDispenser _ _ ?_ _,
    foldl_ct_holdReject _ _ ?_ _,
    foldl_ct_holdCapture _ _ ?_ _,
    foldl_ct_holdLane _ _ ?_ _,
    foldl_dpl_nextTag _ _ ?_ _,
    foldl_dpl_sequence _ _ ?_ _,
    foldl_slp_receiver _ _ ?_ _,
    foldl_slp_waiting _ _ ?_ _,
    foldl_slp_response _ _ ?_ _⟩ <;>
    (intro s a; (repeat' split) <;> simp)

@[simp] theorem State.restartRetained_frame (s : State) :
    (s.restartRetained).ntc = s.ntc ∧ (s.restartRetained).gmu = s.gmu ∧
    (s.restartRetained).ldc = s.ldc ∧ (s.restartRetained).azu = s.azu ∧
    (s.restartRetained).retained = s.retained ∧ (s.restartRetained).ms = s.ms ∧
    (s.restartRetained).pins = s.pins ∧ (s.restartRetained).pending = s.pending ∧
    (s.restartRetained).ct.holdDispenser = s.ct.holdDispenser ∧
    (s.restartRetained).ct.holdReject = s.ct.holdReject ∧
    (s.restartRetained).ct.holdCapture = s.ct.holdCapture ∧
    (s.restartRetained).ct.holdLane = s.ct.holdLane ∧ (s.restartRetained).dpl.nextTag = s.dpl.nextTag ∧
    (s.restartRetained).dpl.sequence = s.dpl.sequence ∧
    (s.restartRetained).ecc.nextNumber = s.ecc.nextNumber ∧
    (s.restartRetained).ecc.lastServed = s.ecc.lastServed ∧
    (s.restartRetained).slp.receiver = s.slp.receiver ∧
    (s.restartRetained).slp.waiting = s.slp.waiting ∧ (s.restartRetained).slp.response = s.slp.response := by
  simp [State.restartRetained]

@[simp] theorem State.startLocked_frame (s : State) (l : Lane) :
    (s.startLocked l).ct = s.ct ∧ (s.startLocked l).dpl = s.dpl ∧ (s.startLocked l).ntc = s.ntc ∧
    (s.startLocked l).gmu = s.gmu ∧ (s.startLocked l).ecc = s.ecc ∧ (s.startLocked l).azu = s.azu ∧
    (s.startLocked l).slp = s.slp ∧ (s.startLocked l).set = s.set ∧
    (s.startLocked l).retained = s.retained ∧ (s.startLocked l).ms = s.ms ∧
    (s.startLocked l).pins = s.pins ∧ (s.startLocked l).pending = s.pending := by
  simp [State.startLocked]

@[simp] theorem State.startUnlocked_frame (s : State) (l : Lane) :
    (s.startUnlocked l).ecc = s.ecc ∧ (s.startUnlocked l).retained = s.retained ∧
    (s.startUnlocked l).ms = s.ms ∧ (s.startUnlocked l).pending = s.pending ∧
    (s.startUnlocked l).ct.holdDispenser = s.ct.holdDispenser ∧
    (s.startUnlocked l).ct.holdReject = s.ct.holdReject ∧
    (s.startUnlocked l).ct.holdCapture = s.ct.holdCapture ∧
    (s.startUnlocked l).ct.holdLane = s.ct.holdLane ∧ (s.startUnlocked l).dpl.nextTag = s.dpl.nextTag ∧
    (s.startUnlocked l).dpl.sequence = s.dpl.sequence ∧
    (s.startUnlocked l).ntc.pickFails = s.ntc.pickFails ∧ (s.startUnlocked l).azu.zones = s.azu.zones ∧
    (s.startUnlocked l).azu.cycle = s.azu.cycle ∧ (s.startUnlocked l).azu.grants = s.azu.grants ∧
    (s.startUnlocked l).slp.receiver = s.slp.receiver ∧
    (s.startUnlocked l).slp.waiting = s.slp.waiting ∧
    (s.startUnlocked l).slp.response = s.slp.response ∧
    (s.startUnlocked l).pins.warning = s.pins.warning ∧
    (s.startUnlocked l).pins.presence = s.pins.presence ∧
    (s.startUnlocked l).pins.throat = s.pins.throat ∧ (s.startUnlocked l).pins.tray = s.pins.tray := by
  unfold State.startUnlocked
  dsimp only
  (repeat' split) <;> simp

@[simp] theorem State.startLanes_frame (s : State) :
    (s.startLanes).ecc = s.ecc ∧ (s.startLanes).retained = s.retained ∧ (s.startLanes).ms = s.ms ∧
    (s.startLanes).pending = s.pending ∧ (s.startLanes).ct.holdDispenser = s.ct.holdDispenser ∧
    (s.startLanes).ct.holdReject = s.ct.holdReject ∧ (s.startLanes).ct.holdCapture = s.ct.holdCapture ∧
    (s.startLanes).ct.holdLane = s.ct.holdLane ∧ (s.startLanes).dpl.nextTag = s.dpl.nextTag ∧
    (s.startLanes).dpl.sequence = s.dpl.sequence ∧ (s.startLanes).ntc.pickFails = s.ntc.pickFails ∧
    (s.startLanes).azu.zones = s.azu.zones ∧ (s.startLanes).azu.cycle = s.azu.cycle ∧
    (s.startLanes).azu.grants = s.azu.grants ∧ (s.startLanes).slp.receiver = s.slp.receiver ∧
    (s.startLanes).slp.waiting = s.slp.waiting ∧ (s.startLanes).slp.response = s.slp.response ∧
    (s.startLanes).pins.warning = s.pins.warning ∧ (s.startLanes).pins.presence = s.pins.presence ∧
    (s.startLanes).pins.throat = s.pins.throat ∧ (s.startLanes).pins.tray = s.pins.tray := by
  unfold State.startLanes
  refine ⟨foldl_ecc _ _ ?_ _,
    foldl_retained _ _ ?_ _,
    foldl_ms _ _ ?_ _,
    foldl_pending _ _ ?_ _,
    foldl_ct_holdDispenser _ _ ?_ _,
    foldl_ct_holdReject _ _ ?_ _,
    foldl_ct_holdCapture _ _ ?_ _,
    foldl_ct_holdLane _ _ ?_ _,
    foldl_dpl_nextTag _ _ ?_ _,
    foldl_dpl_sequence _ _ ?_ _,
    foldl_ntc_pickFails _ _ ?_ _,
    foldl_azu_zones _ _ ?_ _,
    foldl_azu_cycle _ _ ?_ _,
    foldl_azu_grants _ _ ?_ _,
    foldl_slp_receiver _ _ ?_ _,
    foldl_slp_waiting _ _ ?_ _,
    foldl_slp_response _ _ ?_ _,
    foldl_pins_warning _ _ ?_ _,
    foldl_pins_presence _ _ ?_ _,
    foldl_pins_throat _ _ ?_ _,
    foldl_pins_tray _ _ ?_ _⟩ <;>
    (intro s a; (repeat' split) <;> simp)

@[simp] theorem State.startThroats_frame (s : State) :
    (s.startThroats).ct = s.ct ∧ (s.startThroats).dpl = s.dpl ∧ (s.startThroats).ntc = s.ntc ∧
    (s.startThroats).gmu = s.gmu ∧ (s.startThroats).ldc = s.ldc ∧ (s.startThroats).azu = s.azu ∧
    (s.startThroats).slp = s.slp ∧ (s.startThroats).set = s.set ∧
    (s.startThroats).retained = s.retained ∧ (s.startThroats).ms = s.ms ∧
    (s.startThroats).pins = s.pins ∧ (s.startThroats).pending = s.pending ∧
    (s.startThroats).ecc.nextNumber = s.ecc.nextNumber ∧
    (s.startThroats).ecc.lastServed = s.ecc.lastServed := by
  simp [State.startThroats]

@[simp] theorem State.startLeaders_frame (s : State) :
    (s.startLeaders).ct = s.ct ∧ (s.startLeaders).dpl = s.dpl ∧ (s.startLeaders).ldc = s.ldc ∧
    (s.startLeaders).slp = s.slp ∧ (s.startLeaders).set = s.set ∧
    (s.startLeaders).retained = s.retained ∧ (s.startLeaders).ms = s.ms ∧
    (s.startLeaders).pins = s.pins ∧ (s.startLeaders).pending = s.pending ∧
    (s.startLeaders).ntc.pickFails = s.ntc.pickFails ∧
    (s.startLeaders).ecc.nextNumber = s.ecc.nextNumber ∧
    (s.startLeaders).ecc.lastServed = s.ecc.lastServed ∧ (s.startLeaders).azu.zones = s.azu.zones ∧
    (s.startLeaders).azu.cycle = s.azu.cycle ∧ (s.startLeaders).azu.grants = s.azu.grants := by
  unfold State.startLeaders
  (repeat' split) <;> simp

@[simp] theorem State.startBlocks_frame (s : State) :
    (s.startBlocks).retained = s.retained ∧ (s.startBlocks).ms = s.ms ∧
    (s.startBlocks).pending = s.pending ∧ (s.startBlocks).ct.holdDispenser = s.ct.holdDispenser ∧
    (s.startBlocks).ct.holdReject = s.ct.holdReject ∧
    (s.startBlocks).ct.holdCapture = s.ct.holdCapture ∧ (s.startBlocks).ct.holdLane = s.ct.holdLane ∧
    (s.startBlocks).dpl.nextTag = s.dpl.nextTag ∧ (s.startBlocks).dpl.sequence = s.dpl.sequence ∧
    (s.startBlocks).ntc.pickFails = s.ntc.pickFails ∧
    (s.startBlocks).ecc.nextNumber = s.ecc.nextNumber ∧
    (s.startBlocks).ecc.lastServed = s.ecc.lastServed ∧ (s.startBlocks).azu.zones = s.azu.zones ∧
    (s.startBlocks).azu.cycle = s.azu.cycle ∧ (s.startBlocks).azu.grants = s.azu.grants ∧
    (s.startBlocks).slp.receiver = s.slp.receiver ∧ (s.startBlocks).slp.waiting = s.slp.waiting ∧
    (s.startBlocks).slp.response = s.slp.response ∧ (s.startBlocks).pins.warning = s.pins.warning ∧
    (s.startBlocks).pins.presence = s.pins.presence ∧ (s.startBlocks).pins.throat = s.pins.throat ∧
    (s.startBlocks).pins.tray = s.pins.tray := by
  simp [State.startBlocks]

@[simp] theorem State.markBackup_frame (s : State) (b : Bool) :
    (s.markBackup b).ct = s.ct ∧ (s.markBackup b).dpl = s.dpl ∧ (s.markBackup b).ntc = s.ntc ∧
    (s.markBackup b).gmu = s.gmu ∧ (s.markBackup b).ldc = s.ldc ∧ (s.markBackup b).ecc = s.ecc ∧
    (s.markBackup b).azu = s.azu ∧ (s.markBackup b).slp = s.slp ∧ (s.markBackup b).set = s.set ∧
    (s.markBackup b).ms = s.ms ∧ (s.markBackup b).pins = s.pins ∧ (s.markBackup b).pending = s.pending := by
  simp [State.markBackup]

@[simp] theorem State.powerOn_frame (s : State) (retained : Bool) (inputs : Pins) :
    (s.powerOn retained inputs).pending = s.pending := by
  unfold State.powerOn
  split <;> simp

@[simp] theorem State.warn_frame (s : State) :
    (s.warn).dpl = s.dpl ∧ (s.warn).retained = s.retained ∧ (s.warn).ms = s.ms ∧
    (s.warn).pending = s.pending ∧ (s.warn).ct.holdDispenser = s.ct.holdDispenser ∧
    (s.warn).ct.holdReject = s.ct.holdReject ∧ (s.warn).ct.holdCapture = s.ct.holdCapture ∧
    (s.warn).ct.holdLane = s.ct.holdLane ∧ (s.warn).ct.last = s.ct.last ∧
    (s.warn).ntc.pickFails = s.ntc.pickFails ∧ (s.warn).ecc.nextNumber = s.ecc.nextNumber ∧
    (s.warn).azu.zones = s.azu.zones ∧ (s.warn).azu.cycle = s.azu.cycle ∧
    (s.warn).azu.grants = s.azu.grants ∧ (s.warn).slp.receiver = s.slp.receiver ∧
    (s.warn).slp.waiting = s.slp.waiting ∧ (s.warn).slp.response = s.slp.response ∧
    (s.warn).pins.presence = s.pins.presence ∧ (s.warn).pins.throat = s.pins.throat ∧
    (s.warn).pins.tray = s.pins.tray := by
  unfold State.warn
  split <;> simp

@[simp] theorem State.endWarn_frame (s : State) :
    (s.endWarn).retained = s.retained ∧ (s.endWarn).ms = s.ms ∧ (s.endWarn).pending = s.pending ∧
    (s.endWarn).ct.holdDispenser = s.ct.holdDispenser ∧ (s.endWarn).ct.holdReject = s.ct.holdReject ∧
    (s.endWarn).ct.holdCapture = s.ct.holdCapture ∧ (s.endWarn).ct.holdLane = s.ct.holdLane ∧
    (s.endWarn).dpl.nextTag = s.dpl.nextTag ∧ (s.endWarn).dpl.sequence = s.dpl.sequence ∧
    (s.endWarn).ntc.pickFails = s.ntc.pickFails ∧ (s.endWarn).ecc.nextNumber = s.ecc.nextNumber ∧
    (s.endWarn).azu.zones = s.azu.zones ∧ (s.endWarn).azu.cycle = s.azu.cycle ∧
    (s.endWarn).azu.grants = s.azu.grants ∧ (s.endWarn).slp.receiver = s.slp.receiver ∧
    (s.endWarn).slp.waiting = s.slp.waiting ∧ (s.endWarn).slp.response = s.slp.response ∧
    (s.endWarn).pins.presence = s.pins.presence ∧ (s.endWarn).pins.throat = s.pins.throat ∧
    (s.endWarn).pins.tray = s.pins.tray := by
  unfold State.endWarn
  split <;> simp

@[simp] theorem State.respond_frame (s : State) (code : Nat) (r : Reply) :
    (s.respond code r).ct = s.ct ∧ (s.respond code r).dpl = s.dpl ∧ (s.respond code r).ntc = s.ntc ∧
    (s.respond code r).gmu = s.gmu ∧ (s.respond code r).ldc = s.ldc ∧ (s.respond code r).ecc = s.ecc ∧
    (s.respond code r).azu = s.azu ∧ (s.respond code r).set = s.set ∧
    (s.respond code r).retained = s.retained ∧ (s.respond code r).ms = s.ms ∧
    (s.respond code r).pins = s.pins ∧ (s.respond code r).pending = s.pending ∧
    (s.respond code r).slp.receiver = s.slp.receiver ∧ (s.respond code r).slp.waiting = s.slp.waiting := by
  simp [State.respond]

@[simp] theorem State.readRecordOwner_frame (s : State) (r : Role) (h : Handle) :
    (s.readRecordOwner r h).1.ct = s.ct ∧ (s.readRecordOwner r h).1.dpl = s.dpl ∧
    (s.readRecordOwner r h).1.ntc = s.ntc ∧ (s.readRecordOwner r h).1.gmu = s.gmu ∧
    (s.readRecordOwner r h).1.ldc = s.ldc ∧ (s.readRecordOwner r h).1.ecc = s.ecc ∧
    (s.readRecordOwner r h).1.azu = s.azu ∧ (s.readRecordOwner r h).1.slp = s.slp ∧
    (s.readRecordOwner r h).1.set = s.set ∧ (s.readRecordOwner r h).1.retained = s.retained ∧
    (s.readRecordOwner r h).1.ms = s.ms ∧ (s.readRecordOwner r h).1.pins = s.pins ∧
    (s.readRecordOwner r h).1.pending = s.pending := by
  unfold State.readRecordOwner
  (repeat' split) <;> simp

@[simp] theorem State.findLocationOwner_frame (s : State) (a0 : Role) (a : Byte × Byte) :
    (s.findLocationOwner a0 a).1.ct = s.ct ∧ (s.findLocationOwner a0 a).1.dpl = s.dpl ∧
    (s.findLocationOwner a0 a).1.ntc = s.ntc ∧ (s.findLocationOwner a0 a).1.gmu = s.gmu ∧
    (s.findLocationOwner a0 a).1.ldc = s.ldc ∧ (s.findLocationOwner a0 a).1.ecc = s.ecc ∧
    (s.findLocationOwner a0 a).1.azu = s.azu ∧ (s.findLocationOwner a0 a).1.slp = s.slp ∧
    (s.findLocationOwner a0 a).1.set = s.set ∧ (s.findLocationOwner a0 a).1.retained = s.retained ∧
    (s.findLocationOwner a0 a).1.ms = s.ms ∧ (s.findLocationOwner a0 a).1.pins = s.pins ∧
    (s.findLocationOwner a0 a).1.pending = s.pending := by
  unfold State.findLocationOwner
  (repeat' split) <;> simp

@[simp] theorem State.findEnvelopeOwner_frame (s : State) (a0 : Role) (n : Quad) :
    (s.findEnvelopeOwner a0 n).1.ct = s.ct ∧ (s.findEnvelopeOwner a0 n).1.dpl = s.dpl ∧
    (s.findEnvelopeOwner a0 n).1.ntc = s.ntc ∧ (s.findEnvelopeOwner a0 n).1.gmu = s.gmu ∧
    (s.findEnvelopeOwner a0 n).1.ldc = s.ldc ∧ (s.findEnvelopeOwner a0 n).1.ecc = s.ecc ∧
    (s.findEnvelopeOwner a0 n).1.azu = s.azu ∧ (s.findEnvelopeOwner a0 n).1.slp = s.slp ∧
    (s.findEnvelopeOwner a0 n).1.set = s.set ∧ (s.findEnvelopeOwner a0 n).1.retained = s.retained ∧
    (s.findEnvelopeOwner a0 n).1.ms = s.ms ∧ (s.findEnvelopeOwner a0 n).1.pins = s.pins ∧
    (s.findEnvelopeOwner a0 n).1.pending = s.pending := by
  unfold State.findEnvelopeOwner
  (repeat' split) <;> simp

@[simp] theorem State.listLaneOwner_frame (s : State) (r : Role) (l : Lane) :
    (s.listLaneOwner r l).1.ct = s.ct ∧ (s.listLaneOwner r l).1.dpl = s.dpl ∧
    (s.listLaneOwner r l).1.ntc = s.ntc ∧ (s.listLaneOwner r l).1.gmu = s.gmu ∧
    (s.listLaneOwner r l).1.ldc = s.ldc ∧ (s.listLaneOwner r l).1.ecc = s.ecc ∧
    (s.listLaneOwner r l).1.azu = s.azu ∧ (s.listLaneOwner r l).1.slp = s.slp ∧
    (s.listLaneOwner r l).1.set = s.set ∧ (s.listLaneOwner r l).1.retained = s.retained ∧
    (s.listLaneOwner r l).1.ms = s.ms ∧ (s.listLaneOwner r l).1.pins = s.pins ∧
    (s.listLaneOwner r l).1.pending = s.pending := by
  unfold State.listLaneOwner State.unless
  split <;> simp

@[simp] theorem State.readTotalsOwner_frame (s : State) (r : Role) (a0 : Unit) :
    (s.readTotalsOwner r a0).1.ct = s.ct ∧ (s.readTotalsOwner r a0).1.dpl = s.dpl ∧
    (s.readTotalsOwner r a0).1.ntc = s.ntc ∧ (s.readTotalsOwner r a0).1.gmu = s.gmu ∧
    (s.readTotalsOwner r a0).1.ldc = s.ldc ∧ (s.readTotalsOwner r a0).1.ecc = s.ecc ∧
    (s.readTotalsOwner r a0).1.azu = s.azu ∧ (s.readTotalsOwner r a0).1.slp = s.slp ∧
    (s.readTotalsOwner r a0).1.set = s.set ∧ (s.readTotalsOwner r a0).1.retained = s.retained ∧
    (s.readTotalsOwner r a0).1.ms = s.ms ∧ (s.readTotalsOwner r a0).1.pins = s.pins ∧
    (s.readTotalsOwner r a0).1.pending = s.pending := by
  simp [State.readTotalsOwner]

@[simp] theorem State.readDrawerOwner_frame (s : State) (a0 : Role) (l : Lane) :
    (s.readDrawerOwner a0 l).1.ct = s.ct ∧ (s.readDrawerOwner a0 l).1.dpl = s.dpl ∧
    (s.readDrawerOwner a0 l).1.ntc = s.ntc ∧ (s.readDrawerOwner a0 l).1.gmu = s.gmu ∧
    (s.readDrawerOwner a0 l).1.ldc = s.ldc ∧ (s.readDrawerOwner a0 l).1.ecc = s.ecc ∧
    (s.readDrawerOwner a0 l).1.azu = s.azu ∧ (s.readDrawerOwner a0 l).1.slp = s.slp ∧
    (s.readDrawerOwner a0 l).1.set = s.set ∧ (s.readDrawerOwner a0 l).1.retained = s.retained ∧
    (s.readDrawerOwner a0 l).1.ms = s.ms ∧ (s.readDrawerOwner a0 l).1.pins = s.pins ∧
    (s.readDrawerOwner a0 l).1.pending = s.pending := by
  unfold State.readDrawerOwner State.unless
  split <;> simp

@[simp] theorem State.readNoteOwner_frame (s : State) (a0 : Role) (a1 : Unit) :
    (s.readNoteOwner a0 a1).1.ct = s.ct ∧ (s.readNoteOwner a0 a1).1.dpl = s.dpl ∧
    (s.readNoteOwner a0 a1).1.ntc = s.ntc ∧ (s.readNoteOwner a0 a1).1.gmu = s.gmu ∧
    (s.readNoteOwner a0 a1).1.ldc = s.ldc ∧ (s.readNoteOwner a0 a1).1.ecc = s.ecc ∧
    (s.readNoteOwner a0 a1).1.azu = s.azu ∧ (s.readNoteOwner a0 a1).1.slp = s.slp ∧
    (s.readNoteOwner a0 a1).1.set = s.set ∧ (s.readNoteOwner a0 a1).1.retained = s.retained ∧
    (s.readNoteOwner a0 a1).1.ms = s.ms ∧ (s.readNoteOwner a0 a1).1.pins = s.pins ∧
    (s.readNoteOwner a0 a1).1.pending = s.pending := by
  simp [State.readNoteOwner]

@[simp] theorem State.readEnvOwner_frame (s : State) (a0 : Role) (a1 : Unit) :
    (s.readEnvOwner a0 a1).1.ct = s.ct ∧ (s.readEnvOwner a0 a1).1.dpl = s.dpl ∧
    (s.readEnvOwner a0 a1).1.ntc = s.ntc ∧ (s.readEnvOwner a0 a1).1.gmu = s.gmu ∧
    (s.readEnvOwner a0 a1).1.ldc = s.ldc ∧ (s.readEnvOwner a0 a1).1.ecc = s.ecc ∧
    (s.readEnvOwner a0 a1).1.azu = s.azu ∧ (s.readEnvOwner a0 a1).1.slp = s.slp ∧
    (s.readEnvOwner a0 a1).1.set = s.set ∧ (s.readEnvOwner a0 a1).1.retained = s.retained ∧
    (s.readEnvOwner a0 a1).1.ms = s.ms ∧ (s.readEnvOwner a0 a1).1.pins = s.pins ∧
    (s.readEnvOwner a0 a1).1.pending = s.pending := by
  simp [State.readEnvOwner]

@[simp] theorem State.readAlarmsOwner_frame (s : State) (r : Role) (a0 : Unit) :
    (s.readAlarmsOwner r a0).1.ct = s.ct ∧ (s.readAlarmsOwner r a0).1.dpl = s.dpl ∧
    (s.readAlarmsOwner r a0).1.ntc = s.ntc ∧ (s.readAlarmsOwner r a0).1.gmu = s.gmu ∧
    (s.readAlarmsOwner r a0).1.ldc = s.ldc ∧ (s.readAlarmsOwner r a0).1.ecc = s.ecc ∧
    (s.readAlarmsOwner r a0).1.azu = s.azu ∧ (s.readAlarmsOwner r a0).1.slp = s.slp ∧
    (s.readAlarmsOwner r a0).1.set = s.set ∧ (s.readAlarmsOwner r a0).1.retained = s.retained ∧
    (s.readAlarmsOwner r a0).1.ms = s.ms ∧ (s.readAlarmsOwner r a0).1.pins = s.pins ∧
    (s.readAlarmsOwner r a0).1.pending = s.pending := by
  simp [State.readAlarmsOwner]

@[simp] theorem State.readEventsOwner_frame (s : State) (r : Role) (a0 : Unit) :
    (s.readEventsOwner r a0).1.ct = s.ct ∧ (s.readEventsOwner r a0).1.dpl = s.dpl ∧
    (s.readEventsOwner r a0).1.ntc = s.ntc ∧ (s.readEventsOwner r a0).1.gmu = s.gmu ∧
    (s.readEventsOwner r a0).1.ldc = s.ldc ∧ (s.readEventsOwner r a0).1.ecc = s.ecc ∧
    (s.readEventsOwner r a0).1.azu = s.azu ∧ (s.readEventsOwner r a0).1.set = s.set ∧
    (s.readEventsOwner r a0).1.retained = s.retained ∧ (s.readEventsOwner r a0).1.ms = s.ms ∧
    (s.readEventsOwner r a0).1.pins = s.pins ∧ (s.readEventsOwner r a0).1.pending = s.pending ∧
    (s.readEventsOwner r a0).1.slp.receiver = s.slp.receiver ∧
    (s.readEventsOwner r a0).1.slp.waiting = s.slp.waiting ∧
    (s.readEventsOwner r a0).1.slp.response = s.slp.response := by
  simp [State.readEventsOwner]

@[simp] theorem State.identifyOwner_frame (s : State) (a0 : Role) (a1 : Unit) :
    (s.identifyOwner a0 a1).1.ct = s.ct ∧ (s.identifyOwner a0 a1).1.dpl = s.dpl ∧
    (s.identifyOwner a0 a1).1.ntc = s.ntc ∧ (s.identifyOwner a0 a1).1.gmu = s.gmu ∧
    (s.identifyOwner a0 a1).1.ldc = s.ldc ∧ (s.identifyOwner a0 a1).1.ecc = s.ecc ∧
    (s.identifyOwner a0 a1).1.azu = s.azu ∧ (s.identifyOwner a0 a1).1.slp = s.slp ∧
    (s.identifyOwner a0 a1).1.set = s.set ∧ (s.identifyOwner a0 a1).1.retained = s.retained ∧
    (s.identifyOwner a0 a1).1.ms = s.ms ∧ (s.identifyOwner a0 a1).1.pins = s.pins ∧
    (s.identifyOwner a0 a1).1.pending = s.pending := by
  simp [State.identifyOwner]

@[simp] theorem State.evalMarks_frame (s : State) :
    (s.evalMarks).dpl = s.dpl ∧ (s.evalMarks).ntc = s.ntc ∧ (s.evalMarks).gmu = s.gmu ∧
    (s.evalMarks).ldc = s.ldc ∧ (s.evalMarks).ecc = s.ecc ∧ (s.evalMarks).azu = s.azu ∧
    (s.evalMarks).set = s.set ∧ (s.evalMarks).retained = s.retained ∧ (s.evalMarks).ms = s.ms ∧
    (s.evalMarks).pins = s.pins ∧ (s.evalMarks).pending = s.pending ∧
    (s.evalMarks).ct.holdDispenser = s.ct.holdDispenser ∧
    (s.evalMarks).ct.holdReject = s.ct.holdReject ∧ (s.evalMarks).ct.holdCapture = s.ct.holdCapture ∧
    (s.evalMarks).ct.holdLane = s.ct.holdLane ∧ (s.evalMarks).ct.last = s.ct.last ∧
    (s.evalMarks).slp.receiver = s.slp.receiver ∧ (s.evalMarks).slp.waiting = s.slp.waiting ∧
    (s.evalMarks).slp.response = s.slp.response := by
  unfold State.evalMarks
  dsimp only
  split <;> simp

@[simp] theorem State.settingEffect_frame (s : State) (x : Setting) (old : Settings) (before : Bool) :
    (s.settingEffect x old before).ldc = s.ldc ∧ (s.settingEffect x old before).retained = s.retained ∧
    (s.settingEffect x old before).ms = s.ms ∧ (s.settingEffect x old before).pins = s.pins ∧
    (s.settingEffect x old before).pending = s.pending ∧
    (s.settingEffect x old before).ct.holdDispenser = s.ct.holdDispenser ∧
    (s.settingEffect x old before).ct.holdReject = s.ct.holdReject ∧
    (s.settingEffect x old before).ct.holdCapture = s.ct.holdCapture ∧
    (s.settingEffect x old before).ct.holdLane = s.ct.holdLane ∧
    (s.settingEffect x old before).ct.last = s.ct.last ∧
    (s.settingEffect x old before).dpl.quotes = s.dpl.quotes ∧
    (s.settingEffect x old before).dpl.nextTag = s.dpl.nextTag ∧
    (s.settingEffect x old before).dpl.sequence = s.dpl.sequence ∧
    (s.settingEffect x old before).ntc.pickFails = s.ntc.pickFails ∧
    (s.settingEffect x old before).ecc.nextNumber = s.ecc.nextNumber ∧
    (s.settingEffect x old before).azu.zones = s.azu.zones ∧
    (s.settingEffect x old before).azu.cycle = s.azu.cycle ∧
    (s.settingEffect x old before).azu.grants = s.azu.grants ∧
    (s.settingEffect x old before).slp.receiver = s.slp.receiver ∧
    (s.settingEffect x old before).slp.waiting = s.slp.waiting ∧
    (s.settingEffect x old before).slp.response = s.slp.response := by
  unfold State.settingEffect
  split <;> simp

@[simp] theorem State.writeSetting_frame (s : State) (x : Setting) (v : Nat) :
    (s.writeSetting x v).ldc = s.ldc ∧ (s.writeSetting x v).retained = s.retained ∧
    (s.writeSetting x v).ms = s.ms ∧ (s.writeSetting x v).pins = s.pins ∧
    (s.writeSetting x v).pending = s.pending ∧
    (s.writeSetting x v).ct.holdDispenser = s.ct.holdDispenser ∧
    (s.writeSetting x v).ct.holdReject = s.ct.holdReject ∧
    (s.writeSetting x v).ct.holdCapture = s.ct.holdCapture ∧
    (s.writeSetting x v).ct.holdLane = s.ct.holdLane ∧ (s.writeSetting x v).ct.last = s.ct.last ∧
    (s.writeSetting x v).dpl.quotes = s.dpl.quotes ∧ (s.writeSetting x v).dpl.nextTag = s.dpl.nextTag ∧
    (s.writeSetting x v).dpl.sequence = s.dpl.sequence ∧
    (s.writeSetting x v).ntc.pickFails = s.ntc.pickFails ∧
    (s.writeSetting x v).ecc.nextNumber = s.ecc.nextNumber ∧
    (s.writeSetting x v).azu.zones = s.azu.zones ∧ (s.writeSetting x v).azu.cycle = s.azu.cycle ∧
    (s.writeSetting x v).azu.grants = s.azu.grants ∧
    (s.writeSetting x v).slp.receiver = s.slp.receiver ∧
    (s.writeSetting x v).slp.waiting = s.slp.waiting ∧
    (s.writeSetting x v).slp.response = s.slp.response := by
  simp [State.writeSetting]

@[simp] theorem State.readSettingOwner_frame (s : State) (a0 : Role) (a : Byte × Byte) :
    (s.readSettingOwner a0 a).1.ct = s.ct ∧ (s.readSettingOwner a0 a).1.dpl = s.dpl ∧
    (s.readSettingOwner a0 a).1.ntc = s.ntc ∧ (s.readSettingOwner a0 a).1.gmu = s.gmu ∧
    (s.readSettingOwner a0 a).1.ldc = s.ldc ∧ (s.readSettingOwner a0 a).1.ecc = s.ecc ∧
    (s.readSettingOwner a0 a).1.azu = s.azu ∧ (s.readSettingOwner a0 a).1.slp = s.slp ∧
    (s.readSettingOwner a0 a).1.set = s.set ∧ (s.readSettingOwner a0 a).1.retained = s.retained ∧
    (s.readSettingOwner a0 a).1.ms = s.ms ∧ (s.readSettingOwner a0 a).1.pins = s.pins ∧
    (s.readSettingOwner a0 a).1.pending = s.pending := by
  unfold State.readSettingOwner
  split <;> simp

@[simp] theorem State.writeSettingOwner_frame (s : State) (r : Role) (a : Byte × Byte × Half) :
    (s.writeSettingOwner r a).1.ldc = s.ldc ∧ (s.writeSettingOwner r a).1.retained = s.retained ∧
    (s.writeSettingOwner r a).1.ms = s.ms ∧ (s.writeSettingOwner r a).1.pins = s.pins ∧
    (s.writeSettingOwner r a).1.pending = s.pending ∧
    (s.writeSettingOwner r a).1.ct.holdDispenser = s.ct.holdDispenser ∧
    (s.writeSettingOwner r a).1.ct.holdReject = s.ct.holdReject ∧
    (s.writeSettingOwner r a).1.ct.holdCapture = s.ct.holdCapture ∧
    (s.writeSettingOwner r a).1.ct.holdLane = s.ct.holdLane ∧
    (s.writeSettingOwner r a).1.ct.last = s.ct.last ∧
    (s.writeSettingOwner r a).1.dpl.quotes = s.dpl.quotes ∧
    (s.writeSettingOwner r a).1.dpl.nextTag = s.dpl.nextTag ∧
    (s.writeSettingOwner r a).1.dpl.sequence = s.dpl.sequence ∧
    (s.writeSettingOwner r a).1.ntc.pickFails = s.ntc.pickFails ∧
    (s.writeSettingOwner r a).1.ecc.nextNumber = s.ecc.nextNumber ∧
    (s.writeSettingOwner r a).1.azu.zones = s.azu.zones ∧
    (s.writeSettingOwner r a).1.azu.cycle = s.azu.cycle ∧
    (s.writeSettingOwner r a).1.azu.grants = s.azu.grants ∧
    (s.writeSettingOwner r a).1.slp.receiver = s.slp.receiver ∧
    (s.writeSettingOwner r a).1.slp.waiting = s.slp.waiting ∧
    (s.writeSettingOwner r a).1.slp.response = s.slp.response := by
  unfold State.writeSettingOwner
  (repeat' split) <;> simp

@[simp] theorem State.presentOwner_frame (s : State) (r : Role) (l : Lane) :
    (s.presentOwner r l).1.dpl = s.dpl ∧ (s.presentOwner r l).1.gmu = s.gmu ∧
    (s.presentOwner r l).1.ecc = s.ecc ∧ (s.presentOwner r l).1.slp = s.slp ∧
    (s.presentOwner r l).1.set = s.set ∧ (s.presentOwner r l).1.retained = s.retained ∧
    (s.presentOwner r l).1.ms = s.ms ∧ (s.presentOwner r l).1.pending = s.pending ∧
    (s.presentOwner r l).1.ct.holdDispenser = s.ct.holdDispenser ∧
    (s.presentOwner r l).1.ct.holdReject = s.ct.holdReject ∧
    (s.presentOwner r l).1.ct.holdCapture = s.ct.holdCapture ∧
    (s.presentOwner r l).1.ct.holdLane = s.ct.holdLane ∧ (s.presentOwner r l).1.ct.last = s.ct.last ∧
    (s.presentOwner r l).1.ntc.pickFails = s.ntc.pickFails ∧
    (s.presentOwner r l).1.azu.zones = s.azu.zones ∧ (s.presentOwner r l).1.azu.cycle = s.azu.cycle ∧
    (s.presentOwner r l).1.azu.grants = s.azu.grants ∧
    (s.presentOwner r l).1.pins.warning = s.pins.warning ∧
    (s.presentOwner r l).1.pins.presence = s.pins.presence ∧
    (s.presentOwner r l).1.pins.throat = s.pins.throat ∧ (s.presentOwner r l).1.pins.tray = s.pins.tray := by
  unfold State.presentOwner State.unless
  split <;> simp

@[simp] theorem State.retractOwner_frame (s : State) (r : Role) (l : Lane) :
    (s.retractOwner r l).1.dpl = s.dpl ∧ (s.retractOwner r l).1.gmu = s.gmu ∧
    (s.retractOwner r l).1.ecc = s.ecc ∧ (s.retractOwner r l).1.slp = s.slp ∧
    (s.retractOwner r l).1.set = s.set ∧ (s.retractOwner r l).1.retained = s.retained ∧
    (s.retractOwner r l).1.ms = s.ms ∧ (s.retractOwner r l).1.pending = s.pending ∧
    (s.retractOwner r l).1.ct.holdDispenser = s.ct.holdDispenser ∧
    (s.retractOwner r l).1.ct.holdReject = s.ct.holdReject ∧
    (s.retractOwner r l).1.ct.holdCapture = s.ct.holdCapture ∧
    (s.retractOwner r l).1.ct.holdLane = s.ct.holdLane ∧ (s.retractOwner r l).1.ct.last = s.ct.last ∧
    (s.retractOwner r l).1.ntc.pickFails = s.ntc.pickFails ∧
    (s.retractOwner r l).1.azu.zones = s.azu.zones ∧ (s.retractOwner r l).1.azu.cycle = s.azu.cycle ∧
    (s.retractOwner r l).1.azu.grants = s.azu.grants ∧
    (s.retractOwner r l).1.pins.warning = s.pins.warning ∧
    (s.retractOwner r l).1.pins.presence = s.pins.presence ∧
    (s.retractOwner r l).1.pins.throat = s.pins.throat ∧ (s.retractOwner r l).1.pins.tray = s.pins.tray := by
  unfold State.retractOwner State.unless
  split <;> simp

@[simp] theorem State.declareOwner_frame (s : State) (r : Role) (a : Lane × Nat) :
    (s.declareOwner r a).1.dpl = s.dpl ∧ (s.declareOwner r a).1.gmu = s.gmu ∧
    (s.declareOwner r a).1.ldc = s.ldc ∧ (s.declareOwner r a).1.ecc = s.ecc ∧
    (s.declareOwner r a).1.set = s.set ∧ (s.declareOwner r a).1.retained = s.retained ∧
    (s.declareOwner r a).1.ms = s.ms ∧ (s.declareOwner r a).1.pending = s.pending ∧
    (s.declareOwner r a).1.ct.holdDispenser = s.ct.holdDispenser ∧
    (s.declareOwner r a).1.ct.holdReject = s.ct.holdReject ∧
    (s.declareOwner r a).1.ct.holdCapture = s.ct.holdCapture ∧
    (s.declareOwner r a).1.ct.holdLane = s.ct.holdLane ∧ (s.declareOwner r a).1.ct.last = s.ct.last ∧
    (s.declareOwner r a).1.ntc.pickFails = s.ntc.pickFails ∧
    (s.declareOwner r a).1.azu.zones = s.azu.zones ∧ (s.declareOwner r a).1.azu.cycle = s.azu.cycle ∧
    (s.declareOwner r a).1.azu.grants = s.azu.grants ∧
    (s.declareOwner r a).1.slp.receiver = s.slp.receiver ∧
    (s.declareOwner r a).1.slp.waiting = s.slp.waiting ∧
    (s.declareOwner r a).1.slp.response = s.slp.response ∧
    (s.declareOwner r a).1.pins.warning = s.pins.warning ∧
    (s.declareOwner r a).1.pins.presence = s.pins.presence ∧
    (s.declareOwner r a).1.pins.throat = s.pins.throat ∧ (s.declareOwner r a).1.pins.tray = s.pins.tray := by
  unfold State.declareOwner State.unless
  dsimp only
  (repeat' split) <;> simp

@[simp] theorem State.handBundle_frame (s : State) (h : Handle) (b : Bundle) :
    (s.handBundle h b).ntc = s.ntc ∧ (s.handBundle h b).gmu = s.gmu ∧ (s.handBundle h b).ldc = s.ldc ∧
    (s.handBundle h b).ecc = s.ecc ∧ (s.handBundle h b).azu = s.azu ∧ (s.handBundle h b).set = s.set ∧
    (s.handBundle h b).retained = s.retained ∧ (s.handBundle h b).ms = s.ms ∧
    (s.handBundle h b).pins = s.pins ∧ (s.handBundle h b).pending = s.pending ∧
    (s.handBundle h b).ct.holdDispenser = s.ct.holdDispenser ∧
    (s.handBundle h b).ct.holdReject = s.ct.holdReject ∧
    (s.handBundle h b).ct.holdCapture = s.ct.holdCapture ∧
    (s.handBundle h b).ct.holdLane = s.ct.holdLane ∧ (s.handBundle h b).dpl.nextTag = s.dpl.nextTag ∧
    (s.handBundle h b).dpl.sequence = s.dpl.sequence ∧
    (s.handBundle h b).slp.receiver = s.slp.receiver ∧ (s.handBundle h b).slp.waiting = s.slp.waiting ∧
    (s.handBundle h b).slp.response = s.slp.response := by
  simp [State.handBundle]

@[simp] theorem State.resolveOwner_frame (s : State) (r : Role) (h : Handle) :
    (s.resolveOwner r h).1.gmu = s.gmu ∧ (s.resolveOwner r h).1.ldc = s.ldc ∧
    (s.resolveOwner r h).1.ecc = s.ecc ∧ (s.resolveOwner r h).1.set = s.set ∧
    (s.resolveOwner r h).1.retained = s.retained ∧ (s.resolveOwner r h).1.ms = s.ms ∧
    (s.resolveOwner r h).1.pending = s.pending ∧
    (s.resolveOwner r h).1.ct.holdDispenser = s.ct.holdDispenser ∧
    (s.resolveOwner r h).1.ct.holdReject = s.ct.holdReject ∧
    (s.resolveOwner r h).1.ct.holdCapture = s.ct.holdCapture ∧
    (s.resolveOwner r h).1.ct.holdLane = s.ct.holdLane ∧
    (s.resolveOwner r h).1.dpl.nextTag = s.dpl.nextTag ∧
    (s.resolveOwner r h).1.dpl.sequence = s.dpl.sequence ∧
    (s.resolveOwner r h).1.ntc.pickFails = s.ntc.pickFails ∧
    (s.resolveOwner r h).1.azu.zones = s.azu.zones ∧ (s.resolveOwner r h).1.azu.cycle = s.azu.cycle ∧
    (s.resolveOwner r h).1.azu.grants = s.azu.grants ∧
    (s.resolveOwner r h).1.slp.receiver = s.slp.receiver ∧
    (s.resolveOwner r h).1.slp.waiting = s.slp.waiting ∧
    (s.resolveOwner r h).1.slp.response = s.slp.response ∧
    (s.resolveOwner r h).1.pins.warning = s.pins.warning ∧
    (s.resolveOwner r h).1.pins.presence = s.pins.presence ∧
    (s.resolveOwner r h).1.pins.throat = s.pins.throat ∧ (s.resolveOwner r h).1.pins.tray = s.pins.tray := by
  unfold State.resolveOwner State.unless
  (repeat' split) <;> simp

@[simp] theorem State.acceptOwner_frame (s : State) (r : Role) (a : Handle × Nat) :
    (s.acceptOwner r a).1.dpl = s.dpl ∧ (s.acceptOwner r a).1.gmu = s.gmu ∧
    (s.acceptOwner r a).1.ldc = s.ldc ∧ (s.acceptOwner r a).1.ecc = s.ecc ∧
    (s.acceptOwner r a).1.set = s.set ∧ (s.acceptOwner r a).1.retained = s.retained ∧
    (s.acceptOwner r a).1.ms = s.ms ∧ (s.acceptOwner r a).1.pending = s.pending ∧
    (s.acceptOwner r a).1.ct.holdDispenser = s.ct.holdDispenser ∧
    (s.acceptOwner r a).1.ct.holdReject = s.ct.holdReject ∧
    (s.acceptOwner r a).1.ct.holdCapture = s.ct.holdCapture ∧
    (s.acceptOwner r a).1.ct.holdLane = s.ct.holdLane ∧ (s.acceptOwner r a).1.ct.last = s.ct.last ∧
    (s.acceptOwner r a).1.ntc.pickFails = s.ntc.pickFails ∧
    (s.acceptOwner r a).1.azu.zones = s.azu.zones ∧ (s.acceptOwner r a).1.azu.cycle = s.azu.cycle ∧
    (s.acceptOwner r a).1.azu.grants = s.azu.grants ∧
    (s.acceptOwner r a).1.slp.receiver = s.slp.receiver ∧
    (s.acceptOwner r a).1.slp.waiting = s.slp.waiting ∧
    (s.acceptOwner r a).1.slp.response = s.slp.response ∧
    (s.acceptOwner r a).1.pins.warning = s.pins.warning ∧
    (s.acceptOwner r a).1.pins.presence = s.pins.presence ∧
    (s.acceptOwner r a).1.pins.throat = s.pins.throat ∧ (s.acceptOwner r a).1.pins.tray = s.pins.tray := by
  unfold State.acceptOwner State.unless
  (repeat' split) <;> simp

@[simp] theorem State.resumeOwner_frame (s : State) (a0 : Role) (l : Lane) :
    (s.resumeOwner a0 l).1.ecc = s.ecc ∧ (s.resumeOwner a0 l).1.retained = s.retained ∧
    (s.resumeOwner a0 l).1.ms = s.ms ∧ (s.resumeOwner a0 l).1.pending = s.pending ∧
    (s.resumeOwner a0 l).1.ct.holdDispenser = s.ct.holdDispenser ∧
    (s.resumeOwner a0 l).1.ct.holdReject = s.ct.holdReject ∧
    (s.resumeOwner a0 l).1.ct.holdCapture = s.ct.holdCapture ∧
    (s.resumeOwner a0 l).1.ct.holdLane = s.ct.holdLane ∧
    (s.resumeOwner a0 l).1.dpl.nextTag = s.dpl.nextTag ∧
    (s.resumeOwner a0 l).1.dpl.sequence = s.dpl.sequence ∧
    (s.resumeOwner a0 l).1.ntc.pickFails = s.ntc.pickFails ∧
    (s.resumeOwner a0 l).1.azu.zones = s.azu.zones ∧ (s.resumeOwner a0 l).1.azu.cycle = s.azu.cycle ∧
    (s.resumeOwner a0 l).1.azu.grants = s.azu.grants ∧
    (s.resumeOwner a0 l).1.slp.receiver = s.slp.receiver ∧
    (s.resumeOwner a0 l).1.slp.waiting = s.slp.waiting ∧
    (s.resumeOwner a0 l).1.slp.response = s.slp.response ∧
    (s.resumeOwner a0 l).1.pins.warning = s.pins.warning ∧
    (s.resumeOwner a0 l).1.pins.presence = s.pins.presence ∧
    (s.resumeOwner a0 l).1.pins.throat = s.pins.throat ∧ (s.resumeOwner a0 l).1.pins.tray = s.pins.tray := by
  unfold State.resumeOwner State.unless
  split <;> simp

@[simp] theorem State.resetOwner_frame (s : State) (a0 : Role) (l : Lane) :
    (s.resetOwner a0 l).1.ecc = s.ecc ∧ (s.resetOwner a0 l).1.retained = s.retained ∧
    (s.resetOwner a0 l).1.ms = s.ms ∧ (s.resetOwner a0 l).1.pending = s.pending ∧
    (s.resetOwner a0 l).1.ct.holdDispenser = s.ct.holdDispenser ∧
    (s.resetOwner a0 l).1.ct.holdReject = s.ct.holdReject ∧
    (s.resetOwner a0 l).1.ct.holdCapture = s.ct.holdCapture ∧
    (s.resetOwner a0 l).1.ct.holdLane = s.ct.holdLane ∧
    (s.resetOwner a0 l).1.dpl.nextTag = s.dpl.nextTag ∧
    (s.resetOwner a0 l).1.dpl.sequence = s.dpl.sequence ∧
    (s.resetOwner a0 l).1.ntc.pickFails = s.ntc.pickFails ∧
    (s.resetOwner a0 l).1.azu.zones = s.azu.zones ∧ (s.resetOwner a0 l).1.azu.cycle = s.azu.cycle ∧
    (s.resetOwner a0 l).1.azu.grants = s.azu.grants ∧
    (s.resetOwner a0 l).1.slp.receiver = s.slp.receiver ∧
    (s.resetOwner a0 l).1.slp.waiting = s.slp.waiting ∧
    (s.resetOwner a0 l).1.slp.response = s.slp.response ∧
    (s.resetOwner a0 l).1.pins.warning = s.pins.warning ∧
    (s.resetOwner a0 l).1.pins.presence = s.pins.presence ∧
    (s.resetOwner a0 l).1.pins.throat = s.pins.throat ∧ (s.resetOwner a0 l).1.pins.tray = s.pins.tray := by
  unfold State.resetOwner State.unless
  split <;> simp

@[simp] theorem State.quoteOwner_frame (s : State) (r : Role) (a : Lane × Nat) :
    (s.quoteOwner r a).1.ct = s.ct ∧ (s.quoteOwner r a).1.ntc = s.ntc ∧
    (s.quoteOwner r a).1.gmu = s.gmu ∧ (s.quoteOwner r a).1.ldc = s.ldc ∧
    (s.quoteOwner r a).1.ecc = s.ecc ∧ (s.quoteOwner r a).1.azu = s.azu ∧
    (s.quoteOwner r a).1.slp = s.slp ∧ (s.quoteOwner r a).1.set = s.set ∧
    (s.quoteOwner r a).1.retained = s.retained ∧ (s.quoteOwner r a).1.ms = s.ms ∧
    (s.quoteOwner r a).1.pins = s.pins ∧ (s.quoteOwner r a).1.pending = s.pending ∧
    (s.quoteOwner r a).1.dpl.sequence = s.dpl.sequence := by
  unfold State.quoteOwner State.unless
  (repeat' split) <;> simp

@[simp] theorem State.commitOwner_frame (s : State) (r : Role) (a : Lane × Nat) :
    (s.commitOwner r a).1.ldc = s.ldc ∧ (s.commitOwner r a).1.ecc = s.ecc ∧
    (s.commitOwner r a).1.set = s.set ∧ (s.commitOwner r a).1.retained = s.retained ∧
    (s.commitOwner r a).1.ms = s.ms ∧ (s.commitOwner r a).1.pins = s.pins ∧
    (s.commitOwner r a).1.pending = s.pending ∧
    (s.commitOwner r a).1.ct.holdDispenser = s.ct.holdDispenser ∧
    (s.commitOwner r a).1.ct.holdReject = s.ct.holdReject ∧
    (s.commitOwner r a).1.ct.holdCapture = s.ct.holdCapture ∧
    (s.commitOwner r a).1.ct.holdLane = s.ct.holdLane ∧ (s.commitOwner r a).1.ct.last = s.ct.last ∧
    (s.commitOwner r a).1.dpl.nextTag = s.dpl.nextTag ∧
    (s.commitOwner r a).1.ntc.pickFails = s.ntc.pickFails ∧
    (s.commitOwner r a).1.azu.zones = s.azu.zones ∧ (s.commitOwner r a).1.azu.cycle = s.azu.cycle ∧
    (s.commitOwner r a).1.azu.grants = s.azu.grants ∧
    (s.commitOwner r a).1.slp.receiver = s.slp.receiver ∧
    (s.commitOwner r a).1.slp.waiting = s.slp.waiting ∧
    (s.commitOwner r a).1.slp.response = s.slp.response := by
  unfold State.commitOwner State.unless
  (repeat' split) <;> simp

@[simp] theorem State.dispenseOwner_frame (s : State) (r : Role) (a : Lane × Nat) :
    (s.dispenseOwner r a).1.ldc = s.ldc ∧ (s.dispenseOwner r a).1.ecc = s.ecc ∧
    (s.dispenseOwner r a).1.set = s.set ∧ (s.dispenseOwner r a).1.retained = s.retained ∧
    (s.dispenseOwner r a).1.ms = s.ms ∧ (s.dispenseOwner r a).1.pins = s.pins ∧
    (s.dispenseOwner r a).1.pending = s.pending ∧
    (s.dispenseOwner r a).1.ct.holdDispenser = s.ct.holdDispenser ∧
    (s.dispenseOwner r a).1.ct.holdReject = s.ct.holdReject ∧
    (s.dispenseOwner r a).1.ct.holdCapture = s.ct.holdCapture ∧
    (s.dispenseOwner r a).1.ct.holdLane = s.ct.holdLane ∧ (s.dispenseOwner r a).1.ct.last = s.ct.last ∧
    (s.dispenseOwner r a).1.dpl.nextTag = s.dpl.nextTag ∧
    (s.dispenseOwner r a).1.ntc.pickFails = s.ntc.pickFails ∧
    (s.dispenseOwner r a).1.azu.zones = s.azu.zones ∧ (s.dispenseOwner r a).1.azu.cycle = s.azu.cycle ∧
    (s.dispenseOwner r a).1.azu.grants = s.azu.grants ∧
    (s.dispenseOwner r a).1.slp.receiver = s.slp.receiver ∧
    (s.dispenseOwner r a).1.slp.waiting = s.slp.waiting ∧
    (s.dispenseOwner r a).1.slp.response = s.slp.response := by
  unfold State.dispenseOwner State.unless
  (repeat' split) <;> simp

@[simp] theorem State.dispenseMixOwner_frame (s : State) (r : Role) (a : Lane × PerPos Nat) :
    (s.dispenseMixOwner r a).1.ldc = s.ldc ∧ (s.dispenseMixOwner r a).1.ecc = s.ecc ∧
    (s.dispenseMixOwner r a).1.set = s.set ∧ (s.dispenseMixOwner r a).1.retained = s.retained ∧
    (s.dispenseMixOwner r a).1.ms = s.ms ∧ (s.dispenseMixOwner r a).1.pins = s.pins ∧
    (s.dispenseMixOwner r a).1.pending = s.pending ∧
    (s.dispenseMixOwner r a).1.ct.holdDispenser = s.ct.holdDispenser ∧
    (s.dispenseMixOwner r a).1.ct.holdReject = s.ct.holdReject ∧
    (s.dispenseMixOwner r a).1.ct.holdCapture = s.ct.holdCapture ∧
    (s.dispenseMixOwner r a).1.ct.holdLane = s.ct.holdLane ∧
    (s.dispenseMixOwner r a).1.ct.last = s.ct.last ∧
    (s.dispenseMixOwner r a).1.dpl.nextTag = s.dpl.nextTag ∧
    (s.dispenseMixOwner r a).1.ntc.pickFails = s.ntc.pickFails ∧
    (s.dispenseMixOwner r a).1.azu.zones = s.azu.zones ∧
    (s.dispenseMixOwner r a).1.azu.cycle = s.azu.cycle ∧
    (s.dispenseMixOwner r a).1.azu.grants = s.azu.grants ∧
    (s.dispenseMixOwner r a).1.slp.receiver = s.slp.receiver ∧
    (s.dispenseMixOwner r a).1.slp.waiting = s.slp.waiting ∧
    (s.dispenseMixOwner r a).1.slp.response = s.slp.response := by
  unfold State.dispenseMixOwner State.unless
  (repeat' split) <;> simp

@[simp] theorem State.cancelOwner_frame (s : State) (r : Role) (h : Handle) :
    (s.cancelOwner r h).1.ldc = s.ldc ∧ (s.cancelOwner r h).1.ecc = s.ecc ∧
    (s.cancelOwner r h).1.retained = s.retained ∧ (s.cancelOwner r h).1.ms = s.ms ∧
    (s.cancelOwner r h).1.pins = s.pins ∧ (s.cancelOwner r h).1.pending = s.pending ∧
    (s.cancelOwner r h).1.ct.holdDispenser = s.ct.holdDispenser ∧
    (s.cancelOwner r h).1.ct.holdReject = s.ct.holdReject ∧
    (s.cancelOwner r h).1.ct.holdCapture = s.ct.holdCapture ∧
    (s.cancelOwner r h).1.ct.holdLane = s.ct.holdLane ∧
    (s.cancelOwner r h).1.dpl.nextTag = s.dpl.nextTag ∧
    (s.cancelOwner r h).1.dpl.sequence = s.dpl.sequence ∧
    (s.cancelOwner r h).1.ntc.pickFails = s.ntc.pickFails ∧
    (s.cancelOwner r h).1.azu.zones = s.azu.zones ∧ (s.cancelOwner r h).1.azu.cycle = s.azu.cycle ∧
    (s.cancelOwner r h).1.azu.grants = s.azu.grants ∧
    (s.cancelOwner r h).1.slp.receiver = s.slp.receiver ∧
    (s.cancelOwner r h).1.slp.waiting = s.slp.waiting ∧
    (s.cancelOwner r h).1.slp.response = s.slp.response := by
  unfold State.cancelOwner State.unless
  (repeat' split) <;> simp

@[simp] theorem State.noteSignal_frame (ref : Option ItemStock) (s : State) (c0 : GaugeSignal) :
    (State.noteSignal ref s c0).ldc = s.ldc ∧ (State.noteSignal ref s c0).ecc = s.ecc ∧
    (State.noteSignal ref s c0).retained = s.retained ∧ (State.noteSignal ref s c0).ms = s.ms ∧
    (State.noteSignal ref s c0).pending = s.pending ∧
    (State.noteSignal ref s c0).ct.holdDispenser = s.ct.holdDispenser ∧
    (State.noteSignal ref s c0).ct.holdReject = s.ct.holdReject ∧
    (State.noteSignal ref s c0).ct.holdCapture = s.ct.holdCapture ∧
    (State.noteSignal ref s c0).ct.holdLane = s.ct.holdLane ∧
    (State.noteSignal ref s c0).dpl.nextTag = s.dpl.nextTag ∧
    (State.noteSignal ref s c0).dpl.sequence = s.dpl.sequence ∧
    (State.noteSignal ref s c0).azu.zones = s.azu.zones ∧
    (State.noteSignal ref s c0).azu.cycle = s.azu.cycle ∧
    (State.noteSignal ref s c0).azu.grants = s.azu.grants ∧
    (State.noteSignal ref s c0).slp.receiver = s.slp.receiver ∧
    (State.noteSignal ref s c0).slp.waiting = s.slp.waiting ∧
    (State.noteSignal ref s c0).slp.response = s.slp.response ∧
    (State.noteSignal ref s c0).pins.warning = s.pins.warning ∧
    (State.noteSignal ref s c0).pins.presence = s.pins.presence ∧
    (State.noteSignal ref s c0).pins.throat = s.pins.throat ∧
    (State.noteSignal ref s c0).pins.tray = s.pins.tray := by
  unfold State.noteSignal
  (repeat' split) <;> simp

@[simp] theorem State.noteLeaderPulse_frame (s : State) :
    (s.noteLeaderPulse).ldc = s.ldc ∧ (s.noteLeaderPulse).ecc = s.ecc ∧
    (s.noteLeaderPulse).retained = s.retained ∧ (s.noteLeaderPulse).ms = s.ms ∧
    (s.noteLeaderPulse).pending = s.pending ∧
    (s.noteLeaderPulse).ct.holdDispenser = s.ct.holdDispenser ∧
    (s.noteLeaderPulse).ct.holdReject = s.ct.holdReject ∧
    (s.noteLeaderPulse).ct.holdCapture = s.ct.holdCapture ∧
    (s.noteLeaderPulse).ct.holdLane = s.ct.holdLane ∧ (s.noteLeaderPulse).dpl.nextTag = s.dpl.nextTag ∧
    (s.noteLeaderPulse).dpl.sequence = s.dpl.sequence ∧
    (s.noteLeaderPulse).ntc.pickFails = s.ntc.pickFails ∧ (s.noteLeaderPulse).azu.zones = s.azu.zones ∧
    (s.noteLeaderPulse).azu.cycle = s.azu.cycle ∧ (s.noteLeaderPulse).azu.grants = s.azu.grants ∧
    (s.noteLeaderPulse).slp.receiver = s.slp.receiver ∧
    (s.noteLeaderPulse).slp.waiting = s.slp.waiting ∧
    (s.noteLeaderPulse).slp.response = s.slp.response ∧
    (s.noteLeaderPulse).pins.warning = s.pins.warning ∧
    (s.noteLeaderPulse).pins.presence = s.pins.presence ∧
    (s.noteLeaderPulse).pins.throat = s.pins.throat ∧ (s.noteLeaderPulse).pins.tray = s.pins.tray := by
  unfold State.noteLeaderPulse
  dsimp only
  (repeat' split) <;> simp

@[simp] theorem State.notePulse_frame (s : State) (a b : Nat) :
    (s.notePulse a b).ldc = s.ldc ∧ (s.notePulse a b).ecc = s.ecc ∧
    (s.notePulse a b).retained = s.retained ∧ (s.notePulse a b).ms = s.ms ∧
    (s.notePulse a b).pending = s.pending ∧ (s.notePulse a b).ct.holdDispenser = s.ct.holdDispenser ∧
    (s.notePulse a b).ct.holdReject = s.ct.holdReject ∧
    (s.notePulse a b).ct.holdCapture = s.ct.holdCapture ∧
    (s.notePulse a b).ct.holdLane = s.ct.holdLane ∧ (s.notePulse a b).dpl.nextTag = s.dpl.nextTag ∧
    (s.notePulse a b).dpl.sequence = s.dpl.sequence ∧ (s.notePulse a b).azu.zones = s.azu.zones ∧
    (s.notePulse a b).azu.cycle = s.azu.cycle ∧ (s.notePulse a b).azu.grants = s.azu.grants ∧
    (s.notePulse a b).slp.receiver = s.slp.receiver ∧ (s.notePulse a b).slp.waiting = s.slp.waiting ∧
    (s.notePulse a b).slp.response = s.slp.response ∧ (s.notePulse a b).pins.warning = s.pins.warning ∧
    (s.notePulse a b).pins.presence = s.pins.presence ∧ (s.notePulse a b).pins.throat = s.pins.throat ∧
    (s.notePulse a b).pins.tray = s.pins.tray := by
  unfold State.notePulse
  dsimp only
  (repeat' split) <;> simp

@[simp] theorem State.noteEnds_frame (s : State) (m : Measure) :
    (s.noteEnds m).ldc = s.ldc ∧ (s.noteEnds m).ecc = s.ecc ∧ (s.noteEnds m).retained = s.retained ∧
    (s.noteEnds m).ms = s.ms ∧ (s.noteEnds m).pending = s.pending ∧
    (s.noteEnds m).ct.holdDispenser = s.ct.holdDispenser ∧
    (s.noteEnds m).ct.holdReject = s.ct.holdReject ∧ (s.noteEnds m).ct.holdCapture = s.ct.holdCapture ∧
    (s.noteEnds m).ct.holdLane = s.ct.holdLane ∧ (s.noteEnds m).dpl.nextTag = s.dpl.nextTag ∧
    (s.noteEnds m).dpl.sequence = s.dpl.sequence ∧ (s.noteEnds m).ntc.pickFails = s.ntc.pickFails ∧
    (s.noteEnds m).azu.zones = s.azu.zones ∧ (s.noteEnds m).azu.cycle = s.azu.cycle ∧
    (s.noteEnds m).azu.grants = s.azu.grants ∧ (s.noteEnds m).slp.receiver = s.slp.receiver ∧
    (s.noteEnds m).slp.waiting = s.slp.waiting ∧ (s.noteEnds m).slp.response = s.slp.response ∧
    (s.noteEnds m).pins.warning = s.pins.warning ∧ (s.noteEnds m).pins.presence = s.pins.presence ∧
    (s.noteEnds m).pins.throat = s.pins.throat ∧ (s.noteEnds m).pins.tray = s.pins.tray := by
  unfold State.noteEnds
  (repeat' split) <;> simp

@[simp] theorem State.noteAtLimit_frame (s : State) :
    (s.noteAtLimit).ldc = s.ldc ∧ (s.noteAtLimit).ecc = s.ecc ∧ (s.noteAtLimit).retained = s.retained ∧
    (s.noteAtLimit).ms = s.ms ∧ (s.noteAtLimit).pending = s.pending ∧
    (s.noteAtLimit).ct.holdDispenser = s.ct.holdDispenser ∧
    (s.noteAtLimit).ct.holdReject = s.ct.holdReject ∧
    (s.noteAtLimit).ct.holdCapture = s.ct.holdCapture ∧ (s.noteAtLimit).ct.holdLane = s.ct.holdLane ∧
    (s.noteAtLimit).dpl.nextTag = s.dpl.nextTag ∧ (s.noteAtLimit).dpl.sequence = s.dpl.sequence ∧
    (s.noteAtLimit).ntc.pickFails = s.ntc.pickFails ∧ (s.noteAtLimit).azu.zones = s.azu.zones ∧
    (s.noteAtLimit).azu.cycle = s.azu.cycle ∧ (s.noteAtLimit).azu.grants = s.azu.grants ∧
    (s.noteAtLimit).slp.receiver = s.slp.receiver ∧ (s.noteAtLimit).slp.waiting = s.slp.waiting ∧
    (s.noteAtLimit).slp.response = s.slp.response ∧ (s.noteAtLimit).pins.warning = s.pins.warning ∧
    (s.noteAtLimit).pins.presence = s.pins.presence ∧ (s.noteAtLimit).pins.throat = s.pins.throat ∧
    (s.noteAtLimit).pins.tray = s.pins.tray := by
  unfold State.noteAtLimit
  (repeat' split) <;> simp

@[simp] theorem State.noteLeaderOver_frame (s : State) (empty : Bool) :
    (s.noteLeaderOver empty).ldc = s.ldc ∧ (s.noteLeaderOver empty).ecc = s.ecc ∧
    (s.noteLeaderOver empty).retained = s.retained ∧ (s.noteLeaderOver empty).ms = s.ms ∧
    (s.noteLeaderOver empty).pending = s.pending ∧
    (s.noteLeaderOver empty).ct.holdDispenser = s.ct.holdDispenser ∧
    (s.noteLeaderOver empty).ct.holdReject = s.ct.holdReject ∧
    (s.noteLeaderOver empty).ct.holdCapture = s.ct.holdCapture ∧
    (s.noteLeaderOver empty).ct.holdLane = s.ct.holdLane ∧
    (s.noteLeaderOver empty).dpl.nextTag = s.dpl.nextTag ∧
    (s.noteLeaderOver empty).dpl.sequence = s.dpl.sequence ∧
    (s.noteLeaderOver empty).ntc.pickFails = s.ntc.pickFails ∧
    (s.noteLeaderOver empty).azu.zones = s.azu.zones ∧
    (s.noteLeaderOver empty).azu.cycle = s.azu.cycle ∧
    (s.noteLeaderOver empty).azu.grants = s.azu.grants ∧
    (s.noteLeaderOver empty).slp.receiver = s.slp.receiver ∧
    (s.noteLeaderOver empty).slp.waiting = s.slp.waiting ∧
    (s.noteLeaderOver empty).slp.response = s.slp.response ∧
    (s.noteLeaderOver empty).pins.warning = s.pins.warning ∧
    (s.noteLeaderOver empty).pins.presence = s.pins.presence ∧
    (s.noteLeaderOver empty).pins.throat = s.pins.throat ∧
    (s.noteLeaderOver empty).pins.tray = s.pins.tray := by
  unfold State.noteLeaderOver
  split <;> simp

@[simp] theorem State.bundleArrives_frame (s : State) (l : Lane) :
    (s.bundleArrives l).ecc = s.ecc ∧ (s.bundleArrives l).set = s.set ∧
    (s.bundleArrives l).retained = s.retained ∧ (s.bundleArrives l).ms = s.ms ∧
    (s.bundleArrives l).pending = s.pending ∧
    (s.bundleArrives l).ct.holdDispenser = s.ct.holdDispenser ∧
    (s.bundleArrives l).ct.holdReject = s.ct.holdReject ∧
    (s.bundleArrives l).ct.holdCapture = s.ct.holdCapture ∧
    (s.bundleArrives l).ct.holdLane = s.ct.holdLane ∧ (s.bundleArrives l).ct.last = s.ct.last ∧
    (s.bundleArrives l).dpl.quotes = s.dpl.quotes ∧ (s.bundleArrives l).dpl.nextTag = s.dpl.nextTag ∧
    (s.bundleArrives l).dpl.sequence = s.dpl.sequence ∧
    (s.bundleArrives l).ntc.pickFails = s.ntc.pickFails ∧ (s.bundleArrives l).azu.zones = s.azu.zones ∧
    (s.bundleArrives l).azu.cycle = s.azu.cycle ∧ (s.bundleArrives l).azu.grants = s.azu.grants ∧
    (s.bundleArrives l).slp.receiver = s.slp.receiver ∧
    (s.bundleArrives l).slp.waiting = s.slp.waiting ∧
    (s.bundleArrives l).slp.response = s.slp.response ∧
    (s.bundleArrives l).pins.warning = s.pins.warning ∧
    (s.bundleArrives l).pins.presence = s.pins.presence ∧
    (s.bundleArrives l).pins.throat = s.pins.throat ∧ (s.bundleArrives l).pins.tray = s.pins.tray := by
  unfold State.bundleArrives
  (repeat' split) <;> simp

@[simp] theorem State.clearNoteOwner_frame (s : State) (a0 : Role) (a1 : Unit) :
    (s.clearNoteOwner a0 a1).1.ct = s.ct ∧ (s.clearNoteOwner a0 a1).1.dpl = s.dpl ∧
    (s.clearNoteOwner a0 a1).1.ldc = s.ldc ∧ (s.clearNoteOwner a0 a1).1.ecc = s.ecc ∧
    (s.clearNoteOwner a0 a1).1.slp = s.slp ∧ (s.clearNoteOwner a0 a1).1.set = s.set ∧
    (s.clearNoteOwner a0 a1).1.retained = s.retained ∧ (s.clearNoteOwner a0 a1).1.ms = s.ms ∧
    (s.clearNoteOwner a0 a1).1.pins = s.pins ∧ (s.clearNoteOwner a0 a1).1.pending = s.pending ∧
    (s.clearNoteOwner a0 a1).1.ntc.pickFails = s.ntc.pickFails ∧
    (s.clearNoteOwner a0 a1).1.azu.zones = s.azu.zones ∧
    (s.clearNoteOwner a0 a1).1.azu.cycle = s.azu.cycle ∧
    (s.clearNoteOwner a0 a1).1.azu.grants = s.azu.grants := by
  unfold State.clearNoteOwner State.unless
  (repeat' split) <;> simp

@[simp] theorem State.envSignal_frame (s : State) (c0 : GaugeSignal) :
    (s.envSignal c0).dpl = s.dpl ∧ (s.envSignal c0).ntc = s.ntc ∧ (s.envSignal c0).ldc = s.ldc ∧
    (s.envSignal c0).retained = s.retained ∧ (s.envSignal c0).ms = s.ms ∧
    (s.envSignal c0).pins = s.pins ∧ (s.envSignal c0).pending = s.pending ∧
    (s.envSignal c0).ct.holdDispenser = s.ct.holdDispenser ∧
    (s.envSignal c0).ct.holdReject = s.ct.holdReject ∧
    (s.envSignal c0).ct.holdCapture = s.ct.holdCapture ∧ (s.envSignal c0).ct.holdLane = s.ct.holdLane ∧
    (s.envSignal c0).ct.last = s.ct.last ∧ (s.envSignal c0).ecc.nextNumber = s.ecc.nextNumber ∧
    (s.envSignal c0).azu.zones = s.azu.zones ∧ (s.envSignal c0).azu.cycle = s.azu.cycle ∧
    (s.envSignal c0).azu.grants = s.azu.grants ∧ (s.envSignal c0).slp.receiver = s.slp.receiver ∧
    (s.envSignal c0).slp.waiting = s.slp.waiting ∧ (s.envSignal c0).slp.response = s.slp.response := by
  unfold State.envSignal
  split <;> simp

@[simp] theorem State.envLeaderPulse_frame (s : State) :
    (s.envLeaderPulse).dpl = s.dpl ∧ (s.envLeaderPulse).ntc = s.ntc ∧ (s.envLeaderPulse).ldc = s.ldc ∧
    (s.envLeaderPulse).retained = s.retained ∧ (s.envLeaderPulse).ms = s.ms ∧
    (s.envLeaderPulse).pins = s.pins ∧ (s.envLeaderPulse).pending = s.pending ∧
    (s.envLeaderPulse).ct.holdDispenser = s.ct.holdDispenser ∧
    (s.envLeaderPulse).ct.holdReject = s.ct.holdReject ∧
    (s.envLeaderPulse).ct.holdCapture = s.ct.holdCapture ∧
    (s.envLeaderPulse).ct.holdLane = s.ct.holdLane ∧ (s.envLeaderPulse).ct.last = s.ct.last ∧
    (s.envLeaderPulse).ecc.nextNumber = s.ecc.nextNumber ∧ (s.envLeaderPulse).azu.zones = s.azu.zones ∧
    (s.envLeaderPulse).azu.cycle = s.azu.cycle ∧ (s.envLeaderPulse).azu.grants = s.azu.grants ∧
    (s.envLeaderPulse).slp.receiver = s.slp.receiver ∧ (s.envLeaderPulse).slp.waiting = s.slp.waiting ∧
    (s.envLeaderPulse).slp.response = s.slp.response := by
  unfold State.envLeaderPulse
  dsimp only
  (repeat' split) <;> simp

@[simp] theorem State.envPulse_frame (s : State) (a b : Nat) :
    (s.envPulse a b).dpl = s.dpl ∧ (s.envPulse a b).ntc = s.ntc ∧ (s.envPulse a b).ldc = s.ldc ∧
    (s.envPulse a b).retained = s.retained ∧ (s.envPulse a b).ms = s.ms ∧
    (s.envPulse a b).pins = s.pins ∧ (s.envPulse a b).pending = s.pending ∧
    (s.envPulse a b).ct.holdDispenser = s.ct.holdDispenser ∧
    (s.envPulse a b).ct.holdReject = s.ct.holdReject ∧
    (s.envPulse a b).ct.holdCapture = s.ct.holdCapture ∧ (s.envPulse a b).ct.holdLane = s.ct.holdLane ∧
    (s.envPulse a b).ct.last = s.ct.last ∧ (s.envPulse a b).ecc.nextNumber = s.ecc.nextNumber ∧
    (s.envPulse a b).azu.zones = s.azu.zones ∧ (s.envPulse a b).azu.cycle = s.azu.cycle ∧
    (s.envPulse a b).azu.grants = s.azu.grants ∧ (s.envPulse a b).slp.receiver = s.slp.receiver ∧
    (s.envPulse a b).slp.waiting = s.slp.waiting ∧ (s.envPulse a b).slp.response = s.slp.response := by
  unfold State.envPulse
  dsimp only
  (repeat' split) <;> simp

@[simp] theorem State.envEnds_frame (s : State) (m : Measure) :
    (s.envEnds m).dpl = s.dpl ∧ (s.envEnds m).ntc = s.ntc ∧ (s.envEnds m).ldc = s.ldc ∧
    (s.envEnds m).retained = s.retained ∧ (s.envEnds m).ms = s.ms ∧ (s.envEnds m).pins = s.pins ∧
    (s.envEnds m).pending = s.pending ∧ (s.envEnds m).ct.holdDispenser = s.ct.holdDispenser ∧
    (s.envEnds m).ct.holdReject = s.ct.holdReject ∧ (s.envEnds m).ct.holdCapture = s.ct.holdCapture ∧
    (s.envEnds m).ct.holdLane = s.ct.holdLane ∧ (s.envEnds m).ct.last = s.ct.last ∧
    (s.envEnds m).ecc.nextNumber = s.ecc.nextNumber ∧ (s.envEnds m).azu.zones = s.azu.zones ∧
    (s.envEnds m).azu.cycle = s.azu.cycle ∧ (s.envEnds m).azu.grants = s.azu.grants ∧
    (s.envEnds m).slp.receiver = s.slp.receiver ∧ (s.envEnds m).slp.waiting = s.slp.waiting ∧
    (s.envEnds m).slp.response = s.slp.response := by
  unfold State.envEnds
  (repeat' split) <;> simp

@[simp] theorem State.envAtLimit_frame (s : State) (thickness skew : Nat) :
    (s.envAtLimit thickness skew).dpl = s.dpl ∧ (s.envAtLimit thickness skew).ntc = s.ntc ∧
    (s.envAtLimit thickness skew).ldc = s.ldc ∧ (s.envAtLimit thickness skew).retained = s.retained ∧
    (s.envAtLimit thickness skew).ms = s.ms ∧ (s.envAtLimit thickness skew).pins = s.pins ∧
    (s.envAtLimit thickness skew).pending = s.pending ∧
    (s.envAtLimit thickness skew).ct.holdDispenser = s.ct.holdDispenser ∧
    (s.envAtLimit thickness skew).ct.holdReject = s.ct.holdReject ∧
    (s.envAtLimit thickness skew).ct.holdCapture = s.ct.holdCapture ∧
    (s.envAtLimit thickness skew).ct.holdLane = s.ct.holdLane ∧
    (s.envAtLimit thickness skew).ct.last = s.ct.last ∧
    (s.envAtLimit thickness skew).ecc.nextNumber = s.ecc.nextNumber ∧
    (s.envAtLimit thickness skew).azu.zones = s.azu.zones ∧
    (s.envAtLimit thickness skew).azu.cycle = s.azu.cycle ∧
    (s.envAtLimit thickness skew).azu.grants = s.azu.grants ∧
    (s.envAtLimit thickness skew).slp.receiver = s.slp.receiver ∧
    (s.envAtLimit thickness skew).slp.waiting = s.slp.waiting ∧
    (s.envAtLimit thickness skew).slp.response = s.slp.response := by
  unfold State.envAtLimit
  (repeat' split) <;> simp

@[simp] theorem State.envLeaderOver_frame (s : State) :
    (s.envLeaderOver).dpl = s.dpl ∧ (s.envLeaderOver).ntc = s.ntc ∧ (s.envLeaderOver).ldc = s.ldc ∧
    (s.envLeaderOver).retained = s.retained ∧ (s.envLeaderOver).ms = s.ms ∧
    (s.envLeaderOver).pins = s.pins ∧ (s.envLeaderOver).pending = s.pending ∧
    (s.envLeaderOver).ct.holdDispenser = s.ct.holdDispenser ∧
    (s.envLeaderOver).ct.holdReject = s.ct.holdReject ∧
    (s.envLeaderOver).ct.holdCapture = s.ct.holdCapture ∧
    (s.envLeaderOver).ct.holdLane = s.ct.holdLane ∧ (s.envLeaderOver).ct.last = s.ct.last ∧
    (s.envLeaderOver).ecc.nextNumber = s.ecc.nextNumber ∧ (s.envLeaderOver).azu.zones = s.azu.zones ∧
    (s.envLeaderOver).azu.cycle = s.azu.cycle ∧ (s.envLeaderOver).azu.grants = s.azu.grants ∧
    (s.envLeaderOver).slp.receiver = s.slp.receiver ∧ (s.envLeaderOver).slp.waiting = s.slp.waiting ∧
    (s.envLeaderOver).slp.response = s.slp.response := by
  unfold State.envLeaderOver
  split <;> simp

@[simp] theorem State.clearEnvOwner_frame (s : State) (a0 : Role) (a1 : Unit) :
    (s.clearEnvOwner a0 a1).1.dpl = s.dpl ∧ (s.clearEnvOwner a0 a1).1.ntc = s.ntc ∧
    (s.clearEnvOwner a0 a1).1.ldc = s.ldc ∧ (s.clearEnvOwner a0 a1).1.retained = s.retained ∧
    (s.clearEnvOwner a0 a1).1.ms = s.ms ∧ (s.clearEnvOwner a0 a1).1.pins = s.pins ∧
    (s.clearEnvOwner a0 a1).1.pending = s.pending ∧
    (s.clearEnvOwner a0 a1).1.ct.holdDispenser = s.ct.holdDispenser ∧
    (s.clearEnvOwner a0 a1).1.ct.holdReject = s.ct.holdReject ∧
    (s.clearEnvOwner a0 a1).1.ct.holdCapture = s.ct.holdCapture ∧
    (s.clearEnvOwner a0 a1).1.ct.holdLane = s.ct.holdLane ∧
    (s.clearEnvOwner a0 a1).1.ct.last = s.ct.last ∧
    (s.clearEnvOwner a0 a1).1.ecc.nextNumber = s.ecc.nextNumber ∧
    (s.clearEnvOwner a0 a1).1.azu.zones = s.azu.zones ∧
    (s.clearEnvOwner a0 a1).1.azu.cycle = s.azu.cycle ∧
    (s.clearEnvOwner a0 a1).1.azu.grants = s.azu.grants ∧
    (s.clearEnvOwner a0 a1).1.slp.receiver = s.slp.receiver ∧
    (s.clearEnvOwner a0 a1).1.slp.waiting = s.slp.waiting ∧
    (s.clearEnvOwner a0 a1).1.slp.response = s.slp.response := by
  unfold State.clearEnvOwner State.unless
  (repeat' split) <;> simp

@[simp] theorem State.claimOwner_frame (s : State) (a0 : Role) (h : Handle) :
    (s.claimOwner a0 h).1.dpl = s.dpl ∧ (s.claimOwner a0 h).1.ntc = s.ntc ∧
    (s.claimOwner a0 h).1.gmu = s.gmu ∧ (s.claimOwner a0 h).1.ldc = s.ldc ∧
    (s.claimOwner a0 h).1.ecc = s.ecc ∧ (s.claimOwner a0 h).1.azu = s.azu ∧
    (s.claimOwner a0 h).1.slp = s.slp ∧ (s.claimOwner a0 h).1.set = s.set ∧
    (s.claimOwner a0 h).1.retained = s.retained ∧ (s.claimOwner a0 h).1.ms = s.ms ∧
    (s.claimOwner a0 h).1.pins = s.pins ∧ (s.claimOwner a0 h).1.pending = s.pending ∧
    (s.claimOwner a0 h).1.ct.holdDispenser = s.ct.holdDispenser ∧
    (s.claimOwner a0 h).1.ct.holdReject = s.ct.holdReject ∧
    (s.claimOwner a0 h).1.ct.holdCapture = s.ct.holdCapture ∧
    (s.claimOwner a0 h).1.ct.holdLane = s.ct.holdLane ∧ (s.claimOwner a0 h).1.ct.last = s.ct.last := by
  unfold State.claimOwner
  (repeat' split) <;> simp

@[simp] theorem State.releaseOwner_frame (s : State) (a0 : Role) (h : Handle) :
    (s.releaseOwner a0 h).1.dpl = s.dpl ∧ (s.releaseOwner a0 h).1.ntc = s.ntc ∧
    (s.releaseOwner a0 h).1.gmu = s.gmu ∧ (s.releaseOwner a0 h).1.ldc = s.ldc ∧
    (s.releaseOwner a0 h).1.ecc = s.ecc ∧ (s.releaseOwner a0 h).1.azu = s.azu ∧
    (s.releaseOwner a0 h).1.slp = s.slp ∧ (s.releaseOwner a0 h).1.set = s.set ∧
    (s.releaseOwner a0 h).1.retained = s.retained ∧ (s.releaseOwner a0 h).1.ms = s.ms ∧
    (s.releaseOwner a0 h).1.pins = s.pins ∧ (s.releaseOwner a0 h).1.pending = s.pending ∧
    (s.releaseOwner a0 h).1.ct.holdDispenser = s.ct.holdDispenser ∧
    (s.releaseOwner a0 h).1.ct.holdReject = s.ct.holdReject ∧
    (s.releaseOwner a0 h).1.ct.holdCapture = s.ct.holdCapture ∧
    (s.releaseOwner a0 h).1.ct.holdLane = s.ct.holdLane ∧ (s.releaseOwner a0 h).1.ct.last = s.ct.last := by
  unfold State.releaseOwner
  (repeat' split) <;> simp

@[simp] theorem State.loadStock_frame (s : State) (st : Stock) :
    (s.loadStock st).1.dpl = s.dpl ∧ (s.loadStock st).1.gmu = s.gmu ∧ (s.loadStock st).1.ldc = s.ldc ∧
    (s.loadStock st).1.ecc = s.ecc ∧ (s.loadStock st).1.azu = s.azu ∧ (s.loadStock st).1.set = s.set ∧
    (s.loadStock st).1.retained = s.retained ∧ (s.loadStock st).1.ms = s.ms ∧
    (s.loadStock st).1.pins = s.pins ∧ (s.loadStock st).1.pending = s.pending ∧
    (s.loadStock st).1.ct.holdDispenser = s.ct.holdDispenser ∧
    (s.loadStock st).1.ct.holdReject = s.ct.holdReject ∧
    (s.loadStock st).1.ct.holdCapture = s.ct.holdCapture ∧
    (s.loadStock st).1.ct.holdLane = s.ct.holdLane ∧ (s.loadStock st).1.ct.last = s.ct.last ∧
    (s.loadStock st).1.slp.receiver = s.slp.receiver ∧ (s.loadStock st).1.slp.waiting = s.slp.waiting ∧
    (s.loadStock st).1.slp.response = s.slp.response := by
  unfold State.loadStock
  split <;> simp

@[simp] theorem State.loadOwner_frame (s : State) (a0 : Role) (d : Declaration) :
    (s.loadOwner a0 d).1.dpl = s.dpl ∧ (s.loadOwner a0 d).1.gmu = s.gmu ∧
    (s.loadOwner a0 d).1.ldc = s.ldc ∧ (s.loadOwner a0 d).1.ecc = s.ecc ∧
    (s.loadOwner a0 d).1.azu = s.azu ∧ (s.loadOwner a0 d).1.set = s.set ∧
    (s.loadOwner a0 d).1.retained = s.retained ∧ (s.loadOwner a0 d).1.ms = s.ms ∧
    (s.loadOwner a0 d).1.pins = s.pins ∧ (s.loadOwner a0 d).1.pending = s.pending ∧
    (s.loadOwner a0 d).1.ct.holdDispenser = s.ct.holdDispenser ∧
    (s.loadOwner a0 d).1.ct.holdReject = s.ct.holdReject ∧
    (s.loadOwner a0 d).1.ct.holdCapture = s.ct.holdCapture ∧
    (s.loadOwner a0 d).1.ct.holdLane = s.ct.holdLane ∧ (s.loadOwner a0 d).1.ct.last = s.ct.last ∧
    (s.loadOwner a0 d).1.slp.receiver = s.slp.receiver ∧
    (s.loadOwner a0 d).1.slp.waiting = s.slp.waiting ∧
    (s.loadOwner a0 d).1.slp.response = s.slp.response := by
  unfold State.loadOwner State.unless
  split <;> simp

@[simp] theorem State.unloadOwner_frame (s : State) (a0 : Role) (p : CassettePos) :
    (s.unloadOwner a0 p).1.ntc = s.ntc ∧ (s.unloadOwner a0 p).1.gmu = s.gmu ∧
    (s.unloadOwner a0 p).1.ldc = s.ldc ∧ (s.unloadOwner a0 p).1.ecc = s.ecc ∧
    (s.unloadOwner a0 p).1.azu = s.azu ∧ (s.unloadOwner a0 p).1.slp = s.slp ∧
    (s.unloadOwner a0 p).1.set = s.set ∧ (s.unloadOwner a0 p).1.retained = s.retained ∧
    (s.unloadOwner a0 p).1.ms = s.ms ∧ (s.unloadOwner a0 p).1.pins = s.pins ∧
    (s.unloadOwner a0 p).1.pending = s.pending ∧
    (s.unloadOwner a0 p).1.ct.holdDispenser = s.ct.holdDispenser ∧
    (s.unloadOwner a0 p).1.ct.holdReject = s.ct.holdReject ∧
    (s.unloadOwner a0 p).1.ct.holdCapture = s.ct.holdCapture ∧
    (s.unloadOwner a0 p).1.ct.holdLane = s.ct.holdLane ∧ (s.unloadOwner a0 p).1.ct.last = s.ct.last ∧
    (s.unloadOwner a0 p).1.dpl.nextTag = s.dpl.nextTag ∧
    (s.unloadOwner a0 p).1.dpl.sequence = s.dpl.sequence := by
  unfold State.unloadOwner State.unless
  (repeat' split) <;> simp

@[simp] theorem State.reconcileOwner_frame (s : State) (a0 : Role) (a : CassettePos × Nat) :
    (s.reconcileOwner a0 a).1.ntc = s.ntc ∧ (s.reconcileOwner a0 a).1.gmu = s.gmu ∧
    (s.reconcileOwner a0 a).1.ldc = s.ldc ∧ (s.reconcileOwner a0 a).1.ecc = s.ecc ∧
    (s.reconcileOwner a0 a).1.azu = s.azu ∧ (s.reconcileOwner a0 a).1.set = s.set ∧
    (s.reconcileOwner a0 a).1.retained = s.retained ∧ (s.reconcileOwner a0 a).1.ms = s.ms ∧
    (s.reconcileOwner a0 a).1.pins = s.pins ∧ (s.reconcileOwner a0 a).1.pending = s.pending ∧
    (s.reconcileOwner a0 a).1.ct.holdDispenser = s.ct.holdDispenser ∧
    (s.reconcileOwner a0 a).1.ct.holdReject = s.ct.holdReject ∧
    (s.reconcileOwner a0 a).1.ct.holdCapture = s.ct.holdCapture ∧
    (s.reconcileOwner a0 a).1.ct.holdLane = s.ct.holdLane ∧
    (s.reconcileOwner a0 a).1.ct.last = s.ct.last ∧
    (s.reconcileOwner a0 a).1.dpl.nextTag = s.dpl.nextTag ∧
    (s.reconcileOwner a0 a).1.dpl.sequence = s.dpl.sequence ∧
    (s.reconcileOwner a0 a).1.slp.receiver = s.slp.receiver ∧
    (s.reconcileOwner a0 a).1.slp.waiting = s.slp.waiting ∧
    (s.reconcileOwner a0 a).1.slp.response = s.slp.response := by
  unfold State.reconcileOwner State.unless
  (repeat' split) <;> simp

@[simp] theorem State.presenceOpens_frame (s : State) (p : CassettePos) :
    (s.presenceOpens p).ldc = s.ldc ∧ (s.presenceOpens p).ecc = s.ecc ∧
    (s.presenceOpens p).retained = s.retained ∧ (s.presenceOpens p).ms = s.ms ∧
    (s.presenceOpens p).pending = s.pending ∧
    (s.presenceOpens p).ct.holdDispenser = s.ct.holdDispenser ∧
    (s.presenceOpens p).ct.holdReject = s.ct.holdReject ∧
    (s.presenceOpens p).ct.holdCapture = s.ct.holdCapture ∧
    (s.presenceOpens p).ct.holdLane = s.ct.holdLane ∧ (s.presenceOpens p).dpl.nextTag = s.dpl.nextTag ∧
    (s.presenceOpens p).dpl.sequence = s.dpl.sequence ∧
    (s.presenceOpens p).ntc.pickFails = s.ntc.pickFails ∧ (s.presenceOpens p).azu.zones = s.azu.zones ∧
    (s.presenceOpens p).azu.cycle = s.azu.cycle ∧ (s.presenceOpens p).azu.grants = s.azu.grants ∧
    (s.presenceOpens p).slp.receiver = s.slp.receiver ∧
    (s.presenceOpens p).slp.waiting = s.slp.waiting ∧
    (s.presenceOpens p).slp.response = s.slp.response ∧
    (s.presenceOpens p).pins.warning = s.pins.warning ∧
    (s.presenceOpens p).pins.throat = s.pins.throat ∧ (s.presenceOpens p).pins.tray = s.pins.tray := by
  unfold State.presenceOpens
  dsimp only
  split <;> simp

@[simp] theorem State.reconcileRvOwner_frame (s : State) (a0 : Role) (counted : Nat) :
    (s.reconcileRvOwner a0 counted).1.ldc = s.ldc ∧ (s.reconcileRvOwner a0 counted).1.ecc = s.ecc ∧
    (s.reconcileRvOwner a0 counted).1.set = s.set ∧
    (s.reconcileRvOwner a0 counted).1.retained = s.retained ∧
    (s.reconcileRvOwner a0 counted).1.ms = s.ms ∧ (s.reconcileRvOwner a0 counted).1.pins = s.pins ∧
    (s.reconcileRvOwner a0 counted).1.pending = s.pending ∧
    (s.reconcileRvOwner a0 counted).1.ct.holdDispenser = s.ct.holdDispenser ∧
    (s.reconcileRvOwner a0 counted).1.ct.holdReject = s.ct.holdReject ∧
    (s.reconcileRvOwner a0 counted).1.ct.holdCapture = s.ct.holdCapture ∧
    (s.reconcileRvOwner a0 counted).1.ct.holdLane = s.ct.holdLane ∧
    (s.reconcileRvOwner a0 counted).1.ct.last = s.ct.last ∧
    (s.reconcileRvOwner a0 counted).1.dpl.quotes = s.dpl.quotes ∧
    (s.reconcileRvOwner a0 counted).1.dpl.nextTag = s.dpl.nextTag ∧
    (s.reconcileRvOwner a0 counted).1.dpl.sequence = s.dpl.sequence ∧
    (s.reconcileRvOwner a0 counted).1.ntc.pickFails = s.ntc.pickFails ∧
    (s.reconcileRvOwner a0 counted).1.azu.zones = s.azu.zones ∧
    (s.reconcileRvOwner a0 counted).1.azu.cycle = s.azu.cycle ∧
    (s.reconcileRvOwner a0 counted).1.azu.grants = s.azu.grants ∧
    (s.reconcileRvOwner a0 counted).1.slp.receiver = s.slp.receiver ∧
    (s.reconcileRvOwner a0 counted).1.slp.waiting = s.slp.waiting ∧
    (s.reconcileRvOwner a0 counted).1.slp.response = s.slp.response := by
  unfold State.reconcileRvOwner State.unless
  (repeat' split) <;> simp

@[simp] theorem State.retireVault_frame (s : State) :
    (s.retireVault).dpl = s.dpl ∧ (s.retireVault).ntc = s.ntc ∧ (s.retireVault).gmu = s.gmu ∧
    (s.retireVault).ldc = s.ldc ∧ (s.retireVault).ecc = s.ecc ∧ (s.retireVault).azu = s.azu ∧
    (s.retireVault).slp = s.slp ∧ (s.retireVault).set = s.set ∧ (s.retireVault).retained = s.retained ∧
    (s.retireVault).ms = s.ms ∧ (s.retireVault).pins = s.pins ∧ (s.retireVault).pending = s.pending ∧
    (s.retireVault).ct.holdDispenser = s.ct.holdDispenser ∧
    (s.retireVault).ct.holdReject = s.ct.holdReject ∧
    (s.retireVault).ct.holdCapture = s.ct.holdCapture ∧ (s.retireVault).ct.holdLane = s.ct.holdLane ∧
    (s.retireVault).ct.last = s.ct.last := by
  unfold State.retireVault
  split <;> simp

@[simp] theorem State.emptyVaultOwner_frame (s : State) (a0 : Role) (a1 : Unit) :
    (s.emptyVaultOwner a0 a1).1.ldc = s.ldc ∧ (s.emptyVaultOwner a0 a1).1.ecc = s.ecc ∧
    (s.emptyVaultOwner a0 a1).1.set = s.set ∧ (s.emptyVaultOwner a0 a1).1.retained = s.retained ∧
    (s.emptyVaultOwner a0 a1).1.ms = s.ms ∧ (s.emptyVaultOwner a0 a1).1.pins = s.pins ∧
    (s.emptyVaultOwner a0 a1).1.pending = s.pending ∧
    (s.emptyVaultOwner a0 a1).1.ct.holdDispenser = s.ct.holdDispenser ∧
    (s.emptyVaultOwner a0 a1).1.ct.holdReject = s.ct.holdReject ∧
    (s.emptyVaultOwner a0 a1).1.ct.holdCapture = s.ct.holdCapture ∧
    (s.emptyVaultOwner a0 a1).1.ct.holdLane = s.ct.holdLane ∧
    (s.emptyVaultOwner a0 a1).1.ct.last = s.ct.last ∧
    (s.emptyVaultOwner a0 a1).1.dpl.quotes = s.dpl.quotes ∧
    (s.emptyVaultOwner a0 a1).1.dpl.nextTag = s.dpl.nextTag ∧
    (s.emptyVaultOwner a0 a1).1.dpl.sequence = s.dpl.sequence ∧
    (s.emptyVaultOwner a0 a1).1.ntc.pickFails = s.ntc.pickFails ∧
    (s.emptyVaultOwner a0 a1).1.azu.zones = s.azu.zones ∧
    (s.emptyVaultOwner a0 a1).1.azu.cycle = s.azu.cycle ∧
    (s.emptyVaultOwner a0 a1).1.azu.grants = s.azu.grants ∧
    (s.emptyVaultOwner a0 a1).1.slp.receiver = s.slp.receiver ∧
    (s.emptyVaultOwner a0 a1).1.slp.waiting = s.slp.waiting ∧
    (s.emptyVaultOwner a0 a1).1.slp.response = s.slp.response := by
  unfold State.emptyVaultOwner State.unless
  split <;> simp

@[simp] theorem State.collect_frame (s : State) (h : Handle) (v : Bin) :
    (s.collect h v).dpl = s.dpl ∧ (s.collect h v).ntc = s.ntc ∧ (s.collect h v).ldc = s.ldc ∧
    (s.collect h v).retained = s.retained ∧ (s.collect h v).ms = s.ms ∧ (s.collect h v).pins = s.pins ∧
    (s.collect h v).pending = s.pending ∧ (s.collect h v).ct.holdDispenser = s.ct.holdDispenser ∧
    (s.collect h v).ct.holdReject = s.ct.holdReject ∧
    (s.collect h v).ct.holdCapture = s.ct.holdCapture ∧ (s.collect h v).ct.holdLane = s.ct.holdLane ∧
    (s.collect h v).ct.last = s.ct.last ∧ (s.collect h v).ecc.nextNumber = s.ecc.nextNumber ∧
    (s.collect h v).azu.zones = s.azu.zones ∧ (s.collect h v).azu.cycle = s.azu.cycle ∧
    (s.collect h v).azu.grants = s.azu.grants ∧ (s.collect h v).slp.receiver = s.slp.receiver ∧
    (s.collect h v).slp.waiting = s.slp.waiting ∧ (s.collect h v).slp.response = s.slp.response := by
  unfold State.collect State.switchBins
  try dsimp only
  (repeat' split)
  all_goals simp

@[simp] theorem State.collectOwner_frame (s : State) (a0 : Role) (b : BinId) :
    (s.collectOwner a0 b).1.dpl = s.dpl ∧ (s.collectOwner a0 b).1.ntc = s.ntc ∧
    (s.collectOwner a0 b).1.ldc = s.ldc ∧ (s.collectOwner a0 b).1.retained = s.retained ∧
    (s.collectOwner a0 b).1.ms = s.ms ∧ (s.collectOwner a0 b).1.pins = s.pins ∧
    (s.collectOwner a0 b).1.pending = s.pending ∧
    (s.collectOwner a0 b).1.ct.holdDispenser = s.ct.holdDispenser ∧
    (s.collectOwner a0 b).1.ct.holdReject = s.ct.holdReject ∧
    (s.collectOwner a0 b).1.ct.holdCapture = s.ct.holdCapture ∧
    (s.collectOwner a0 b).1.ct.holdLane = s.ct.holdLane ∧ (s.collectOwner a0 b).1.ct.last = s.ct.last ∧
    (s.collectOwner a0 b).1.ecc.nextNumber = s.ecc.nextNumber ∧
    (s.collectOwner a0 b).1.azu.zones = s.azu.zones ∧ (s.collectOwner a0 b).1.azu.cycle = s.azu.cycle ∧
    (s.collectOwner a0 b).1.azu.grants = s.azu.grants ∧
    (s.collectOwner a0 b).1.slp.receiver = s.slp.receiver ∧
    (s.collectOwner a0 b).1.slp.waiting = s.slp.waiting ∧
    (s.collectOwner a0 b).1.slp.response = s.slp.response := by
  unfold State.collectOwner State.unless
  (repeat' split) <;> simp

@[simp] theorem State.insertOwner_frame (s : State) (a0 : Role) (b : BinId) :
    (s.insertOwner a0 b).1.dpl = s.dpl ∧ (s.insertOwner a0 b).1.ntc = s.ntc ∧
    (s.insertOwner a0 b).1.ldc = s.ldc ∧ (s.insertOwner a0 b).1.retained = s.retained ∧
    (s.insertOwner a0 b).1.ms = s.ms ∧ (s.insertOwner a0 b).1.pins = s.pins ∧
    (s.insertOwner a0 b).1.pending = s.pending ∧
    (s.insertOwner a0 b).1.ct.holdDispenser = s.ct.holdDispenser ∧
    (s.insertOwner a0 b).1.ct.holdReject = s.ct.holdReject ∧
    (s.insertOwner a0 b).1.ct.holdCapture = s.ct.holdCapture ∧
    (s.insertOwner a0 b).1.ct.holdLane = s.ct.holdLane ∧ (s.insertOwner a0 b).1.ct.last = s.ct.last ∧
    (s.insertOwner a0 b).1.ecc.nextNumber = s.ecc.nextNumber ∧
    (s.insertOwner a0 b).1.azu.zones = s.azu.zones ∧ (s.insertOwner a0 b).1.azu.cycle = s.azu.cycle ∧
    (s.insertOwner a0 b).1.azu.grants = s.azu.grants ∧
    (s.insertOwner a0 b).1.slp.receiver = s.slp.receiver ∧
    (s.insertOwner a0 b).1.slp.waiting = s.slp.waiting ∧
    (s.insertOwner a0 b).1.slp.response = s.slp.response := by
  unfold State.insertOwner State.unless
  split <;> simp

@[simp] theorem State.restoreOwner_frame (s : State) (a0 : Role) (z : ZoneId) :
    (s.restoreOwner a0 z).1.retained = s.retained ∧ (s.restoreOwner a0 z).1.ms = s.ms ∧
    (s.restoreOwner a0 z).1.pending = s.pending ∧ (s.restoreOwner a0 z).1.dpl.nextTag = s.dpl.nextTag ∧
    (s.restoreOwner a0 z).1.dpl.sequence = s.dpl.sequence ∧
    (s.restoreOwner a0 z).1.ntc.pickFails = s.ntc.pickFails ∧
    (s.restoreOwner a0 z).1.ecc.nextNumber = s.ecc.nextNumber ∧
    (s.restoreOwner a0 z).1.azu.cycle = s.azu.cycle ∧
    (s.restoreOwner a0 z).1.azu.grants = s.azu.grants ∧
    (s.restoreOwner a0 z).1.slp.receiver = s.slp.receiver ∧
    (s.restoreOwner a0 z).1.slp.waiting = s.slp.waiting ∧
    (s.restoreOwner a0 z).1.slp.response = s.slp.response ∧
    (s.restoreOwner a0 z).1.pins.warning = s.pins.warning ∧
    (s.restoreOwner a0 z).1.pins.presence = s.pins.presence ∧
    (s.restoreOwner a0 z).1.pins.throat = s.pins.throat ∧
    (s.restoreOwner a0 z).1.pins.tray = s.pins.tray := by
  unfold State.restoreOwner State.unless
  dsimp only
  (repeat' split) <;> simp

@[simp] theorem State.enableOwner_frame (on : Bool) (s : State) (a0 : Role) (mask : Half) :
    (State.enableOwner on s a0 mask).1.retained = s.retained ∧
    (State.enableOwner on s a0 mask).1.ms = s.ms ∧
    (State.enableOwner on s a0 mask).1.pending = s.pending ∧
    (State.enableOwner on s a0 mask).1.dpl.nextTag = s.dpl.nextTag ∧
    (State.enableOwner on s a0 mask).1.dpl.sequence = s.dpl.sequence ∧
    (State.enableOwner on s a0 mask).1.ntc.pickFails = s.ntc.pickFails ∧
    (State.enableOwner on s a0 mask).1.ecc.nextNumber = s.ecc.nextNumber ∧
    (State.enableOwner on s a0 mask).1.azu.cycle = s.azu.cycle ∧
    (State.enableOwner on s a0 mask).1.azu.grants = s.azu.grants ∧
    (State.enableOwner on s a0 mask).1.slp.receiver = s.slp.receiver ∧
    (State.enableOwner on s a0 mask).1.slp.waiting = s.slp.waiting ∧
    (State.enableOwner on s a0 mask).1.slp.response = s.slp.response ∧
    (State.enableOwner on s a0 mask).1.pins.warning = s.pins.warning ∧
    (State.enableOwner on s a0 mask).1.pins.presence = s.pins.presence ∧
    (State.enableOwner on s a0 mask).1.pins.throat = s.pins.throat ∧
    (State.enableOwner on s a0 mask).1.pins.tray = s.pins.tray := by
  simp [State.enableOwner]

@[simp] theorem State.delegationOwner_frame (s : State) (a0 : Role) (a : ZoneId × Byte) :
    (s.delegationOwner a0 a).1.retained = s.retained ∧ (s.delegationOwner a0 a).1.ms = s.ms ∧
    (s.delegationOwner a0 a).1.pending = s.pending ∧
    (s.delegationOwner a0 a).1.dpl.nextTag = s.dpl.nextTag ∧
    (s.delegationOwner a0 a).1.dpl.sequence = s.dpl.sequence ∧
    (s.delegationOwner a0 a).1.ntc.pickFails = s.ntc.pickFails ∧
    (s.delegationOwner a0 a).1.ecc.nextNumber = s.ecc.nextNumber ∧
    (s.delegationOwner a0 a).1.azu.cycle = s.azu.cycle ∧
    (s.delegationOwner a0 a).1.azu.grants = s.azu.grants ∧
    (s.delegationOwner a0 a).1.slp.receiver = s.slp.receiver ∧
    (s.delegationOwner a0 a).1.slp.waiting = s.slp.waiting ∧
    (s.delegationOwner a0 a).1.slp.response = s.slp.response ∧
    (s.delegationOwner a0 a).1.pins.warning = s.pins.warning ∧
    (s.delegationOwner a0 a).1.pins.presence = s.pins.presence ∧
    (s.delegationOwner a0 a).1.pins.throat = s.pins.throat ∧
    (s.delegationOwner a0 a).1.pins.tray = s.pins.tray := by
  simp [State.delegationOwner]

@[simp] theorem State.testOwner_frame (s : State) (a0 : Role) (z : ZoneId) :
    (s.testOwner a0 z).1.retained = s.retained ∧ (s.testOwner a0 z).1.ms = s.ms ∧
    (s.testOwner a0 z).1.pending = s.pending ∧ (s.testOwner a0 z).1.dpl.nextTag = s.dpl.nextTag ∧
    (s.testOwner a0 z).1.dpl.sequence = s.dpl.sequence ∧
    (s.testOwner a0 z).1.ntc.pickFails = s.ntc.pickFails ∧
    (s.testOwner a0 z).1.ecc.nextNumber = s.ecc.nextNumber ∧
    (s.testOwner a0 z).1.azu.cycle = s.azu.cycle ∧ (s.testOwner a0 z).1.azu.grants = s.azu.grants ∧
    (s.testOwner a0 z).1.slp.receiver = s.slp.receiver ∧
    (s.testOwner a0 z).1.slp.waiting = s.slp.waiting ∧
    (s.testOwner a0 z).1.slp.response = s.slp.response ∧
    (s.testOwner a0 z).1.pins.warning = s.pins.warning ∧
    (s.testOwner a0 z).1.pins.presence = s.pins.presence ∧
    (s.testOwner a0 z).1.pins.throat = s.pins.throat ∧ (s.testOwner a0 z).1.pins.tray = s.pins.tray := by
  unfold State.testOwner State.unless
  dsimp only
  (repeat' split) <;> simp

@[simp] theorem State.armOwner_frame (s : State) (a0 : Role) (z : ZoneId) :
    (s.armOwner a0 z).1.retained = s.retained ∧ (s.armOwner a0 z).1.ms = s.ms ∧
    (s.armOwner a0 z).1.pending = s.pending ∧ (s.armOwner a0 z).1.dpl.nextTag = s.dpl.nextTag ∧
    (s.armOwner a0 z).1.dpl.sequence = s.dpl.sequence ∧
    (s.armOwner a0 z).1.ntc.pickFails = s.ntc.pickFails ∧
    (s.armOwner a0 z).1.ecc.nextNumber = s.ecc.nextNumber ∧
    (s.armOwner a0 z).1.azu.cycle = s.azu.cycle ∧ (s.armOwner a0 z).1.azu.grants = s.azu.grants ∧
    (s.armOwner a0 z).1.slp.receiver = s.slp.receiver ∧
    (s.armOwner a0 z).1.slp.waiting = s.slp.waiting ∧
    (s.armOwner a0 z).1.slp.response = s.slp.response ∧
    (s.armOwner a0 z).1.pins.warning = s.pins.warning ∧
    (s.armOwner a0 z).1.pins.presence = s.pins.presence ∧
    (s.armOwner a0 z).1.pins.throat = s.pins.throat ∧ (s.armOwner a0 z).1.pins.tray = s.pins.tray := by
  unfold State.armOwner
  split <;> simp

@[simp] theorem State.injectOwner_frame (s : State) (a0 : Role) (z : ZoneId) :
    (s.injectOwner a0 z).1.retained = s.retained ∧ (s.injectOwner a0 z).1.ms = s.ms ∧
    (s.injectOwner a0 z).1.pending = s.pending ∧ (s.injectOwner a0 z).1.dpl.nextTag = s.dpl.nextTag ∧
    (s.injectOwner a0 z).1.dpl.sequence = s.dpl.sequence ∧
    (s.injectOwner a0 z).1.ntc.pickFails = s.ntc.pickFails ∧
    (s.injectOwner a0 z).1.ecc.nextNumber = s.ecc.nextNumber ∧
    (s.injectOwner a0 z).1.azu.cycle = s.azu.cycle ∧ (s.injectOwner a0 z).1.azu.grants = s.azu.grants ∧
    (s.injectOwner a0 z).1.slp.receiver = s.slp.receiver ∧
    (s.injectOwner a0 z).1.slp.waiting = s.slp.waiting ∧
    (s.injectOwner a0 z).1.slp.response = s.slp.response ∧
    (s.injectOwner a0 z).1.pins.warning = s.pins.warning ∧
    (s.injectOwner a0 z).1.pins.presence = s.pins.presence ∧
    (s.injectOwner a0 z).1.pins.throat = s.pins.throat ∧ (s.injectOwner a0 z).1.pins.tray = s.pins.tray := by
  unfold State.injectOwner State.unless
  dsimp only
  (repeat' split) <;> simp

@[simp] theorem State.openGrantOwner_frame (op : Nat) (s : State) (a0 : Role) (a : Area) :
    (State.openGrantOwner op s a0 a).1.dpl = s.dpl ∧ (State.openGrantOwner op s a0 a).1.ntc = s.ntc ∧
    (State.openGrantOwner op s a0 a).1.ldc = s.ldc ∧
    (State.openGrantOwner op s a0 a).1.retained = s.retained ∧
    (State.openGrantOwner op s a0 a).1.ms = s.ms ∧ (State.openGrantOwner op s a0 a).1.pins = s.pins ∧
    (State.openGrantOwner op s a0 a).1.pending = s.pending ∧
    (State.openGrantOwner op s a0 a).1.ct.holdDispenser = s.ct.holdDispenser ∧
    (State.openGrantOwner op s a0 a).1.ct.holdReject = s.ct.holdReject ∧
    (State.openGrantOwner op s a0 a).1.ct.holdCapture = s.ct.holdCapture ∧
    (State.openGrantOwner op s a0 a).1.ct.holdLane = s.ct.holdLane ∧
    (State.openGrantOwner op s a0 a).1.ct.last = s.ct.last ∧
    (State.openGrantOwner op s a0 a).1.ecc.nextNumber = s.ecc.nextNumber ∧
    (State.openGrantOwner op s a0 a).1.azu.zones = s.azu.zones ∧
    (State.openGrantOwner op s a0 a).1.azu.cycle = s.azu.cycle ∧
    (State.openGrantOwner op s a0 a).1.slp.receiver = s.slp.receiver ∧
    (State.openGrantOwner op s a0 a).1.slp.waiting = s.slp.waiting ∧
    (State.openGrantOwner op s a0 a).1.slp.response = s.slp.response := by
  unfold State.openGrantOwner State.unless
  split <;> simp

@[simp] theorem State.confirmGrantOwner_frame (op : Nat) (s : State) (a0 : Role) (a : Area) :
    (State.confirmGrantOwner op s a0 a).1.dpl = s.dpl ∧
    (State.confirmGrantOwner op s a0 a).1.ntc = s.ntc ∧
    (State.confirmGrantOwner op s a0 a).1.ldc = s.ldc ∧
    (State.confirmGrantOwner op s a0 a).1.retained = s.retained ∧
    (State.confirmGrantOwner op s a0 a).1.ms = s.ms ∧
    (State.confirmGrantOwner op s a0 a).1.pins = s.pins ∧
    (State.confirmGrantOwner op s a0 a).1.pending = s.pending ∧
    (State.confirmGrantOwner op s a0 a).1.ct.holdDispenser = s.ct.holdDispenser ∧
    (State.confirmGrantOwner op s a0 a).1.ct.holdReject = s.ct.holdReject ∧
    (State.confirmGrantOwner op s a0 a).1.ct.holdCapture = s.ct.holdCapture ∧
    (State.confirmGrantOwner op s a0 a).1.ct.holdLane = s.ct.holdLane ∧
    (State.confirmGrantOwner op s a0 a).1.ct.last = s.ct.last ∧
    (State.confirmGrantOwner op s a0 a).1.ecc.nextNumber = s.ecc.nextNumber ∧
    (State.confirmGrantOwner op s a0 a).1.azu.zones = s.azu.zones ∧
    (State.confirmGrantOwner op s a0 a).1.azu.cycle = s.azu.cycle ∧
    (State.confirmGrantOwner op s a0 a).1.slp.receiver = s.slp.receiver ∧
    (State.confirmGrantOwner op s a0 a).1.slp.waiting = s.slp.waiting ∧
    (State.confirmGrantOwner op s a0 a).1.slp.response = s.slp.response := by
  unfold State.confirmGrantOwner State.unless
  dsimp only
  (repeat' split) <;> simp

@[simp] theorem State.closeGrantOwner_frame (s : State) (a0 : Role) (a : Area) :
    (s.closeGrantOwner a0 a).1.retained = s.retained ∧ (s.closeGrantOwner a0 a).1.ms = s.ms ∧
    (s.closeGrantOwner a0 a).1.pending = s.pending ∧
    (s.closeGrantOwner a0 a).1.dpl.nextTag = s.dpl.nextTag ∧
    (s.closeGrantOwner a0 a).1.dpl.sequence = s.dpl.sequence ∧
    (s.closeGrantOwner a0 a).1.ntc.pickFails = s.ntc.pickFails ∧
    (s.closeGrantOwner a0 a).1.ecc.nextNumber = s.ecc.nextNumber ∧
    (s.closeGrantOwner a0 a).1.azu.cycle = s.azu.cycle ∧
    (s.closeGrantOwner a0 a).1.slp.receiver = s.slp.receiver ∧
    (s.closeGrantOwner a0 a).1.slp.waiting = s.slp.waiting ∧
    (s.closeGrantOwner a0 a).1.slp.response = s.slp.response ∧
    (s.closeGrantOwner a0 a).1.pins.warning = s.pins.warning ∧
    (s.closeGrantOwner a0 a).1.pins.presence = s.pins.presence ∧
    (s.closeGrantOwner a0 a).1.pins.throat = s.pins.throat ∧
    (s.closeGrantOwner a0 a).1.pins.tray = s.pins.tray := by
  unfold State.closeGrantOwner State.unless
  dsimp only
  (repeat' split) <;> simp

@[simp] theorem State.resetReceiver_frame (s : State) :
    (s.resetReceiver).ct = s.ct ∧ (s.resetReceiver).dpl = s.dpl ∧ (s.resetReceiver).ntc = s.ntc ∧
    (s.resetReceiver).gmu = s.gmu ∧ (s.resetReceiver).ldc = s.ldc ∧ (s.resetReceiver).ecc = s.ecc ∧
    (s.resetReceiver).azu = s.azu ∧ (s.resetReceiver).set = s.set ∧
    (s.resetReceiver).retained = s.retained ∧ (s.resetReceiver).ms = s.ms ∧
    (s.resetReceiver).pins = s.pins ∧ (s.resetReceiver).pending = s.pending ∧
    (s.resetReceiver).slp.waiting = s.slp.waiting ∧ (s.resetReceiver).slp.response = s.slp.response := by
  simp [State.resetReceiver]

@[simp] theorem State.goOn_frame (s : State) (r : Receiver) :
    (s.goOn r).ct = s.ct ∧ (s.goOn r).dpl = s.dpl ∧ (s.goOn r).ntc = s.ntc ∧ (s.goOn r).gmu = s.gmu ∧
    (s.goOn r).ldc = s.ldc ∧ (s.goOn r).ecc = s.ecc ∧ (s.goOn r).azu = s.azu ∧ (s.goOn r).set = s.set ∧
    (s.goOn r).retained = s.retained ∧ (s.goOn r).ms = s.ms ∧ (s.goOn r).pins = s.pins ∧
    (s.goOn r).pending = s.pending ∧ (s.goOn r).slp.waiting = s.slp.waiting ∧
    (s.goOn r).slp.response = s.slp.response := by
  simp [State.goOn]

@[simp] theorem State.pass_frame (s : State) :
    (s.pass).pending = s.pending := by
  rfl

@[simp] theorem State.expireNote_frame (s : State) :
    (s.expireNote).ldc = s.ldc ∧ (s.expireNote).ecc = s.ecc ∧ (s.expireNote).retained = s.retained ∧
    (s.expireNote).ms = s.ms ∧ (s.expireNote).pending = s.pending := by
  unfold State.expireNote
  simp

@[simp] theorem State.expireLane_frame (s : State) (l : Lane) :
    (s.expireLane l).dpl = s.dpl ∧ (s.expireLane l).gmu = s.gmu ∧ (s.expireLane l).ecc = s.ecc ∧
    (s.expireLane l).set = s.set ∧ (s.expireLane l).retained = s.retained ∧
    (s.expireLane l).ms = s.ms ∧ (s.expireLane l).pending = s.pending := by
  unfold State.expireLane
  simp

@[simp] theorem State.expireEnv_frame (s : State) :
    (s.expireEnv).dpl = s.dpl ∧ (s.expireEnv).ntc = s.ntc ∧ (s.expireEnv).ldc = s.ldc ∧
    (s.expireEnv).retained = s.retained ∧ (s.expireEnv).ms = s.ms ∧ (s.expireEnv).pins = s.pins ∧
    (s.expireEnv).pending = s.pending := by
  unfold State.expireEnv
  simp

@[simp] theorem State.expireGrant_frame (s : State) (a : Area) :
    (s.expireGrant a).retained = s.retained ∧ (s.expireGrant a).ms = s.ms ∧
    (s.expireGrant a).pending = s.pending := by
  unfold State.expireGrant
  simp

@[simp] theorem State.expireAzu_frame (s : State) :
    (s.expireAzu).retained = s.retained ∧ (s.expireAzu).ms = s.ms ∧ (s.expireAzu).pending = s.pending := by
  simp [State.expireAzu]

@[simp] theorem State.tick_frame (s : State) :
    (s.tick).pending = s.pending := by
  simp [State.tick]

@[simp] theorem State.withFetchWord_frame (s : State) (nbits w : Nat) :
    (s.withFetchWord nbits w).ct = s.ct ∧ (s.withFetchWord nbits w).dpl = s.dpl ∧
    (s.withFetchWord nbits w).ntc = s.ntc ∧ (s.withFetchWord nbits w).gmu = s.gmu ∧
    (s.withFetchWord nbits w).ldc = s.ldc ∧ (s.withFetchWord nbits w).ecc = s.ecc ∧
    (s.withFetchWord nbits w).azu = s.azu ∧ (s.withFetchWord nbits w).slp = s.slp ∧
    (s.withFetchWord nbits w).set = s.set ∧ (s.withFetchWord nbits w).retained = s.retained ∧
    (s.withFetchWord nbits w).ms = s.ms ∧ (s.withFetchWord nbits w).pins = s.pins := by
  unfold State.withFetchWord
  split <;> simp

end Sys2Proof.Machine
end

