-- ==== Sys2Proof/Laws/Locks.lean ====
section
/-! SUPPORT. What a lane's lock does to its controller, said once: what the beginning, the joining and the end of
a lock and the start of a locked lane leave of the lock causes, the saved context and the lock solenoid (R85, R100,
R102), and that a drawer's motions and arrivals leave all three alone. -/

namespace Sys2Proof.Machine

/-! ## The lock of a controller -/

/-- The lock of a lane's controller: its causes, its saved context and its lock solenoid. -/
def Ldc.lock (d : Ldc) : ZoneSet × Option SavedContext × Bool := (d.locks, d.saved, d.solenoid)

/-- A change of one controller that keeps its lock keeps every lane's. -/
theorem State.onLdc_lock {s : State} {l : Lane} {f : Ldc → Ldc} (h : ∀ d, (f d).lock = d.lock) (k : Lane) :
    ((s.onLdc l f).ldc.get k).lock = (s.ldc.get k).lock := by
  rw [State.onLdc_ldc, PerLane.get_put]
  split
  · next e => rw [h, e]
  · rfl

@[simp] theorem State.followForcing_ldc (s : State) (l : Lane) : (s.followForcing l).ldc = s.ldc := rfl

@[simp] theorem State.driveDrawer_lock (s : State) (l k : Lane) :
    ((s.driveDrawer l).ldc.get k).lock = (s.ldc.get k).lock := by
  rw [State.driveDrawer, State.followForcing_ldc]; exact State.onLdc_lock (fun _ => by rfl) k

@[simp] theorem State.stopDrawer_lock (s : State) (l k : Lane) :
    ((s.stopDrawer l).ldc.get k).lock = (s.ldc.get k).lock := by
  rw [State.stopDrawer, State.followForcing_ldc]; exact State.onLdc_lock (fun _ => by rfl) k

@[simp] theorem State.startMotion_lock (s : State) (l : Lane) (m : Motion) (k : Lane) :
    ((s.startMotion l m).ldc.get k).lock = (s.ldc.get k).lock := by
  unfold State.startMotion
  split
  · rw [State.stopDrawer_lock]; exact State.onLdc_lock (fun _ => by rfl) k
  · rw [State.driveDrawer_lock]; exact State.onLdc_lock (fun _ => by rfl) k

@[simp] theorem State.stopTake_lock (s : State) (l k : Lane) :
    ((s.stopTake l).ldc.get k).lock = (s.ldc.get k).lock := State.onLdc_lock (fun _ => by rfl) k

@[simp] theorem State.startTake_lock (s : State) (l k : Lane) :
    ((s.startTake l).ldc.get k).lock = (s.ldc.get k).lock := by
  dsimp only [State.startTake]
  exact State.onLdc_lock (fun _ => by rfl) k

@[simp] theorem State.haltDrawer_lock (s : State) (l k : Lane) :
    ((s.haltDrawer l).ldc.get k).lock = (s.ldc.get k).lock := by
  unfold State.haltDrawer
  split
  · rw [State.stopDrawer_lock]; exact State.onLdc_lock (fun _ => by rfl) k
  · rw [State.stopDrawer_lock]; exact State.onLdc_lock (fun _ => by rfl) k
  · rfl

/-! ## Motions and arrivals -/

@[simp] theorem State.enterHome_lock (s : State) (l : Lane) (flag : Bool) (k : Lane) :
    ((s.enterHome l flag).ldc.get k).lock = (s.ldc.get k).lock := by
  cases flag <;> simp only [State.enterHome, State.reportLane_frame, State.setLaneFlag_frame,
    State.judgeHome_frame, State.stopDrawer_lock, if_true, if_false, Bool.false_eq_true] <;>
  exact State.onLdc_lock (fun _ => by rfl) k

@[simp] theorem State.enterOut_lock (s : State) (l k : Lane) :
    ((s.enterOut l).ldc.get k).lock = (s.ldc.get k).lock := by
  simp only [State.enterOut, State.reportLane_frame, State.setLaneFlag_frame, State.startTake_lock]
  split <;> simp only [State.presentConsignment_frame, State.stopDrawer_lock] <;>
  exact State.onLdc_lock (fun _ => by rfl) k

@[simp] theorem State.sendHome_lock (s : State) (l : Lane) (flag : Bool) (k : Lane) :
    ((s.sendHome l flag).ldc.get k).lock = (s.ldc.get k).lock := by
  unfold State.sendHome
  split <;> simp

@[simp] theorem State.present_lock (s : State) (l k : Lane) :
    ((s.present l).ldc.get k).lock = (s.ldc.get k).lock := by
  simp [State.present]

@[simp] theorem State.autoPresent_lock (s : State) (l k : Lane) :
    ((s.autoPresent l).ldc.get k).lock = (s.ldc.get k).lock := by
  unfold State.autoPresent
  split <;> simp

@[simp] theorem State.presentDelivered_lock (s : State) (l k : Lane) :
    ((s.presentDelivered l).ldc.get k).lock = (s.ldc.get k).lock := by
  unfold State.presentDelivered
  (repeat' split) <;> simp

/-! ## Locks -/

/-- A lane that is not fitted takes no lock (R155). -/
theorem State.lockLane_of_not_fitted {s : State} {l : Lane} (h : s.fitted l = false) (z : ZoneId) :
    s.lockLane l z = s := by
  simp [State.lockLane, h]

/-- The first cause begins the lock: the cause stands alone, the context is saved and the lock solenoid is
engaged (R100). -/
theorem State.lockLane_begins {s : State} {l : Lane} (hf : s.fitted l = true) (h : (s.ldc.get l).locks = 0)
    (z : ZoneId) : ((s.lockLane l z).ldc.get l).lock = (zoneBit z, some ⟨(s.ldc.get l).stateToSave,
      (s.ldc.get l).direction, (s.ct.consignment l).map (·.handle), (s.ldc.get l).take.isRunning⟩, true) := by
  simp [State.lockLane, hf, h, Ldc.lock]

/-- A further cause joins the causes and leaves the context and the solenoid as they are (R100). -/
theorem State.lockLane_joins {s : State} {l : Lane} (hf : s.fitted l = true) (h : (s.ldc.get l).locks ≠ 0)
    (z : ZoneId) : (s.lockLane l z).ldc = s.ldc.put l
      { s.ldc.get l with locks := (s.ldc.get l).locks ||| zoneBit z } := by
  unfold State.lockLane
  dsimp only
  rw [if_pos hf, if_neg h]
  rfl

/-- A lock of one lane leaves the locks of the others. -/
theorem State.lockLane_other (s : State) {l k : Lane} (z : ZoneId) (h : k ≠ l) :
    ((s.lockLane l z).ldc.get k).lock = (s.ldc.get k).lock := by
  unfold State.lockLane
  dsimp only
  split
  · split
    · simp [PerLane.get_put_other _ _ h]
    · simp [PerLane.get_put_other _ _ h]
  · rfl

/-- A lock ends with the solenoid released, no cause and no saved context, and leaves the locks of the other lanes
(R102). -/
theorem State.endLock_lock (s : State) (l k : Lane) :
    ((s.endLock l).ldc.get k).lock = if k = l then (0, none, false) else (s.ldc.get k).lock := by
  have h (t : State) (e : (t.ldc.get k).lock = if k = l then (0, none, false) else (s.ldc.get k).lock) :
      ((((t.setLaneFlag l .laneLocked).presentDelivered l).reportLane l).examineQueue.ldc.get k).lock
        = if k = l then (0, none, false) else (s.ldc.get k).lock := by
    simpa using e
  have h0 : ((s.onLdc l fun d => { d with locks := 0, saved := none, solenoid := false }).ldc.get k).lock
      = if k = l then (0, none, false) else (s.ldc.get k).lock := by
    rw [State.onLdc_ldc, PerLane.get_put]
    split <;> rfl
  refine h _ ?_
  split
  · split
    · rw [State.enterOut_lock, h0]
    · rw [State.present_lock]; exact (State.onLdc_lock (fun _ => by rfl) k).trans h0
  · rw [State.sendHome_lock, State.stopTake_lock, h0]

/-- A locked lane starts at power-on with its causes and context and the lock solenoid engaged (R85). -/
theorem State.startLocked_lock (s : State) (l k : Lane) :
    ((s.startLocked l).ldc.get k).lock =
      if k = l then ((s.ldc.get l).locks, (s.ldc.get l).saved, true) else (s.ldc.get k).lock := by
  rw [State.startLocked, State.onLdc_ldc, PerLane.get_put]
  split
  · dsimp only
    cases s.switchState l <;> rfl
  · rfl

/-- An unlocked lane starts at power-on with its lock as it was, none (R85). -/
theorem State.startUnlocked_lock (s : State) (l k : Lane) :
    ((s.startUnlocked l).ldc.get k).lock = (s.ldc.get k).lock := by
  have h0 : ((s.onLdc l fun d => { d with restartHoming := true }).ldc.get k).lock = (s.ldc.get k).lock :=
    State.onLdc_lock (fun _ => by rfl) k
  unfold State.startUnlocked
  dsimp only
  split
  · rw [State.enterHome_lock, h0]
  · split
    · exact (State.onLdc_lock (fun _ => by rfl) k).trans h0
    · rw [State.startMotion_lock, h0]

/-! ## The law of the lock solenoid -/

/-- A zone's bit is in no empty set. -/
theorem zoneBit_ne_zero (z : ZoneId) : zoneBit z ≠ 0 := by
  revert z; decide

/-- The solenoid's law in terms of the lock. -/
theorem State.solenoidLawful_iff (s : State) (l : Lane) :
    s.solenoidLawful l = true ↔ (s.ldc.get l).lock.2.2 = (s.fitted l && (s.ldc.get l).lock.1 != 0) := by
  exact decide_eq_true_iff

/-- A lock keeps the law of every lane's solenoid. -/
theorem State.lockLane_solenoidLawful {s : State} {l k : Lane} (z : ZoneId)
    (h : s.solenoidLawful k = true) : (s.lockLane l z).solenoidLawful k = true := by
  have hf (k : Lane) : (s.lockLane l z).fitted k = s.fitted k := by simp [State.fitted]
  rw [State.solenoidLawful_iff] at h ⊢
  by_cases hk : k = l
  · subst hk
    cases hs : s.fitted k with
    | false => rwa [State.lockLane_of_not_fitted hs]
    | true =>
      rw [hs] at h
      rw [hf, hs]
      by_cases h0 : (s.ldc.get k).locks = 0
      · rw [State.lockLane_begins hs h0]
        simpa using zoneBit_ne_zero z
      · rw [State.lockLane_joins hs h0]
        have h1 : (s.ldc.get k).locks ||| zoneBit z ≠ 0 := fun e => h0 (BitVec.or_eq_zero_iff.mp e).1
        have h2 : ((s.ldc.get k).locks ||| zoneBit z != 0) = ((s.ldc.get k).locks != 0) := by
          rw [bne_iff_ne.mpr h1, bne_iff_ne.mpr h0]
        simpa only [Ldc.lock, PerLane.get_put_same, h2] using h
  · rwa [State.lockLane_other s z hk, hf]

end Sys2Proof.Machine
end

