-- ==== Sys2Proof/Laws/PerInstr.lean ====
section
/-! SUPPORT. The family RequestCode, one lemma for each constructor: a command that is a request carries
a CODE of the table of 10, section 10.4, and every request row is well formed. -/

/-- A request's CODE is one of the table's, and the request is well formed. -/
def Sys2Proof.Laws.RequestCode.Statement (i : Sys2Proof.Instr) : Prop :=
  ∀ q, Sys2Proof.Machine.requestOf i = some q → q.1 ∈ Sys2Proof.requestCodes ∧ i.wf = true

namespace Sys2Proof.Laws.RequestCode
open Sys2Proof

theorem powerOn (supplyHeld checkAgrees : Bool) (inputs : Pins) :
    Statement (.powerOn supplyHeld checkAgrees inputs) := by
  rintro q ⟨⟩

theorem powerWarning : Statement .powerWarning := by
  rintro q ⟨⟩

theorem powerWarningEnd : Statement .powerWarningEnd := by
  rintro q ⟨⟩

theorem noteRestartLeaderStart : Statement .noteRestartLeaderStart := by
  rintro q ⟨⟩

theorem envelopeRestartLeaderStart : Statement .envelopeRestartLeaderStart := by
  rintro q ⟨⟩

theorem lineBreak : Statement .lineBreak := by
  rintro q ⟨⟩

theorem frameGapTimeout : Statement .frameGapTimeout := by
  rintro q ⟨⟩

theorem badFrame : Statement .badFrame := by
  rintro q ⟨⟩

theorem requestOverflow : Statement .requestOverflow := by
  rintro q ⟨⟩

theorem unknownRequest (auth : Byte) (op : Half) (code : Byte) :
    Statement (.unknownRequest auth op code) := by
  rintro q ⟨⟩

theorem identify (auth : Byte) (op : Half) : Statement (.identify auth op) := by
  rintro q ⟨⟩
  exact ⟨by simp [requestCodes], rfl⟩

theorem readEvents (auth : Byte) (op : Half) : Statement (.readEvents auth op) := by
  rintro q ⟨⟩
  exact ⟨by simp [requestCodes], rfl⟩

theorem readSetting (auth : Byte) (op : Half) (id index : Byte) :
    Statement (.readSetting auth op id index) := by
  rintro q ⟨⟩
  exact ⟨by simp [requestCodes], rfl⟩

theorem readRecord (auth : Byte) (op : Half) (h : Handle) : Statement (.readRecord auth op h) := by
  rintro q ⟨⟩
  exact ⟨by simp [requestCodes], rfl⟩

theorem findByLocation (auth : Byte) (op : Half) (area position : Byte) :
    Statement (.findByLocation auth op area position) := by
  rintro q ⟨⟩
  exact ⟨by simp [requestCodes], rfl⟩

theorem findEnvelope (auth : Byte) (op : Half) (number : Quad) :
    Statement (.findEnvelope auth op number) := by
  rintro q ⟨⟩
  exact ⟨by simp [requestCodes], rfl⟩

theorem listLane (auth : Byte) (op : Half) (lane : Byte) : Statement (.listLane auth op lane) := by
  rintro q ⟨⟩
  exact ⟨by simp [requestCodes], rfl⟩

theorem readTotals (auth : Byte) (op : Half) : Statement (.readTotals auth op) := by
  rintro q ⟨⟩
  exact ⟨by simp [requestCodes], rfl⟩

theorem readDrawer (auth : Byte) (op : Half) (lane : Byte) :
    Statement (.readDrawer auth op lane) := by
  rintro q ⟨⟩
  exact ⟨by simp [requestCodes], rfl⟩

theorem readTransportNote (auth : Byte) (op : Half) : Statement (.readTransportNote auth op) := by
  rintro q ⟨⟩
  exact ⟨by simp [requestCodes], rfl⟩

theorem readTransportEnvelope (auth : Byte) (op : Half) :
    Statement (.readTransportEnvelope auth op) := by
  rintro q ⟨⟩
  exact ⟨by simp [requestCodes], rfl⟩

theorem readAlarms (auth : Byte) (op : Half) : Statement (.readAlarms auth op) := by
  rintro q ⟨⟩
  exact ⟨by simp [requestCodes], rfl⟩

theorem quote (auth : Byte) (op : Half) (lane : Byte) (amount : Quad) :
    Statement (.quote auth op lane amount) := by
  rintro q ⟨⟩
  exact ⟨by simp [requestCodes], rfl⟩

theorem commit (auth : Byte) (op : Half) (lane tag : Byte) :
    Statement (.commit auth op lane tag) := by
  rintro q ⟨⟩
  exact ⟨by simp [requestCodes], rfl⟩

theorem dispenseAmount (auth : Byte) (op : Half) (lane : Byte) (amount : Quad) :
    Statement (.dispenseAmount auth op lane amount) := by
  rintro q ⟨⟩
  exact ⟨by simp [requestCodes], rfl⟩

theorem dispenseMix (auth : Byte) (op : Half) (lane n1 n2 n3 n4 n5 : Byte) :
    Statement (.dispenseMix auth op lane n1 n2 n3 n4 n5) := by
  rintro q ⟨⟩
  exact ⟨by simp [requestCodes], rfl⟩

theorem cancelBundle (auth : Byte) (op : Half) (h : Handle) :
    Statement (.cancelBundle auth op h) := by
  rintro q ⟨⟩
  exact ⟨by simp [requestCodes], rfl⟩

theorem noteLeaderEnd (empty : Bool) : Statement (.noteLeaderEnd empty) := by
  rintro q ⟨⟩

theorem encoderPulse (t : Transport) (a b : Sample) : Statement (.encoderPulse t a b) := by
  rintro q ⟨⟩

theorem itemEnd (t : Transport) (m : Measure) : Statement (.itemEnd t m) := by
  rintro q ⟨⟩

theorem noteLengthLimit : Statement .noteLengthLimit := by
  rintro q ⟨⟩

theorem notePresenceLimit : Statement .notePresenceLimit := by
  rintro q ⟨⟩

theorem pickFailure : Statement .pickFailure := by
  rintro q ⟨⟩

theorem diverterExit : Statement .diverterExit := by
  rintro q ⟨⟩

theorem stackerEmpty : Statement .stackerEmpty := by
  rintro q ⟨⟩

theorem stackerDumpTimeout : Statement .stackerDumpTimeout := by
  rintro q ⟨⟩

theorem stackerWaitExpiry : Statement .stackerWaitExpiry := by
  rintro q ⟨⟩

theorem bundleArrival (lane : Lane) : Statement (.bundleArrival lane) := by
  rintro q ⟨⟩

theorem chuteTimeout : Statement .chuteTimeout := by
  rintro q ⟨⟩

theorem diverterExitTimeout : Statement .diverterExitTimeout := by
  rintro q ⟨⟩

theorem noteEncoderStall : Statement .noteEncoderStall := by
  rintro q ⟨⟩

theorem clearTransportNote (auth : Byte) (op : Half) : Statement (.clearTransportNote auth op) := by
  rintro q ⟨⟩
  exact ⟨by simp [requestCodes], rfl⟩

theorem clearTransportEnvelope (auth : Byte) (op : Half) :
    Statement (.clearTransportEnvelope auth op) := by
  rintro q ⟨⟩
  exact ⟨by simp [requestCodes], rfl⟩

theorem presenceSwitchOpen (p : CassettePos) : Statement (.presenceSwitchOpen p) := by
  rintro q ⟨⟩

theorem presenceSwitchClose (p : CassettePos) : Statement (.presenceSwitchClose p) := by
  rintro q ⟨⟩

theorem presentDrawer (auth : Byte) (op : Half) (lane : Byte) :
    Statement (.presentDrawer auth op lane) := by
  rintro q ⟨⟩
  exact ⟨by simp [requestCodes], rfl⟩

theorem retractDrawer (auth : Byte) (op : Half) (lane : Byte) :
    Statement (.retractDrawer auth op lane) := by
  rintro q ⟨⟩
  exact ⟨by simp [requestCodes], rfl⟩

theorem drawerArriveOut (lane : Lane) : Statement (.drawerArriveOut lane) := by
  rintro q ⟨⟩

theorem drawerArriveHome (lane : Lane) : Statement (.drawerArriveHome lane) := by
  rintro q ⟨⟩

theorem drawerMotionTimeout (lane : Lane) : Statement (.drawerMotionTimeout lane) := by
  rintro q ⟨⟩

theorem takeTimerExpiry (lane : Lane) : Statement (.takeTimerExpiry lane) := by
  rintro q ⟨⟩

theorem traySensorChange (lane : Lane) (occupied : Bool) :
    Statement (.traySensorChange lane occupied) := by
  rintro q ⟨⟩

theorem drawerSwitchChange (lane : Lane) (switch : DrawerSwitch) (closed : Bool) :
    Statement (.drawerSwitchChange lane switch closed) := by
  rintro q ⟨⟩

theorem declareTransit (auth : Byte) (op : Half) (lane : Byte) (tag : Quad) :
    Statement (.declareTransit auth op lane tag) := by
  rintro q ⟨⟩
  exact ⟨by simp [requestCodes], rfl⟩

theorem resolveRetract (auth : Byte) (op : Half) (h : Handle) :
    Statement (.resolveRetract auth op h) := by
  rintro q ⟨⟩
  exact ⟨by simp [requestCodes], rfl⟩

theorem acceptDeposit (auth : Byte) (op : Half) (h : Handle) (tag : Quad) :
    Statement (.acceptDeposit auth op h tag) := by
  rintro q ⟨⟩
  exact ⟨by simp [requestCodes], rfl⟩

theorem resumeLane (auth : Byte) (op : Half) (lane : Byte) :
    Statement (.resumeLane auth op lane) := by
  rintro q ⟨⟩
  exact ⟨by simp [requestCodes], rfl⟩

theorem laneReset (auth : Byte) (op : Half) (lane : Byte) :
    Statement (.laneReset auth op lane) := by
  rintro q ⟨⟩
  exact ⟨by simp [requestCodes], rfl⟩

theorem throatSensorChange (throat : Throat) (here : Bool) :
    Statement (.throatSensorChange throat here) := by
  rintro q ⟨⟩

theorem envelopeLeaderEnd : Statement .envelopeLeaderEnd := by
  rintro q ⟨⟩

theorem intakeTimeout : Statement .intakeTimeout := by
  rintro q ⟨⟩

theorem envelopeLengthLimit (thickness skew : Nat) :
    Statement (.envelopeLengthLimit thickness skew) := by
  rintro q ⟨⟩

theorem envelopePresenceLimit : Statement .envelopePresenceLimit := by
  rintro q ⟨⟩

theorem gatePassage : Statement .gatePassage := by
  rintro q ⟨⟩

theorem imprinterReport (printed : Bool) : Statement (.imprinterReport printed) := by
  rintro q ⟨⟩

theorem binEntry (bin : BinId) : Statement (.binEntry bin) := by
  rintro q ⟨⟩

theorem forwardTimeout : Statement .forwardTimeout := by
  rintro q ⟨⟩

theorem returnTimeout : Statement .returnTimeout := by
  rintro q ⟨⟩

theorem returnWaitExpiry (throat : Throat) : Statement (.returnWaitExpiry throat) := by
  rintro q ⟨⟩

theorem recaptureTimeout : Statement .recaptureTimeout := by
  rintro q ⟨⟩

theorem envelopeEncoderStall : Statement .envelopeEncoderStall := by
  rintro q ⟨⟩

theorem claimEnvelope (auth : Byte) (op : Half) (h : Handle) :
    Statement (.claimEnvelope auth op h) := by
  rintro q ⟨⟩
  exact ⟨by simp [requestCodes], rfl⟩

theorem releaseClaim (auth : Byte) (op : Half) (h : Handle) :
    Statement (.releaseClaim auth op h) := by
  rintro q ⟨⟩
  exact ⟨by simp [requestCodes], rfl⟩

theorem loadCassette (auth : Byte) (op : Half) (position : Byte) (denomination : Quad) (count thickness length : Half) :
    Statement (.loadCassette auth op position denomination count thickness length) := by
  rintro q ⟨⟩
  exact ⟨by simp [requestCodes], rfl⟩

theorem unloadCassette (auth : Byte) (op : Half) (position : Byte) :
    Statement (.unloadCassette auth op position) := by
  rintro q ⟨⟩
  exact ⟨by simp [requestCodes], rfl⟩

theorem reconcile (auth : Byte) (op : Half) (position : Byte) (counted : Half) :
    Statement (.reconcile auth op position counted) := by
  rintro q ⟨⟩
  exact ⟨by simp [requestCodes], rfl⟩

theorem emptyRejectVault (auth : Byte) (op : Half) : Statement (.emptyRejectVault auth op) := by
  rintro q ⟨⟩
  exact ⟨by simp [requestCodes], rfl⟩

theorem reconcileRv (auth : Byte) (op : Half) (counted : Half) :
    Statement (.reconcileRv auth op counted) := by
  rintro q ⟨⟩
  exact ⟨by simp [requestCodes], rfl⟩

theorem collectBin (auth : Byte) (op : Half) (bin : Byte) :
    Statement (.collectBin auth op bin) := by
  rintro q ⟨⟩
  exact ⟨by simp [requestCodes], rfl⟩

theorem insertBin (auth : Byte) (op : Half) (bin : Byte) : Statement (.insertBin auth op bin) := by
  rintro q ⟨⟩
  exact ⟨by simp [requestCodes], rfl⟩

theorem scanCycleStart : Statement .scanCycleStart := by
  rintro q ⟨⟩

theorem loopClassChange (channel : ZoneId) (cls : LoopClass) :
    Statement (.loopClassChange channel cls) := by
  rintro q ⟨⟩

theorem blankingTailExpiry (zone : ZoneId) : Statement (.blankingTailExpiry zone) := by
  rintro q ⟨⟩

theorem restoreZone (auth : Byte) (op : Half) (zone : Byte) :
    Statement (.restoreZone auth op zone) := by
  rintro q ⟨⟩
  exact ⟨by simp [requestCodes], rfl⟩

theorem setZoneEnable (auth : Byte) (op : Half) (mask : Half) :
    Statement (.setZoneEnable auth op mask) := by
  rintro q ⟨⟩
  exact ⟨by simp [requestCodes], rfl⟩

theorem clearZoneEnable (auth : Byte) (op : Half) (mask : Half) :
    Statement (.clearZoneEnable auth op mask) := by
  rintro q ⟨⟩
  exact ⟨by simp [requestCodes], rfl⟩

theorem setDelegation (auth : Byte) (op : Half) (zone set : Byte) :
    Statement (.setDelegation auth op zone set) := by
  rintro q ⟨⟩
  exact ⟨by simp [requestCodes], rfl⟩

theorem setZoneModeTest (auth : Byte) (op : Half) (zone : Byte) :
    Statement (.setZoneModeTest auth op zone) := by
  rintro q ⟨⟩
  exact ⟨by simp [requestCodes], rfl⟩

theorem setZoneModeArmed (auth : Byte) (op : Half) (zone : Byte) :
    Statement (.setZoneModeArmed auth op zone) := by
  rintro q ⟨⟩
  exact ⟨by simp [requestCodes], rfl⟩

theorem injectTrip (auth : Byte) (op : Half) (zone : Byte) :
    Statement (.injectTrip auth op zone) := by
  rintro q ⟨⟩
  exact ⟨by simp [requestCodes], rfl⟩

theorem openGrant (auth : Byte) (op : Half) (area : Byte) :
    Statement (.openGrant auth op area) := by
  rintro q ⟨⟩
  exact ⟨by simp [requestCodes], rfl⟩

theorem confirmGrant (auth : Byte) (op : Half) (area : Byte) :
    Statement (.confirmGrant auth op area) := by
  rintro q ⟨⟩
  exact ⟨by simp [requestCodes], rfl⟩

theorem closeGrant (auth : Byte) (op : Half) (area : Byte) :
    Statement (.closeGrant auth op area) := by
  rintro q ⟨⟩
  exact ⟨by simp [requestCodes], rfl⟩

theorem proposalLapse (area : Area) : Statement (.proposalLapse area) := by
  rintro q ⟨⟩

theorem grantExpiry (area : Area) : Statement (.grantExpiry area) := by
  rintro q ⟨⟩

theorem writeSetting (auth : Byte) (op : Half) (id index : Byte) (value : Half) :
    Statement (.writeSetting auth op id index value) := by
  rintro q ⟨⟩
  exact ⟨by simp [requestCodes], rfl⟩

theorem loopConversion (code : Sample) : Statement (.loopConversion code) := by
  rintro q ⟨⟩

theorem byteReceived (b : Byte) (stop : Bool) : Statement (.byteReceived b stop) := by
  rintro q ⟨⟩

theorem responseSent : Statement .responseSent := by
  rintro q ⟨⟩

end Sys2Proof.Laws.RequestCode
end

