-- ==== Sys2Proof/Laws/Requests.lean ====
section
/-! SUPPORT. What taking a request can do, said once: a request row is taken or waits, an admitted request is
its owner's, a request that the first checks turn away changes only the response, and an owner's checks refuse in
their order. -/

namespace Sys2Proof.Machine

/-- With no earlier request unanswered, a request row is taken. -/
@[simp] theorem State.inTurn_of_free {s : State} (h : s.slp.response = none) (c : Instr) (taken : State) :
    s.inTurn c taken = taken := by
  simp only [State.inTurn, h]

/-- While a response is in flight, a request row changes nothing but the requests that wait. -/
theorem State.inTurn_of_busy {s : State} (h : s.slp.response.isSome = true) {c : Instr} {raw : RawRequest}
    (hr : requestBytes c = some raw) (taken : State) :
    s.inTurn c taken = { s with slp := { s.slp with
      waiting := if s.slp.waiting.length < 2 then s.slp.waiting ++ [raw] else s.slp.waiting } } := by
  have hw : s.inTurn c taken = s.await raw := by
    obtain ⟨p, hp⟩ := Option.isSome_iff_exists.mp h
    simp only [State.inTurn, hp, hr]
  rw [hw]
  by_cases hl : s.slp.waiting.length < 2 <;> simp [State.await, State.onSlp, Config.waitingLimit, hl]

/-- An admitted request whose selectors name something is handed to its owner, and its reply answered. -/
theorem State.request_of_admits {α : Type} {s : State} {code : Nat} {auth : Byte} {op : Half} {r : Role}
    {sel : Option α} {a : α} {owner : State → Role → α → State × Reply} (h : s.admits code auth op r)
    (hs : sel = some a) :
    s.request code auth op sel owner = (owner s r a).1.respond code (owner s r a).2 := by
  obtain ⟨-, h1, h2, h3, h4, h5⟩ := h
  subst hs
  have h6 : ¬ (op.toNat = 0 ∨ 9999 < op.toNat) := by omega
  cases r with
  | teller l =>
    have h7 := h4 l rfl
    simp only [State.request, State.firstChecks, Role.lastChecks, h1, h5, h7, if_neg h6, if_true]
  | supervisor => simp only [State.request, State.firstChecks, Role.lastChecks, h1, h5, if_neg h6, if_true]
  | service => simp only [State.request, State.firstChecks, Role.lastChecks, h1, h5, if_neg h6, if_true]

/-- A request that the first checks turn away is answered with their status and changes nothing else. -/
theorem State.request_of_error {α : Type} {s : State} {code : Nat} {auth : Byte} {op : Half}
    {sel : Option α} {st : Status} {owner : State → Role → α → State × Reply}
    (h : s.firstChecks code auth op sel = .error st) :
    s.request code auth op sel owner = s.answered code st .empty := by
  simp only [State.request, h]
  rfl

/-- Owner checks that all pass take the request. -/
theorem State.unless_of_none {s : State} {checks : List (Bool × Reply)} {taken : State × Reply}
    (h : firstFailure checks = none) : s.unless checks taken = taken := by
  simp only [State.unless, h]

/-- Owner checks of which one fails refuse with no change. -/
theorem State.unless_of_some {s : State} {checks : List (Bool × Reply)} {taken : State × Reply} {r : Reply}
    (h : firstFailure checks = some r) : s.unless checks taken = (s, r) := by
  simp only [State.unless, h]

/-- No check fails exactly when every one of them passes. -/
theorem firstFailure_eq_none {checks : List (Bool × Reply)} :
    firstFailure checks = none ↔ ∀ p ∈ checks, p.1 = false := by
  induction checks with
  | nil => simp [firstFailure]
  | cons p rest ih =>
    obtain ⟨bad, r⟩ := p
    cases bad <;> simp [firstFailure, ih]

end Sys2Proof.Machine
end

