-- ==== Sys2Proof/Tests/Slice0.lean ====
section
/-! SUPPORT. Tests. First the well-formedness smoke tests and figures that the manual works out itself (its
checks, plans and notes, each named by its section); then, for the statements of Certificates/Slice0, a
state and operands that meet the hypotheses of each clause together, most with what the command leaves
there by its rule. Each is one step on a small state. -/

namespace Sys2Proof.Tests

open Sys2Proof Sys2Proof.Machine Host

set_option Elab.async false

/-! ## Small states -/

/-- A record of generation 1 put into a slot. -/
def put (s : State) (i : Nat) (r : Record) : State :=
  { s with ct := { s.ct with slots := s.ct.slots.setIfInBounds i ⟨1, some r⟩ } }

/-- A stock of 100 notes of which one is picked and stacked; two are reserved. -/
def stock (p : CassettePos) (denom : Nat) : Stock :=
  ⟨p, denom, 100, 1, 0, 0, 0, 1, 2, 100, 150, 101, 300, 75, 125, 225, 375, .dirty, false, .exact⟩

/-- A stock that nothing stands on. -/
def fresh (p : CassettePos) (denom : Nat) : Stock :=
  { stock p denom with pickedOut := 0, inBundles := 0, reserved := 0 }

/-- A bundle of L1 over both stocks, one note stacked of three. -/
def bundle (st : BundleState) : Bundle := ⟨.l1, 40, 7, [⟨0x0100, 2, 1⟩, ⟨0x0101, 1, 0⟩], 0, st⟩

/-- A bundle of L1 with all its notes stacked. -/
def stackedBundle (st : BundleState) : Bundle :=
  { bundle st with parts := [⟨0x0100, 1, 1⟩] }

/-- Stocks at C1 and C2, the reject vault, B1 ACTIVE and B2 STANDBY, in slots 0 to 4. -/
def wall : State :=
  put (put (put (put (put State.reset 0 (.stock (stock .c1 10))) 1 (.stock (stock .c2 20)))
    2 (.vault ⟨5, 1000, .exact⟩)) 3 (.bin ⟨.b1, 0, 0, 80, 350000, .active, .exact⟩))
    4 (.bin ⟨.b2, 0, 0, 80, 350000, .standby, .exact⟩)

/-- The wall with a bundle in slot 5. -/
def withBundle (st : BundleState) : State := put wall 5 (.bundle (bundle st))

/-- The note transport in a state, with the bundle of slot 5. -/
def inNote (st : NoteState) (b : Bundle) : State :=
  let s := put wall 5 (.bundle b)
  { s with ntc := { s.ntc with state := st, current := some 0x0105 } }

/-- A note under the gauges, started on the stock of C1. -/
def noteItem : GaugeItem :=
  ⟨10, ⟨some 10, 0, none, [200, 200]⟩, ⟨some 12, 0, none, [210]⟩, some ⟨0x0100, 101, 300⟩, false⟩

/-- PICKING with a note under the gauges. -/
def underGauges : State :=
  let s := inNote .picking (bundle .picking)
  { s with
    gmu := { s.gmu with note := { s.gmu.note with item := some noteItem } }
    ntc := { s.ntc with path := [⟨some 0x0100, false, false⟩] } }

/-- PICKING with a pick outstanding on the stock of C1. -/
def awaiting : State :=
  let s := inNote .picking (bundle .picking)
  { s with ntc := { s.ntc with pick := some 0x0100, pickTimer := .running 400, path := [] } }

/-- An envelope of T1 in the transport. -/
def letter : CurrentEnv := ⟨.t1, false, none, none, none, none, false, false, false, false, false⟩

/-- The envelope transport in a state, with an envelope. -/
def inEnv (st : EnvState) (e : CurrentEnv) : State :=
  { wall with ecc := { wall.ecc with state := st, current := some e } }

/-- An envelope item under the gauges. -/
def envItem : GaugeItem := ⟨0, ⟨some 0, 0, none, [400]⟩, ⟨some 0, 0, none, [400]⟩, none, false⟩

/-- A state with an envelope item under the gauges. -/
def gauging (s : State) : State :=
  { s with gmu := { s.gmu with envelope := { s.gmu.envelope with item := some envItem } } }

/-- A state with the drawer of L1 changed. -/
def lane (s : State) (f : Ldc → Ldc) : State := s.onLdc .l1 f

/-- A state with a zone changed. -/
def zone (s : State) (z : ZoneId) (f : Zone → Zone) : State :=
  { s with azu := { s.azu with zones := s.azu.zones.set z (f s.azu.zones[z]) } }

/-- A state with a grant in a state, proposed by operator 1. -/
def grant (s : State) (a : Area) (st : GrantState) : State :=
  { s with azu := { s.azu with grants := s.azu.grants.put a ⟨st, some 1, none, .running 9⟩ } }

/-- Whether a command answers a next state that meets a condition. -/
def leaves (c : Instr) (s : State) (p : State → Bool) : Bool :=
  match exec c s with
  | .next t => p t
  | _ => false

/-- Whether a command is answered with a status. -/
def replies (c : Instr) (s : State) (st : Status) : Bool :=
  leaves c s fun t => t.slp.response.map (·.status) = some st

/-- A supervisor, operator 1, is admitted where the table admits one. -/
theorem supervisor_admits (s : State) (code : Nat) (h : Role.supervisor.admitted code = true)
    (hr : s.slp.response = none := by decide +kernel) : s.admits code 0x20 1 .supervisor :=
  ⟨hr, rfl, by decide, by decide, fun _ hl => (by cases hl), h⟩

/-- Service, operator 1, is admitted where the table admits it. -/
theorem service_admits (s : State) (code : Nat) (h : Role.service.admitted code = true)
    (hr : s.slp.response = none := by decide +kernel) : s.admits code 0x30 1 .service :=
  ⟨hr, rfl, by decide, by decide, fun _ hl => (by cases hl), h⟩

/-- No handle names a record with the backup lost. -/
theorem lost_find (h : Handle) : Ct.lost.find h = none := by
  have hs : Ct.lost.slots[handleSlot h]? = some ⟨1, none⟩ := by
    simp [Ct.lost, handleSlot_lt]
  rw [Ct.find, hs]
  simp

/-! ## Well-formedness: each check refuses an ill-formed term -/

theorem test_wf_unknown_request : (Instr.unknownRequest 0x20 1 0x01).wf = false := by decide
theorem test_wf_item_end : (Instr.itemEnd .note ⟨701, 100, 0, false⟩).wf = false := by decide
theorem test_wf_item_end_short : (Instr.itemEnd .note ⟨100, 1, 0, true⟩).wf = false := by decide
theorem test_wf_length_limit : (Instr.envelopeLengthLimit 16317 0).wf = false := by decide
theorem test_wf_channel : (Instr.loopClassChange 5 .normal).wf = false := by decide
theorem test_wf_class : (Instr.loopClassChange 8 .unscanned).wf = false := by decide
theorem test_wf_tail : (Instr.blankingTailExpiry 8).wf = false := by decide
theorem test_wf_accepts : (Instr.itemEnd .note ⟨700, 16316, 9, false⟩).wf = true := by decide

/-- An ill-formed command is the one fault of the model (log entry 8). -/
theorem test_ill_formed : exec (.blankingTailExpiry 8) State.reset
    = .fault (.illFormed "BLANKING_TAIL_EXPIRY") := rfl

/-- No word of the table spells a command: its rows have no bits. -/
theorem test_no_table_word : decodeTableWord 8 0xC3 = none := rfl

/-! ## Figures that the manual works out -/

/-- R164's check value, over the ASCII digits 1 to 9. -/
theorem test_crc : crc [0x31, 0x32, 0x33, 0x34, 0x35, 0x36, 0x37, 0x38, 0x39] = 0x29B1 := by
  decide +kernel

/-- 02, section 2.10.1: the three notes of C3. -/
theorem test_worked_notes :
    classifyNote ⟨298, 103, 2, false⟩ false 101 300 10 6 = .good
      ∧ classifyNote ⟨299, 203, 1, false⟩ false 101 300 10 6 = .double
      ∧ countedNotes .double ⟨299, 203, 1, false⟩ 101 300 = 2
      ∧ classifyNote ⟨301, 110, 3, false⟩ false 101 300 10 6 = .good := by decide

/-- 02, sections 2.10.1 and 2.10.2: learning steps up, down and at a bound. -/
theorem test_worked_learning :
    ((stock .c3 20).learn ⟨0, 101, 300⟩ ⟨298, 103, 2, false⟩).tRef = 101
      ∧ ((stock .c3 20).learn ⟨0, 101, 300⟩ ⟨301, 110, 3, false⟩).tRef = 102
      ∧ ((stock .c3 20).learn ⟨0, 101, 300⟩ ⟨300, 80, 3, false⟩).tRef = 100
      ∧ ({ stock .c3 20 with tLow := 60, tHigh := 100 }.learn ⟨0, 100, 300⟩ ⟨300, 130, 0, false⟩).tRef
          = 100 := by decide

/-- 02, section 2.10.3: two notes drawn through together. -/
theorem test_worked_long : classifyNote ⟨604, 100, 0, false⟩ false 101 300 10 6 = .long
    ∧ estimate 604 300 = 2 ∧ estimate 700 300 = 2 := by decide

/-- 03, sections 3.10.1 to 3.10.4: plans by amount and their greedy maximum. -/
theorem test_worked_plans :
    let cs : List Candidate :=
      [⟨0x100, .c1, 100, 40⟩, ⟨0x101, .c2, 50, 0⟩, ⟨0x102, .c3, 20, 200⟩, ⟨0x103, .c4, 20, 10⟩]
    let two : List Candidate := [⟨0x100, .c1, 100, 40⟩, ⟨0x102, .c3, 20, 200⟩]
    searchPlan cs 260 40 = some [2, 0, 3, 0]
      ∧ searchPlan [⟨0x100, .c1, 50, 30⟩, ⟨0x101, .c2, 20, 200⟩] 60 40 = some [0, 3]
      ∧ searchPlan two 130 40 = none ∧ greedyMaximum two 40 = 4000
      ∧ searchPlan two 260 4 = none ∧ greedyMaximum two 4 = 400 := by decide +kernel

/-! ## The machine, its queue and its reset -/

theorem test_front_command : step { State.reset with pending := [.lineBreak, .responseSent] }
    = exec .lineBreak { State.reset with pending := [.responseSent] } := rfl

/-- No timer of the reset state is in its last millisecond. -/
theorem witness_idle_step : State.reset.pending = []
    ∧ ∀ u ∈ State.reset.timers, ∀ n, u = .running n → 2 ≤ n := by
  refine ⟨rfl, fun u hu n h => ?_⟩
  have hall : (State.reset.timers.all fun u =>
      match u with
      | .running n => decide (2 ≤ n)
      | _ => true) = true := by decide +kernel
  have := List.all_eq_true.mp hall u hu
  subst h
  simpa using this

/-- One state that meets the laws of the invariants below and takes a step. -/
theorem witness_laws : wall.ct.talliesBalanced = true ∧ wall.rangesLegal = true ∧ wall.azu.lawful = true
    ∧ wall.set.inRange = true ∧ wall.dpl.quotesLegal = true ∧ wall.drivesLawful = true
    ∧ leaves .lineBreak wall (fun _ => true) = true := by decide +kernel

theorem witness_holds : wall.holdsFollowZones := by
  refine ⟨by decide +kernel, by decide +kernel, by decide +kernel, fun l => ?_⟩
  cases l <;> decide +kernel

theorem witness_plans : { State.reset with ms := 5 }.plansHonourable := by
  refine ⟨by decide +kernel, fun q hq => ?_, fun h b hb => ?_⟩
  · have : State.reset.dpl.liveQuotes = [] := by decide +kernel
    exact absurd hq (by simp [this])
  · have : Ct.lost.bundle? h = none := by simp [Ct.bundle?, lost_find]
    rw [show ({ State.reset with ms := 5 } : State).ct = Ct.lost from rfl, this] at hb
    cases hb

theorem witness_pauses : { wall with
    ntc := { wall.ntc with state := .paused, saved := some .picking } }.pausesLegal :=
  ⟨⟨rfl, by decide⟩, show wall.ecc.state ≠ .paused by decide +kernel⟩

/-! ## Power -/

theorem witness_power_on_lost : (true && false) = false
    ∧ leaves (.powerOn true false Pins.atReset) wall (fun t => t.ct = Ct.lost) = true := by
  decide +kernel

theorem witness_power_on_retained : (withBundle .picking).ct.bundle? 0x0105 = some (bundle .picking)
    ∧ (bundle .picking).inTransport = true
    ∧ (∀ p ∈ (withBundle .picking).ct.bundles, p.2.lane = .l1 → p.1 = 0x0105)
    ∧ leaves (.powerOn true true Pins.atReset) (withBundle .picking)
        (fun t => t.ct.find 0x0105 = none && t.wallFlag .transportJam) = true := by decide +kernel

/-- A drawer on its way OUT at a power warning. -/
def goingOut : State := lane wall fun d => { d with state := .extending, motor := true }

theorem witness_power_warning : goingOut.pins.warning = false
    ∧ (goingOut.ldc.get .l1).state = Motion.state .extending
    ∧ (∀ m, (goingOut.ldc.get .l2).state ≠ Motion.state m)
    ∧ leaves .powerWarning goingOut (fun t => (t.ldc.get .l1).halted = some .extending) = true := by
  refine ⟨by decide +kernel, by decide +kernel, fun m => ?_, by decide +kernel⟩
  cases m <;> decide +kernel

/-- A power warning at work of every block. -/
def warned : State :=
  let s := inNote .picking (bundle .picking)
  lane { s with
    pins := { s.pins with warning := true }
    ecc := { s.ecc with state := .forward, current := some letter } }
    fun d => { d with state := .stopped, halted := some .retracting }

theorem witness_power_warning_end : warned.pins.warning = true ∧ warned.ntc.phase = .picking
    ∧ warned.currentBundle = some (0x0105, bundle .picking) ∧ (0x0105 : Handle) ∉ warned.dpl.queue
    ∧ (∀ p ∈ warned.ct.bundles, p.2.lane = .l1 → p.1 = 0x0105)
    ∧ warned.ecc.phase ∈ [EnvState.measuring, .forward, .reversing, .recapture]
    ∧ warned.locked .l1 = false ∧ warned.fitted .l1 = true ∧ (warned.ldc.get .l1).restartHoming = false
    ∧ (warned.ldc.get .l1).state = .stopped ∧ (warned.ldc.get .l1).halted = some .retracting
    ∧ leaves .powerWarningEnd warned
        (fun t => t.ntc.state = .jammed && t.ecc.state = .jammed && t.ct.find 0x0105 = none) = true := by
  decide +kernel

/-- Restart leaders that wait. -/
def waitingLeaders : State := { wall with
  ntc := { wall.ntc with leader := ⟨false, 0, false, false⟩, motor := false }
  ecc := { wall.ecc with leader := ⟨false, 0, false, false⟩, motor := false } }

theorem witness_restart_leaders : waitingLeaders.ntc.state = .leader
    ∧ waitingLeaders.ntc.leader.started = false ∧ waitingLeaders.ntc.current = none
    ∧ waitingLeaders.ecc.state = .leader ∧ waitingLeaders.ecc.leader.started = false
    ∧ waitingLeaders.ecc.current = none ∧ waitingLeaders.ct.holdDispenser = 0
    ∧ waitingLeaders.ct.holdReject = 0 ∧ waitingLeaders.ct.holdCapture = 0
    ∧ waitingLeaders.pins.warning = false ∧ waitingLeaders.pauseInForce = false
    ∧ leaves .noteRestartLeaderStart waitingLeaders (fun t => t.ntc.motor) = true
    ∧ leaves .envelopeRestartLeaderStart waitingLeaders (fun t => t.ecc.motor) = true := by
  decide +kernel

/-- A restart leader that a pause holds up has not begun: by its own row, and at the end of a power warning
(log entry 78). -/
theorem witness_restart_leader_paused :
    let s := zone waitingLeaders 12 fun w => { w with pending := true }
    let w := { s with pins := { s.pins with warning := true } }
    s.ecc.state = .leader ∧ s.ecc.leader.started = false ∧ s.ecc.current = none ∧ s.ct.holdCapture = 0
      ∧ s.pins.warning = false ∧ s.pauseInForce = true
      ∧ leaves .envelopeRestartLeaderStart s (fun t => t.ecc.saved = some .leader && t.ecc.restartWaits) = true
      ∧ leaves .powerWarningEnd w (fun t => t.ecc.saved = some .leader && t.ecc.restartWaits) = true := by
  decide +kernel

/-- A locked lane starts at a retained power-on with its lock solenoid engaged, an unlocked one without (R85). -/
theorem test_power_on_solenoids :
    leaves (.powerOn true true Pins.atReset) (lane wall fun d => { d with locks := zoneBit 4 })
      (fun t => t.ldc.l1.solenoid && !t.ldc.l2.solenoid) = true := by decide +kernel

/-! ## The station link -/

/-- A response being sent with one request that waits. -/
def answering : State :=
  { wall with slp := { wall.slp with
      response := some ⟨0x01, .ok, .empty⟩, waiting := [[0x20, 1, 0, 0x02]] } }

theorem witness_receiver :
    { wall with slp := { wall.slp with gap := .running 3 } }.slp.gap.isRunning = true
    ∧ wall.slp.receiver = .hunt
    ∧ { wall with slp := { wall.slp with receiver := .count } }.slp.receiver = .count
    ∧ 4 ≤ [0x20, 1, 0, 0x02].length ∧ answering.slp.receiver = .hunt
    ∧ answering.slp.response.isSome = true ∧ wall.slp.waiting = []
    ∧ (Instr.readEvents 0x20 1).wf = true
    ∧ requestBytes (.readEvents 0x20 1) = some [0x20, 1, 0, 0x02]
    ∧ answering.slp.waiting = [0x20, 1, 0, 0x02] :: []
    ∧ leaves (.readTotals 0x20 1) answering (fun t =>
        t.slp.waiting = [[0x20, 1, 0, 0x02], [0x20, 1, 0, 0x08]]
          && t.slp.response = answering.slp.response) = true := by decide +kernel

/-- The frame of IDENTIFY by a supervisor, byte by byte, is answered (10, section 10.2). -/
theorem witness_frame : (Instr.identify 0x20 1).wf = true
    ∧ requestBytes (.identify 0x20 1) = some [0x20, 1, 0, 0x01] ∧ wall.slp.receiver = .hunt
    ∧ wall.slp.response = none
    ∧ (wall.feed (frameOf [0x20, 1, 0, 0x01])).slp.response = some ⟨0x01, .ok, .identify 4⟩ := by
  decide +kernel

theorem test_frame_bytes : (frameOf [0x20, 1, 0, 0x01]).take 6 = [0xC3, 4, 0x20, 1, 0, 0x01] := by decide

theorem witness_check : (0x31 : Byte) ≠ 0x32 := by decide

/-- The first checks in their order: the role, the operator, a teller's lane, the table, the code. -/
theorem witness_first_checks : requestOf (.identify 0x10 1) = some (0x01, 0x10, 1)
    ∧ roleOf 0x10 = none ∧ roleOf 0x20 = some .supervisor ∧ (0 : Half).toNat = 0
    ∧ 9999 < (10000 : Half).toNat ∧ roleOf 0x13 = some (.teller .l3)
    ∧ { wall with set := { wall.set with fittedLanes := ⟨2, none⟩ } }.fitted .l3 = false
    ∧ (Role.teller .l3).admitted 0x50 = false ∧ (0xFF : Byte).toNat ∉ requestCodes
    ∧ replies (.identify 0x20 10000) wall .authority = true
    ∧ replies (.identify 0x13 1) { wall with set := { wall.set with fittedLanes := ⟨2, none⟩ } } .noLane
        = true
    ∧ replies (.unknownRequest 0x10 0 0xFF) wall .badRequest = true := by decide +kernel

/-- A lane that LIST_LANE does not name, and a LIST_LANE whose BODY has no byte. -/
theorem witness_last_check : wall.admits 0x07 0x20 1 .supervisor ∧ selectorsNamed (.listLane 0x20 1 5) = false
    ∧ replies (.listLane 0x20 1 5) wall .badRequest = true
    ∧ (0x07 : Byte).toNat ∈ requestCodes
    ∧ (∀ c : Instr, c.wf = true → requestBytes c ≠ some (rawOf 0x20 1 0x07 []))
    ∧ (wall.feed (frameOf (rawOf 0x20 1 0x07 []))).slp.response = some ⟨0x07, .badRequest, .empty⟩ := by
  refine ⟨supervisor_admits _ _ (by decide), by decide, by decide +kernel, by decide, ?_, by decide +kernel⟩
  intro c hw h
  cases c <;> simp [requestBytes, rawOf, leBytes] at h
  obtain ⟨-, -, -, rfl⟩ := h
  revert hw
  simp [Instr.wf, requestCodes]

/-- A teller of L1 that asks for L3, not fitted, is refused with AUTHORITY first (R25). -/
theorem test_list_lane_order : replies (.listLane 0x11 1 3)
    { wall with set := { wall.set with fittedLanes := ⟨2, none⟩ } } .authority = true := by decide +kernel

theorem witness_teller_refused : (∀ l, Role.teller .l3 = .teller l → wall.fitted l = true) := by
  intro l h
  cases h
  decide +kernel

theorem witness_refusals : requestOf (.retractDrawer 0x20 1 1) = some (0x31, 0x20, 1)
    ∧ replies (.retractDrawer 0x20 1 1) wall .state = true := by decide +kernel

/-- A teller of L1 is admitted where L1 is fitted and the table admits one. -/
theorem teller_admits (s : State) (code : Nat) (hf : s.fitted .l1 = true)
    (h : (Role.teller .l1).admitted code = true) (hr : s.slp.response = none := by decide +kernel) :
    s.admits code 0x11 1 (.teller .l1) :=
  ⟨hr, rfl, by decide, by decide, fun _ hl => (by cases hl; exact hf), h⟩

/-! ## Reads, settings and claims -/

theorem witness_identify : wall.admits 0x01 0x20 1 .supervisor ∧ replies (.identify 0x20 1) wall .ok = true :=
  ⟨supervisor_admits _ _ (by decide), by decide +kernel⟩

/-- READ_EVENTS by a supervisor and by the teller of L1. -/
theorem witness_events : wall.admits 0x02 0x20 1 .supervisor ∧ Role.supervisor.isTeller = false
    ∧ wall.admits 0x02 0x11 1 (.teller .l1)
    ∧ leaves (.readEvents 0x20 1) wall (fun t => !t.attn) = true
    ∧ leaves (.readEvents 0x11 1) wall (fun t => t.wallFlag .backupLost) = true :=
  ⟨supervisor_admits _ _ (by decide), rfl, teller_admits _ _ (by decide +kernel) (by decide),
    by decide +kernel, by decide +kernel⟩

/-- A read of a setting that exists and of one that does not; writes that wait (FITTED_LANES) and that do
not (BUNDLE_LIMIT, clamped to 50). -/
theorem witness_settings : wall.admits 0x03 0x20 1 .supervisor
    ∧ (settingOf 2 0 = some .bundleLimit ∧ settingOf 0x19 0 = none)
    ∧ wall.admits 0x70 0x20 1 .supervisor ∧ wall.admits 0x70 0x30 1 .service
    ∧ (settingOf 1 0 = some .fittedLanes ∧ Setting.fittedLanes.writtenBy .service = true
      ∧ wall.writeWaits .fittedLanes = true ∧ Setting.bundleLimit.writtenBy .supervisor = true
      ∧ wall.writeWaits .bundleLimit = false
      ∧ Setting.bundleLimit ∉ [Setting.lowMark, .captureEnable, .rvCapacity, .stackerWait]
      ∧ leaves (.writeSetting 0x20 1 2 0 60) wall (fun t => t.set.bundleLimit = 50) = true
      ∧ leaves (.writeSetting 0x30 1 1 0 3) wall (fun t => t.set.fittedLanes = ⟨4, some 3⟩) = true) :=
  ⟨supervisor_admits _ _ (by decide), by decide, supervisor_admits _ _ (by decide),
    service_admits _ _ (by decide), by decide +kernel⟩

/-- CAPTURE_ENABLE off, the throats closed. -/
def captureOff : State := { wall with
  set := { wall.set with captureEnable := 0 }
  ecc := { wall.ecc with state := .idle } }

/-- LOW_MARK that two stocks cross, CAPTURE_ENABLE that opens the throats and closes them, RV_CAPACITY, and
STACKER_WAIT in a running wait (R133, R106, R10). -/
theorem witness_setting_effects :
    (settingOf 9 0 = some .lowMark ∧ settingOf 11 0 = some .captureEnable ∧ settingOf 10 0 = some .rvCapacity
      ∧ settingOf 5 0 = some .stackerWait)
    ∧ leaves (.writeSetting 0x20 1 9 0 500) wall (fun t => t.wallFlag .stockLow
        && t.ct.stocks.all fun p => p.2.lowMark) = true
    ∧ captureOff.openCondition = false
    ∧ leaves (.writeSetting 0x20 1 11 0 1) captureOff (fun t => t.openCondition
        && t.ecc.throats.t1.state = .opened
        && leaves (.writeSetting 0x20 1 11 0 0) { t with slp := { t.slp with response := none } }
          fun u => u.ecc.throats.t1.state = .closed && !u.ecc.throats.t1.shutterOpen) = true
    ∧ leaves (.writeSetting 0x20 1 10 0 200) wall (fun t => t.ct = wall.ct && t.set.rvCapacity = 200) = true
    ∧ leaves (.writeSetting 0x20 1 5 0 10) { wall with ntc := { wall.ntc with waitTimer := .running 55000 } }
        (fun t => t.ntc.waitTimer = .running 5000) = true
    ∧ leaves (.writeSetting 0x20 1 5 0 10) { wall with ntc := { wall.ntc with waitTimer := .frozen 10000 } }
        (fun t => t.ntc.waitTimer = .frozen 0
          && leaves (.writeSetting 0x20 1 5 0 60) { t with slp := { t.slp with response := none } }
            fun u => u.ntc.waitTimer = .frozen 10000) = true := by decide +kernel

/-- READ_RECORD of a dead handle, of a record that a teller may see and of another lane's. -/
theorem witness_records : wall.admits 0x04 0x20 1 .supervisor
    ∧ (wall.ct.find 0x0200 = none ∧ wall.ct.find 0x0100 = some (.stock (stock .c1 10))
      ∧ Role.supervisor.maySee (.stock (stock .c1 10)) = true
      ∧ (Role.teller .l2).maySee (.bundle (bundle .queued)) = false)
    ∧ wall.admits 0x07 0x20 1 .supervisor ∧ (laneOf 1 = some .l1 ∧ wall.fitted .l1 = true
      ∧ Role.supervisor.mayName .l1 = true) :=
  ⟨supervisor_admits _ _ (by decide), by decide +kernel, supervisor_admits _ _ (by decide),
    by decide +kernel⟩

/-- An envelope of bin B1 and a claimed one that has been collected. -/
def letters : State :=
  put (put wall 5 (.envelope ⟨9, .t1, .inBin 0x0103 .b1, 440, 4000, true, false, false, .exact⟩))
    6 (.envelope ⟨9, .t1, .collected, 440, 4000, true, false, true, .exact⟩)

theorem witness_find_location : letters.admits 0x05 0x20 1 .supervisor
    ∧ (letters.ct.generationsLegal = true ∧ locationOf 3 9 = some (.bin .b1)
      ∧ letters.unfittedPlace (.bin .b1) = false
      ∧ leaves (.findByLocation 0x20 1 3 9) letters (fun t => t.slp.response =
          some ⟨0x05, .ok, .handles [0x0103, 0x0105] 2 false⟩) = true) :=
  ⟨supervisor_admits _ _ (by decide), by decide +kernel⟩

/-- FIND_ENVELOPE: a number out of range, one that no envelope carries, and one that two carry. -/
theorem witness_find_envelope : letters.admits 0x06 0x20 1 .supervisor
    ∧ letters.ct.generationsLegal = true ∧ (0 : Quad).toNat = 0 ∧ 999999 < (1000000 : Quad).toNat
    ∧ (1 ≤ (9 : Quad).toNat ∧ (9 : Quad).toNat ≤ 999999)
    ∧ (∀ h, ¬ ∃ e, State.reset.ct.find h = some (.envelope e) ∧ e.number = (9 : Quad).toNat)
    ∧ (∃ h e, letters.ct.find h = some (.envelope e) ∧ e.number = (9 : Quad).toNat)
    ∧ leaves (.findEnvelope 0x20 1 9) letters
        (fun t => t.slp.response = some ⟨0x06, .ok, .found 0x0105 2⟩) = true := by
  refine ⟨supervisor_admits _ _ (by decide), by decide +kernel, by decide, by decide, by decide, ?_,
    ⟨0x0105, ⟨9, .t1, .inBin 0x0103 .b1, 440, 4000, true, false, false, .exact⟩, by decide +kernel,
      by decide⟩, by decide +kernel⟩
  rintro h ⟨e, he, -⟩
  rw [show State.reset.ct = Ct.lost from rfl, lost_find] at he
  cases he

theorem witness_views : wall.admits 0x08 0x20 1 .supervisor ∧ wall.admits 0x09 0x20 1 .supervisor
    ∧ wall.admits 0x0A 0x20 1 .supervisor ∧ wall.admits 0x0B 0x11 1 (.teller .l1)
    ∧ (laneOf 1 = some .l1 ∧ wall.fitted .l1 = true ∧ replies (.readTotals 0x20 1) wall .ok = true
      ∧ replies (.readDrawer 0x20 1 1) wall .ok = true
      ∧ replies (.readTransportNote 0x20 1) wall .ok = true
      ∧ replies (.readTransportEnvelope 0x20 1) wall .ok = true
      ∧ replies (.readAlarms 0x11 1) wall .ok = true
      ∧ leaves (.readAlarms 0x20 1) (zone (zone wall 9 fun w => { w with pending := true }) 14
          fun w => { w with pending := true })
          (fun t => match t.slp.response with
            | some ⟨_, _, .alarms v⟩ => v.top = some ⟨14, true⟩
            | _ => false) = true) :=
  ⟨supervisor_admits _ _ (by decide), supervisor_admits _ _ (by decide),
    supervisor_admits _ _ (by decide), teller_admits _ _ (by decide +kernel) (by decide),
    by decide +kernel⟩

/-- Thirty-two claimed envelopes and one that is not. -/
def claimed32 : State :=
  put ((List.range 32).foldl (fun s i =>
    put s (10 + i) (.envelope ⟨i + 1, .t1, .collected, 440, 4000, true, false, true, .exact⟩)) wall)
    9 (.envelope ⟨99, .t1, .collected, 440, 4000, true, false, false, .exact⟩)

theorem witness_claims : letters.admits 0x40 0x20 1 .supervisor ∧ letters.admits 0x41 0x20 1 .supervisor
    ∧ (letters.ct.find 0x0105
          = some (.envelope ⟨9, .t1, .inBin 0x0103 .b1, 440, 4000, true, false, false, .exact⟩)
      ∧ letters.ct.find 0x0106
          = some (.envelope ⟨9, .t1, .collected, 440, 4000, true, false, true, .exact⟩)
      ∧ letters.ct.claims < 32 ∧ claimed32.ct.claims = 32
      ∧ replies (.claimEnvelope 0x20 1 0x0109) claimed32 .full = true
      ∧ leaves (.claimEnvelope 0x20 1 0x0105) letters (fun t => t.ct.claims = 2) = true
      ∧ leaves (.releaseClaim 0x20 1 0x0106) letters (fun t => t.ct.find 0x0106 = none) = true) :=
  ⟨supervisor_admits _ _ (by decide), supervisor_admits _ _ (by decide), by decide +kernel⟩

/-- RELEASE_CLAIM of a claimed envelope in a bin. -/
theorem witness_release_in_bin :
    leaves (.releaseClaim 0x20 1 0x0105)
      (put wall 5 (.envelope ⟨9, .t1, .inBin 0x0103 .b1, 440, 4000, true, false, true, .exact⟩))
      (fun t => t.ct.find 0x0105
        = some (.envelope ⟨9, .t1, .inBin 0x0103 .b1, 440, 4000, true, false, false, .exact⟩)) = true := by
  decide +kernel

/-! ## The gauges -/

/-- 203 over 101 is 2 to the nearest. -/
theorem witness_estimates : 0 < 101 ∧ ((2 : Nat) : Rat) - 1 / 2 ≤ ((203 : Nat) : Rat) / (101 : Nat)
    ∧ ((203 : Nat) : Rat) / (101 : Nat) < ((2 : Nat) : Rat) + 1 / 2 := by norm_num

theorem witness_learning : (stock .c1 10).quality.isDoubtful = false
    ∧ { stock .c1 10 with quality := .doubtful .jam }.quality.isDoubtful = true
    ∧ (stock .c1 10).tLow ≤ (stock .c1 10).tHigh ∧ (stock .c1 10).lLow ≤ (stock .c1 10).lHigh := by decide

/-- Gap samples of both transports, in measuring travel outside a leader. -/
def gapping : State := { wall with
  ntc := { wall.ntc with state := .picking }
  ecc := { wall.ecc with state := .measuring }
  gmu := ⟨⟨true, true, 4, [500, 501], [480, 481], none⟩, ⟨true, true, 0, [], [], none⟩⟩ }

theorem witness_gap_samples : gapping.ntc.motor = true ∧ gapping.ntc.state ≠ .leader
    ∧ gapping.gmu.note.run = true ∧ gapping.gmu.note.measuring = true ∧ gapping.gmu.note.item = none
    ∧ (502 : Sample).toNat - gapping.gmu.note.winA.sum / gapping.gmu.note.winA.length
        < gapping.set.thresholdNote.value
    ∧ (482 : Sample).toNat - gapping.gmu.note.winB.sum / gapping.gmu.note.winB.length
        < gapping.set.thresholdNote.value
    ∧ gapping.ecc.motor = true ∧ gapping.ecc.state ≠ .leader ∧ gapping.gmu.envelope.winA = []
    ∧ leaves (.encoderPulse .note 502 482) gapping
        (fun t => t.gmu.note.winA = [500, 501, 502] && t.gmu.note.index = 5) = true := by decide +kernel

/-- PICKING with the stock of C1 picked and nothing, or an item of ten codes above the baselines, under the
gauges at an index; `below` codes of both tracks were below the threshold. -/
def sampling (item classified : Bool) (below index : Nat) : State :=
  let tr : TrackItem := ⟨some 10, below, none, [200, 200]⟩
  let it : GaugeItem := ⟨10, tr, tr, some ⟨0x0100, 101, 300⟩, classified⟩
  { awaiting with gmu := ⟨⟨true, true, index, [500, 501], [480, 481], if item then some it else none⟩,
    ⟨true, true, index, [500, 501], [480, 481], if item then some { it with stock := none } else none⟩⟩ }

/-- A leading edge, a sample of an item, its end, and the two presence limits of a note (R30 to R32). -/
theorem witness_note_samples :
    let s := sampling false false 0 10
    s.ntc.motor = true ∧ s.gmu.note.run = true ∧ s.gmu.note.measuring = true ∧ s.gmu.note.winA ≠ []
      ∧ (s.set.gauge .note).threshold ≤ (700 : Sample).toNat - s.gmu.note.winA.sum / s.gmu.note.winA.length
      ∧ s.ntc.state = .picking ∧ s.ntc.pick = some 0x0100 ∧ s.ct.stock? 0x0100 = some (stock .c1 10)
      ∧ leaves (.encoderPulse .note 700 482) s (fun t => t.ntc.pick = none
          && (t.gmu.note.item.map fun i => i.a.lead) = some (some 10)
          && (t.gmu.note.item.map fun i => i.b.lead) = some none) = true
      ∧ leaves (.encoderPulse .note 700 700) (sampling true false 0 12)
          (fun t => t.gmu.note.index = 13 && t.gmu.note.item.isSome) = true
      ∧ leaves (.encoderPulse .note 500 480) (sampling true false 3 60)
          (fun t => t.gmu.note.item = none && t.ntc.exitTimer = .running 300) = true
      ∧ leaves (.encoderPulse .note 700 700) (sampling true false 0 710)
          (fun t => t.gmu.note.item.map (·.classified) = some true) = true
      ∧ leaves (.encoderPulse .note 700 700) (sampling true true 0 1010)
          (fun t => t.ntc.state = .jammed) = true := by decide +kernel

/-- The same of an envelope. -/
theorem witness_envelope_samples :
    let on (s : State) : State :=
      { s with ecc := { s.ecc with state := .measuring, current := some letter, motor := true } }
    (on (sampling false false 0 10)).ecc.current = some letter ∧ letter.itemEnded = false
      ∧ ((on (sampling false false 0 10)).set.gauge .envelope).threshold
          ≤ (700 : Sample).toNat - [500, 501].sum / [500, 501].length
      ∧ leaves (.encoderPulse .envelope 700 482) (on (sampling false false 0 10))
          (fun t => t.ecc.current.map (·.itemStarted) = some true) = true
      ∧ leaves (.encoderPulse .envelope 700 700) (on (sampling true false 0 12))
          (fun t => t.gmu.envelope.index = 13) = true
      ∧ leaves (.encoderPulse .envelope 500 480) (on (sampling true false 3 60))
          (fun t => t.gmu.envelope.item = none) = true
      ∧ leaves (.encoderPulse .envelope 700 700) (on (sampling true false 0 650))
          (fun t => t.ecc.state = .reversing) = true
      ∧ leaves (.encoderPulse .envelope 700 700) (on (sampling true true 0 910))
          (fun t => t.ecc.state = .jammed) = true := by decide +kernel

/-- Two tracks of 50 samples from index 5, threshold 3: leading edges at 7 and 5, trailing edges at 43 and none;
the lengths 36 and 49, the thickness that 20 codes and 33 codes of 64 at gain 32 give (R30 to R36). -/
theorem witness_measure :
    let da := [0, 2] ++ List.replicate 36 20 ++ List.replicate 4 2 ++ List.replicate 8 9
    let db := List.replicate 50 33
    let it : GaugeItem := ⟨5, TrackItem.follow 3 5 da, TrackItem.follow 3 5 db, none, false⟩
    da.length = db.length ∧ it.start + da.length = 54 + 1
      ∧ it.a.lead = some 7 ∧ it.a.trail = some 43 ∧ it.b.lead = some 5 ∧ it.b.trail = none
      ∧ it.measure 54 32 32 = ⟨49, (20 * 32 / 64 + 33 * 32 / 64) / 2, 2, false⟩ := by decide +kernel

/-! ## Plans, quotes and the queue -/

theorem witness_search : (∀ c ∈ [(⟨0x100, .c1, 100, 40⟩ : Candidate), ⟨0x102, .c3, 20, 200⟩], 0 < c.denom)
    ∧ [(⟨0x100, .c1, 100, 40⟩ : Candidate), ⟨0x102, .c3, 20, 200⟩].Pairwise
        (fun c d => d.denom ≤ c.denom) := by decide

theorem witness_quote : wall.admits 0x20 0x20 1 .supervisor
    ∧ (laneOf 1 = some .l1 ∧ wall.fitted .l1 = true ∧ Role.supervisor.mayName .l1 = true
      ∧ wall.locked .l1 = false ∧ wall.dpl.quotesLegal = true)
    ∧ wall.planAmount 40 = .ok [⟨0x0101, 2⟩]
    ∧ wall.planAmount 15 = .error ⟨.noPlan, .noPlan .noCombination none 800⟩ :=
  ⟨supervisor_admits _ _ (by decide), by decide +kernel, by decide +kernel, by decide +kernel⟩

/-- No notes of 20 and 10 pay 15, which is below the greedy maximum; 10,000 is above it (R49). -/
theorem witness_no_plan : (∀ c ∈ wall.candidates, 0 < c.denom)
    ∧ (∀ v, ¬ pays wall.candidates v 15 wall.set.bundleLimit)
    ∧ searchPlan wall.candidates 40 wall.set.bundleLimit = some [2, 0]
    ∧ leaves (.quote 0x20 1 1 15) wall (fun t => t.slp.response
        = some ⟨0x20, .noPlan, .noPlan .noCombination none 800⟩) = true
    ∧ leaves (.quote 0x20 1 1 10000) wall (fun t => t.slp.response
        = some ⟨0x20, .noPlan, .noPlan .overLimit none 800⟩) = true
    ∧ replies (.quote 0x20 1 1 10000000) wall .badRequest = true := by
  refine ⟨by decide +kernel, fun v hv => ?_, by decide +kernel, by decide +kernel, by decide +kernel,
    by decide +kernel⟩
  have hc : wall.candidates = [⟨0x0101, .c2, 20, 97⟩, ⟨0x0100, .c1, 10, 97⟩] := by decide +kernel
  rw [hc] at hv
  obtain ⟨hl, _, _, hs⟩ := hv
  match v, hl with
  | [x, y], _ => simp at hs; omega

/-- A wall at work with the VALID quote 3 of L1. -/
def quoted : State := { wall with dpl := { wall.dpl with
  quotes := wall.dpl.quotes.set 0 (some ⟨3, .l1, 40, [⟨0x0101, 2⟩], true, true⟩) } }

theorem witness_commits : (quoted.fitted .l1 = true ∧ quoted.locked .l1 = false
      ∧ quoted.ct.bundleOf .l1 = none ∧ quoted.ntc.state ≠ .idle ∧ quoted.ct.freeSlot = some 5
      ∧ quoted.ct.slots[5]? = some ⟨1, none⟩ ∧ quoted.ct.generationsLegal = true
      ∧ quoted.dpl.sequence ≤ 65535 ∧ laneOf 1 = some .l1 ∧ Role.supervisor.mayName .l1 = true
      ∧ quoted.dpl.quoteTagged 3 = some ⟨3, .l1, 40, [⟨0x0101, 2⟩], true, true⟩
      ∧ leaves (.commit 0x20 1 1 3) quoted (fun t => t.dpl.queue = [0x0105]) = true
      ∧ leaves (.dispenseAmount 0x20 1 1 40) quoted (fun t => t.dpl.queue = [0x0105]
          && t.slp.response = some ⟨0x22, .accepted, .dispensed 0x0105 [(.c2, 20, 2)]⟩) = true
      ∧ leaves (.dispenseMix 0x20 1 1 1 1 0 0 0) quoted (fun t => t.dpl.queue = [0x0105]) = true)
    ∧ quoted.admits 0x21 0x20 1 .supervisor ∧ quoted.admits 0x22 0x20 1 .supervisor
    ∧ quoted.planAmount 40 = .ok [⟨0x0101, 2⟩]
    ∧ quoted.planMix ⟨1, 1, 0, 0, 0⟩ = .ok [⟨0x0100, 1⟩, ⟨0x0101, 1⟩] :=
  ⟨by decide +kernel, supervisor_admits _ _ (by decide), supervisor_admits _ _ (by decide),
    by decide +kernel,
    by decide +kernel⟩

/-- CANCEL_BUNDLE of a QUEUED bundle and of one that is ROUTING. -/
theorem witness_cancel : (withBundle .queued).admits 0x23 0x20 1 .supervisor
    ∧ ((withBundle .queued).ct.find 0x0105 = some (.bundle (bundle .queued))
      ∧ Role.supervisor.mayName .l1 = true ∧ (withBundle .queued).ct.holdsOf (.bundle (bundle .queued)) = 0
      ∧ ((bundle .queued).parts.map (·.stock)).Nodup ∧ (withBundle .queued).fitted .l1 = true
      ∧ (bundle .routing).state ∉ [BundleState.queued, .picking, .stacked]
      ∧ leaves (.cancelBundle 0x20 1 0x0105) (withBundle .queued) (fun t => t.ct.find 0x0105 = none) = true
      ∧ replies (.cancelBundle 0x20 1 0x0105) (withBundle .routing) .state = true) :=
  ⟨supervisor_admits _ _ (by decide), by decide +kernel⟩

/-- CANCEL_BUNDLE of a bundle in the transport: with a pick outstanding, with an ending pending, in a leader, in
STACKED_WAIT, and in a pause of that (R76). -/
theorem witness_cancel_in_transport : awaiting.admits 0x23 0x20 1 .supervisor
    ∧ (let pending := { awaiting with ntc := { awaiting.ntc with pendingEnd := some (.failed .empty) } }
      let waits := { inNote .stackedWait (stackedBundle .stacked) with
        ntc := { (inNote .stackedWait (stackedBundle .stacked)).ntc with stackerCount := 1 } }
      let paused := { waits with ntc := { waits.ntc with state := .paused, saved := some .stackedWait } }
      awaiting.currentBundle = some (0x0105, bundle .picking) ∧ awaiting.ntc.pendingEnd = none
      ∧ awaiting.ntc.phase = .picking ∧ awaiting.ntc.pick ≠ none ∧ awaiting.dpl.queue = []
      ∧ awaiting.ct.holdsOf (.bundle (bundle .picking)) = 0 ∧ awaiting.ct.generationsLegal = true
      ∧ (inNote .leader (bundle .picking)).ntc.phase = .leader ∧ waits.ntc.phase = .stackedWait
      ∧ paused.ntc.phase = .stackedWait ∧ waits.ct.vault? = some (0x0102, ⟨5, 1000, .exact⟩)
      ∧ leaves (.cancelBundle 0x20 1 0x0105) awaiting
          (fun t => t.ntc.pendingEnd = some .cancelled && t.ntc.pick = some 0x0100) = true
      ∧ leaves (.cancelBundle 0x20 1 0x0105) pending
          (fun t => t.ntc.pendingEnd = some (.failed .empty)) = true
      ∧ leaves (.cancelBundle 0x20 1 0x0105) (inNote .leader (bundle .picking))
          (fun t => t.ntc.state = .idle && t.ct.find 0x0105 = none) = true
      ∧ leaves (.cancelBundle 0x20 1 0x0105) waits
          (fun t => t.ntc.state = .diverting && t.ntc.dump
            && t.ct.vault? = some (0x0102, ⟨6, 1000, .exact⟩)) = true
      ∧ leaves (.cancelBundle 0x20 1 0x0105) paused
          (fun t => t.ntc.saved = some .diverting && !t.ntc.dump) = true) :=
  ⟨supervisor_admits _ _ (by decide), by decide +kernel⟩

/-- An idle transport, its queue holding one bundle that the vault has space for. -/
def queuedIdle : State :=
  let s := withBundle .queued
  { s with ntc := { s.ntc with state := .idle }, dpl := { s.dpl with queue := [0x0105] } }

theorem witness_queue : queuedIdle.ntc.state = .idle ∧ queuedIdle.dpl.queue = [] ++ 0x0105 :: []
    ∧ queuedIdle.entryMeets (fun b => queuedIdle.mayStart b && queuedIdle.spaceFor b) 0x0105 = true
    ∧ queuedIdle.pauseInForce = false ∧ (zone queuedIdle 12 fun w => { w with pending := true }).pauseInForce
    ∧ { queuedIdle with dpl := { queuedIdle.dpl with queue := [] } }.dpl.queue = []
    ∧ queuedIdle.dpl.rvBlocked = false
    ∧ queuedIdle.examineQueue.ntc.current = some 0x0105 := by decide +kernel

theorem witness_rebuild : queuedIdle.ct.generationsLegal = true ∧ queuedIdle.dpl.sequence ≤ 65535
    ∧ (∀ p ∈ queuedIdle.ct.bundles, p.2.sequence ≤ 65535)
    ∧ queuedIdle.rebuildQueue.dpl.queue = [0x0105] := by decide +kernel

/-! ## The note transport -/

/-- What makes each of the five jam rows a jam, with a bundle in the transport. -/
def jamming : State := { underGauges with ntc := { underGauges.ntc with
  dumpTimer := .running 5, chuteTimer := .running 5, exitTimer := .running 5 } }

theorem witness_note_jams : jamming.noteJamRow .notePresenceLimit ∧ jamming.noteJamRow .stackerDumpTimeout
    ∧ jamming.noteJamRow .chuteTimeout ∧ jamming.noteJamRow .diverterExitTimeout
    ∧ jamming.noteJamRow .noteEncoderStall
    ∧ (jamming.ct.generationsLegal = true ∧ jamming.currentBundle = some (0x0105, bundle .picking)
      ∧ (0x0105 : Handle) ∉ jamming.dpl.queue
      ∧ leaves .diverterExitTimeout jamming
          (fun t => t.ntc.state = .jammed && t.ct.find 0x0105 = none) = true) :=
  ⟨⟨rfl, rfl⟩, rfl, rfl, rfl, rfl, by decide +kernel⟩

/-- A leader with a bundle, and the leader of a clear with and without an item seen. -/
def leading : State := inNote .leader (bundle .picking)

theorem witness_note_leaders : leading.ntc.state = .leader ∧ leading.ntc.motor = true
    ∧ leading.ntc.leader.dumping = false ∧ leading.gmu.note.item = none
    ∧ leading.currentBundle = some (0x0105, bundle .picking) ∧ leading.ntc.pendingEnd = none
    ∧ (bundle .picking).currentPart = some ⟨0x0100, 2, 1⟩
    ∧ wall.ntc.state = .leader ∧ wall.ntc.motor = true ∧ wall.ntc.current = none ∧ wall.dpl.queue = []
    ∧ wall.ct.generationsLegal = true ∧ wall.ntc.leader.itemSeen = false
    ∧ leaves (.noteLeaderEnd true) leading (fun t => t.ntc.pick = some 0x0100) = true
    ∧ leaves (.noteLeaderEnd true) wall (fun t => t.ntc.state = .idle) = true
    ∧ leaves (.noteLeaderEnd true)
        { wall with ntc := { wall.ntc with leader := ⟨true, 0, true, false⟩ } }
        (fun t => t.ntc.state = .jammed) = true
    ∧ leaves (.noteLeaderEnd false) wall (fun t => t.ntc.dump) = true := by decide +kernel

/-- A JAMMED transport under an OPEN DISPENSER grant. -/
def jammedNote : State :=
  grant { wall with ntc := { wall.ntc with state := .jammed, motor := false } } .dispenser .opened

theorem witness_clear_note : jammedNote.admits 0x57 0x30 1 .service
    ∧ (jammedNote.grantOpen .dispenser = true ∧ jammedNote.ct.holdDispenser = 0
      ∧ jammedNote.ct.holdReject = 0 ∧ jammedNote.ntc.state = .jammed ∧ jammedNote.pins.warning = false
      ∧ jammedNote.pauseInForce = false
      ∧ leaves (.clearTransportNote 0x30 1) jammedNote (fun t => t.ntc.motor) = true) :=
  ⟨service_admits _ _ (by decide), by decide +kernel⟩

/-- A GOOD note is counted and stacked; the one that reaches the length limit is LONG. -/
theorem witness_notes_counted : Measure.wf .note ⟨298, 103, 2, false⟩ = true
    ∧ underGauges.sampling .note = true ∧ jammedNote.sampling .note = false
    ∧ underGauges.gmu.note.item = some noteItem ∧ noteItem.stock = some ⟨0x0100, 101, 300⟩
    ∧ noteItem.classified = false ∧ underGauges.ct.stock? 0x0100 = some (stock .c1 10)
    ∧ (stock .c1 10).pickedOut < (stock .c1 10).loaded
    ∧ underGauges.currentBundle = some (0x0105, bundle .picking)
    ∧ (bundle .picking).currentPart = some ⟨0x0100, 2, 1⟩
    ∧ classifyNote ⟨298, 103, 2, false⟩ false 101 300 underGauges.set.lengthTolerance.value
        underGauges.set.skewNote.value = .good
    ∧ underGauges.ntc.pendingEnd = none
    ∧ underGauges.ct.vault? = some (0x0102, ⟨5, 1000, .exact⟩)
    ∧ underGauges.ct.generationsLegal = true
    ∧ estimate (max (noteItem.a.length 710) (noteItem.b.length 710)) 300 = 2
    ∧ leaves (.itemEnd .note ⟨298, 103, 2, false⟩) underGauges (fun t => t.ntc.stackerCount = 1) = true
    ∧ leaves .noteLengthLimit underGauges
        (fun t => t.ct.vault? = some (0x0102, ⟨7, 1000, .estimated⟩)) = true := by decide +kernel

/-- A pick failure below PICK_RETRY, one at it with a substitute (C3, of C1's denomination) and one at it
with none. -/
theorem witness_pick_failures :
    let last := { awaiting with ntc := { awaiting.ntc with pickFails := ⟨2, 0, 0, 0, 0⟩ } }
    let other := put last 6 (.stock (stock .c3 10))
    (awaiting.ntc.state = .picking ∧ awaiting.ntc.pickTimer.isRunning = true
      ∧ awaiting.ntc.pick = some 0x0100 ∧ awaiting.ct.stock? 0x0100 = some (stock .c1 10)
      ∧ awaiting.ntc.pendingEnd = none ∧ awaiting.currentBundle = some (0x0105, bundle .picking)
      ∧ (bundle .picking).currentPart = some ⟨0x0100, 2, 1⟩ ∧ awaiting.ntc.path = []
      ∧ awaiting.ct.generationsLegal = true
      ∧ awaiting.ntc.pickFails.get .c1 + 1 < awaiting.set.pickRetry
      ∧ last.set.pickRetry ≤ last.ntc.pickFails.get .c1 + 1 ∧ last.dpl.queue = []
      ∧ ((bundle .picking).parts.map (·.stock)).Nodup ∧ (stock .c1 10).quality.isDoubtful = false)
    ∧ other.candidates.find? (fun c => c.denom = 10 && !(bundle .picking).names c.handle
        && decide (1 ≤ c.available)) = some ⟨0x0106, .c3, 10, 97⟩
    ∧ (bundle .picking).parts.length < 5
    ∧ last.candidates.find? (fun c => c.denom = 10 && !(bundle .picking).names c.handle
        && decide (1 ≤ c.available)) = none
    ∧ leaves .pickFailure other (fun t => t.ntc.pick = some 0x0101
        && (t.ct.bundle? 0x0105).map (·.parts.length) = some 3) = true
    ∧ leaves .pickFailure last (fun t => t.ct.find 0x0105 = none) = true := by decide +kernel

/-- The last item of a bundle before its diverter exit. -/
def leaving (b : Bundle) : State :=
  let s := inNote .picking b
  { s with ntc := { s.ntc with path := [⟨some 0x0100, true, true⟩] } }

theorem witness_diverter_exit : (leaving (bundle .picking)).ntc.state = .picking
    ∧ (leaving (bundle .picking)).ntc.pick = none
    ∧ (leaving (bundle .picking)).ntc.path = [⟨some 0x0100, true, true⟩]
    ∧ (leaving (bundle .picking)).ntc.pendingEnd = none
    ∧ (leaving (bundle .picking)).pins.warning = false
    ∧ (leaving (bundle .picking)).currentBundle = some (0x0105, bundle .picking)
    ∧ (bundle .picking).complete = false ∧ (stackedBundle .picking).complete = true
    ∧ (leaving (stackedBundle .picking)).laneReady .l1 = true
    ∧ { leaving (stackedBundle .picking) with
        pins := { wall.pins with tray := ⟨true, false, false, false⟩ } }.laneReady .l1 = false
    ∧ leaves .diverterExit (leaving (bundle .picking)) (fun t => t.ntc.pick = some 0x0100) = true
    ∧ leaves .diverterExit (leaving (stackedBundle .picking)) (fun t => t.ntc.state = .routing) = true := by
  decide +kernel

/-- A bundle in the chute, one that waits in the stacker, and a dump. -/
theorem witness_leave_transport :
    let routing := inNote .routing (stackedBundle .routing)
    let offers := { routing with set := { routing.set with autoPresent := ⟨1, 0, 0, 0⟩ } }
    let wait : State :=
      let s := inNote .stackedWait (stackedBundle .stacked)
      { s with ntc := { s.ntc with stackerCount := 1, waitTimer := .running 9 } }
    let dump := { wall with ntc := { wall.ntc with state := .diverting, dump := true } }
    routing.ntc.state = .routing ∧ routing.currentBundle = some (0x0105, stackedBundle .routing)
      ∧ routing.set.autoPresent.get .l1 = 0 ∧ routing.dpl.queue = []
      ∧ leaves (.bundleArrival .l1) routing (fun t => t.laneFlag .l1 .bundleDelivered
          && (t.ldc.get .l1).state = .home) = true
      ∧ (offers.set.autoPresent.get .l1 = 1 ∧ offers.locked .l1 = false ∧ offers.pins.warning = false)
      ∧ leaves (.bundleArrival .l1) offers (fun t => (t.ldc.get .l1).state = .extending) = true
      ∧ wait.ntc.state = .stackedWait ∧ wait.ntc.waitTimer.isRunning = true
      ∧ wait.currentBundle = some (0x0105, stackedBundle .stacked) ∧ 0 < wait.ntc.stackerCount
      ∧ wait.pins.warning = false ∧ wait.ct.generationsLegal = true
      ∧ wait.ct.vault? = some (0x0102, ⟨5, 1000, .exact⟩)
      ∧ leaves .stackerWaitExpiry wait
          (fun t => t.ct.vault? = some (0x0102, ⟨6, 1000, .exact⟩) && t.ntc.dump) = true
      ∧ dump.ntc.state = .diverting ∧ dump.ntc.dump = true ∧ dump.dpl.queue = []
      ∧ leaves .stackerEmpty dump (fun t => t.ntc.state = .idle) = true := by decide +kernel

/-! ## Lanes and drawers -/

theorem witness_drawer_motions : wall.admits 0x30 0x20 1 .supervisor ∧ wall.admits 0x31 0x20 1 .supervisor
    ∧ (wall.locked .l1 = false ∧ wall.pins.warning = false ∧ laneOf 1 = some .l1
      ∧ wall.fitted .l1 = true ∧ Role.supervisor.mayName .l1 = true ∧ wall.routingInto .l1 = false
      ∧ (wall.ldc.get .l1).state = .home ∧ wall.notPresentable .l1 = false
      ∧ replies (.presentDrawer 0x20 1 1) wall .accepted = true
      ∧ replies (.retractDrawer 0x20 1 1) (lane wall fun d => { d with state := .out }) .accepted = true
      ∧ leaves (.takeTimerExpiry .l1) (lane wall fun d => { d with state := .out, take := .running 1 })
          (fun t => (t.ldc.get .l1).state = .retracting) = true
      ∧ leaves (.drawerMotionTimeout .l1)
          (lane wall fun d => { d with state := .extending, motor := true, motion := .running 1 })
          (fun t => (t.ldc.get .l1).state = .jammed) = true) :=
  ⟨supervisor_admits _ _ (by decide), supervisor_admits _ _ (by decide), by decide +kernel⟩

/-- The drawer of L1 on its way, over some custody; the tray of L1 as given. -/
def moving (s : State) (st : DrawerState) (occupied : Bool) : State :=
  lane { s with pins := { s.pins with
      tray := ⟨occupied, false, false, false⟩, home := ⟨false, true, true, true⟩ } }
    fun d => { d with state := st, motor := true, motion := .running 9 }

/-- A transit of L1 in slot 5. -/
def withTransit (st : TransitState) (dir : Direction) : State :=
  put wall 5 (.transit ⟨.l1, dir, 6, st, .exact⟩)

theorem witness_arrive_out :
    let s := moving (withBundle .delivered) .extending true
    let u := moving (withTransit .loaded .out) .extending true
    s.ct.generationsLegal = true ∧ s.fitted .l1 = true ∧ (s.ldc.get .l1).state = .extending
      ∧ s.pins.warning = false ∧ s.ct.consignment .l1 = some (.bundle 0x0105 (bundle .delivered))
      ∧ u.ct.consignment .l1 = some (.transit 0x0105 ⟨.l1, .out, 6, .loaded, .exact⟩)
      ∧ (moving wall .extending false).ct.consignment .l1 = none
      ∧ leaves (.drawerArriveOut .l1) s
          (fun t => t.ct.find 0x0105 = some (.bundle (bundle .presented))) = true
      ∧ leaves (.drawerArriveOut .l1) u (fun t => t.laneFlag .l1 .transitChange) = true := by
  decide +kernel

theorem witness_arrive_home :
    let taken := moving (withBundle .presented) .retracting false
    let back := moving (withBundle .presented) .retracting true
    let deposit := moving wall .retracting true
    taken.ct.generationsLegal = true ∧ taken.fitted .l1 = true ∧ (taken.ldc.get .l1).state = .retracting
      ∧ (taken.ldc.get .l1).restartHoming = false ∧ taken.ntc.state ≠ .stackedWait
      ∧ taken.ct.consignment .l1 = some (.bundle 0x0105 (bundle .presented))
      ∧ (bundle .presented).outbound = true ∧ taken.pins.tray.get .l1 = false
      ∧ back.pins.tray.get .l1 = true ∧ deposit.ct.consignment .l1 = none
      ∧ deposit.pins.tray.get .l1 = true ∧ deposit.ct.freeSlot = some 5
      ∧ deposit.ct.slots[5]? = some ⟨1, none⟩
      ∧ leaves (.drawerArriveHome .l1) taken
          (fun t => (t.ct.last.get .l1).map (·.ending) = some .taken) = true
      ∧ leaves (.drawerArriveHome .l1) back
          (fun t => t.ct.find 0x0105 = some (.bundle (bundle .retracted))) = true
      ∧ leaves (.drawerArriveHome .l1) deposit (fun t => t.ct.find 0x0105
          = some (.transit ⟨.l1, .inward, 0, .atTeller, .exact⟩)) = true := by decide +kernel

theorem witness_sensors :
    let out := moving (withBundle .presented) .out true
    out.fitted .l1 = true ∧ out.ct.generationsLegal = true
      ∧ out.ct.consignment .l1 = some (.bundle 0x0105 (bundle .presented))
      ∧ (bundle .presented).outbound = true ∧ out.pins.tray.get .l1 = true
      ∧ out.pins.home.get .l1 = false ∧ out.ntc.state ≠ .stackedWait
      ∧ leaves (.traySensorChange .l1 false) out (fun t => t.ct.find 0x0105 = none) = true
      ∧ wall.pins.home.get .l1 = true ∧ (wall.ldc.get .l1).motor = false
      ∧ (wall.ldc.get .l1).locks = 0 ∧ wall.blanked Lane.l1.forcingZone = false
      ∧ (wall.azu.zones[Lane.l1.forcingZone]).pending = false
      ∧ (wall.azu.zones[Lane.l1.forcingZone]).enable = true
      ∧ (wall.azu.zones[Lane.l1.forcingZone]).mode = .armed
      ∧ leaves (.drawerSwitchChange .l1 .home false) wall
          (fun t => t.locked .l1 && (t.ldc.get .l1).solenoid) = true := by
  decide +kernel

/-- The tray of L1 OCCUPIED, its drawer HOME. -/
def occupied : State := { wall with pins := { wall.pins with tray := ⟨true, false, false, false⟩ } }

theorem witness_declare : occupied.admits 0x32 0x20 1 .supervisor
    ∧ (Role.supervisor.mayName .l1 = true ∧ occupied.locked .l1 = false ∧ occupied.fitted .l1 = true
      ∧ occupied.ntc.state ≠ .stackedWait ∧ laneOf 1 = some .l1 ∧ (6 : Quad).toNat ≤ 65535
      ∧ occupied.routingInto .l1 = false ∧ occupied.pins.warning = false
      ∧ (occupied.ldc.get .l1).state = .home ∧ occupied.pins.tray.get .l1 = true
      ∧ occupied.ct.consignment .l1 = none ∧ occupied.ct.freeSlot = some 5
      ∧ occupied.ct.slots[5]? = some ⟨1, none⟩ ∧ (1 : Byte) ≠ 0
      ∧ leaves (.declareTransit 0x20 1 1 6) occupied (fun t => t.ct.find 0x0105
          = some (.transit ⟨.l1, .out, 6, .loaded, .exact⟩)) = true) :=
  ⟨supervisor_admits _ _ (by decide), by decide +kernel⟩

theorem witness_settlements : (withBundle .retracted).admits 0x33 0x20 1 .supervisor
    ∧ (withTransit .atTeller .inward).admits 0x34 0x20 1 .supervisor
    ∧ ((withBundle .retracted).ct.find 0x0105 = some (.bundle (bundle .retracted))
      ∧ (withBundle .retracted).ct.holdsOf (.bundle (bundle .retracted)) = 0
      ∧ ((withBundle .retracted).ldc.get .l1).state = .home
      ∧ (withBundle .retracted).pins.tray.get .l1 = false
      ∧ (withTransit .returned .out).ct.find 0x0105
          = some (.transit ⟨.l1, .out, 6, .returned, .exact⟩)
      ∧ (withTransit .atTeller .inward).ct.find 0x0105
          = some (.transit ⟨.l1, .inward, 6, .atTeller, .exact⟩)
      ∧ 1 ≤ (65535 : Quad).toNat ∧ (65535 : Quad).toNat ≤ 65535
      ∧ leaves (.resolveRetract 0x20 1 0x0105) (withBundle .retracted)
          (fun t => (t.ct.last.get .l1).map (·.ending) = some .handed) = true
      ∧ leaves (.resolveRetract 0x20 1 0x0105) (withTransit .returned .out)
          (fun t => t.ct.find 0x0105 = none) = true
      ∧ replies (.acceptDeposit 0x20 1 0x0105 65535) (withTransit .atTeller .inward) .ok = true
      ∧ replies (.acceptDeposit 0x20 1 0x0105 0) (withTransit .atTeller .inward) .badRequest = true) :=
  ⟨supervisor_admits _ _ (by decide), supervisor_admits _ _ (by decide), by decide +kernel⟩

/-- L1 locked by its forcing zone, its drawer stopped on its way; `c` is the context saved. -/
def lockedLane (c : SavedContext) : State :=
  let s := moving (withBundle .presented) .stopped true
  lane s fun d => { d with motor := false, motion := .stopped, solenoid := true, locks := zoneBit 4, saved := some c }

theorem witness_locks : (lockedLane ⟨.out, none, some 0x0105, true⟩).admits 0x35 0x20 1 .supervisor
    ∧ (lockedLane ⟨.out, none, some 0x0105, true⟩).admits 0x36 0x20 1 .supervisor
    ∧ (let s := lockedLane ⟨.out, none, some 0x0105, true⟩
      let h := lockedLane ⟨.home, none, some 0x0105, true⟩
      laneOf 1 = some .l1 ∧ s.fitted .l1 = true ∧ s.locked .l1 = true
      ∧ (zone s 4 fun w => { w with pending := true }).causesPending .l1 ≠ 0
      ∧ s.causesPending .l1 = 0 ∧ s.pins.warning = false ∧ s.dpl.queue = []
      ∧ s.ntc.state ≠ .stackedWait ∧ s.resumesOut .l1 = true ∧ s.pins.out.get .l1 = false
      ∧ h.resumesOut .l1 = false ∧ h.pins.home.get .l1 = false
      ∧ leaves (.resumeLane 0x20 1 1) s (fun t => (t.ldc.get .l1).state = .extending
          && !(t.ldc.get .l1).solenoid) = true
      ∧ leaves (.resumeLane 0x20 1 1) h (fun t => (t.ldc.get .l1).state = .retracting) = true
      ∧ (s.ldc.get .l1).restartHoming = false
      ∧ replies (.resumeLane 0x20 1 1) (zone s 4 fun w => { w with pending := true }) .state = true
      ∧ leaves (.resumeLane 0x20 1 1) wall
          (fun t => t.slp.response = some ⟨0x35, .state, .zonesPending 0⟩) = true) :=
  ⟨supervisor_admits _ _ (by decide), supervisor_admits _ _ (by decide), by decide +kernel⟩

theorem witness_lane_reset :
    let s := moving wall .out false
    let k := lockedLane ⟨.out, none, some 0x0105, true⟩
    s.locked .l1 = false ∧ (s.ldc.get .l1).state ≠ .home ∧ s.pins.home.get .l1 = false
      ∧ s.pins.warning = false ∧ k.locked .l1 = true ∧ (k.ldc.get .l1).state ≠ .jammed
      ∧ (k.ldc.get .l1).saved = some ⟨.out, none, some 0x0105, true⟩
      ∧ leaves (.laneReset 0x20 1 1) s (fun t => (t.ldc.get .l1).state = .retracting) = true
      ∧ leaves (.laneReset 0x20 1 1) k
          (fun t => (t.ldc.get .l1).saved = some ⟨.retracting, none, some 0x0105, true⟩) = true := by
  decide +kernel

/-! ## Envelopes -/

/-- An idle envelope transport with both throats OPEN. -/
def openThroats : State := { wall with ecc := { wall.ecc with
  state := .idle, motor := false
  throats := ⟨⟨.opened, true, .stopped, false, none⟩, ⟨.opened, true, .stopped, false, none⟩⟩ } }

theorem witness_throat : openThroats.pins.throat.get .t1 = false
    ∧ (openThroats.ecc.throats.get .t1).state = .opened ∧ openThroats.ecc.state = .idle
    ∧ openThroats.pins.warning = false ∧ openThroats.azu.grants.capture.state = .closed
    ∧ openThroats.openCondition = true ∧ openThroats.pauseInForce = false
    ∧ (openThroats.ecc.throats.get Throat.t1.other).state ∉ [ThroatState.waiting, .returnWait]
    ∧ leaves (.throatSensorChange .t1 true) openThroats (fun t => t.ecc.lastServed = .t1) = true := by
  decide +kernel

/-- The other throat waits too: the one not served last is taken. -/
theorem witness_two_throats :
    let s := { openThroats with ecc := { openThroats.ecc with
      throats := { openThroats.ecc.throats with t2 := ⟨.waiting, true, .stopped, false, none⟩ }, lastServed := .t1 } }
    s.pins.throat.get .t1 = false ∧ (s.ecc.throats.get .t1).state = .opened ∧ s.ecc.state = .idle
      ∧ s.pins.warning = false ∧ s.azu.grants.capture.state = .closed ∧ s.openCondition = true
      ∧ s.pauseInForce = false ∧ (s.ecc.throats.get Throat.t1.other).state = .waiting
      ∧ leaves (.throatSensorChange .t1 true) s (fun t => t.ecc.lastServed = .t2
          && t.ecc.throats.t1.state = .waiting) = true := by decide +kernel

theorem witness_env_leader : (inEnv .leader letter).ecc.state = .leader
    ∧ (inEnv .leader letter).ecc.motor = true ∧ (inEnv .leader letter).gmu.envelope.item = none
    ∧ (inEnv .leader letter).ecc.current = some letter ∧ letter.recapture = false
    ∧ leaves .envelopeLeaderEnd (inEnv .leader letter) (fun t => t.ecc.feed = .inward) = true := by
  decide +kernel

theorem witness_env_accepted :
    let s := gauging (inEnv .measuring letter)
    Measure.wf .envelope ⟨440, 4000, 1, false⟩ = true ∧ s.gmu.envelope.item = some envItem
      ∧ s.sampling .envelope = true ∧ openThroats.sampling .envelope = false
      ∧ envItem.classified = false ∧ s.ecc.state = .measuring ∧ s.ecc.current = some letter
      ∧ classifyEnvelope s.set ⟨440, 4000, 1, false⟩ false = .accept ∧ s.chooseBin false = some .b1
      ∧ leaves (.itemEnd .envelope ⟨440, 4000, 1, false⟩) s (fun t => t.ecc.state = .forward) = true
      ∧ s.pins.warning = false ∧ s.pins.throat.get .t1 = false
      ∧ leaves (.envelopeLengthLimit 16316 3) s (fun t => t.ecc.state = .reversing) = true := by
  decide +kernel

theorem witness_intake_limit :
    let s := { inEnv .measuring letter with ecc :=
      { (inEnv .measuring letter).ecc with intakeTimer := .running 1 } }
    s.ecc.state = .measuring ∧ s.ecc.current = some letter ∧ s.ecc.intakeTimer.isRunning = true
      ∧ s.pins.throat.get .t1 = false
      ∧ (s.ecc.throats.get Throat.t1.other).state ∉ [ThroatState.waiting, .returnWait]
      ∧ leaves .intakeTimeout s (fun t => t.ecc.state = .idle) = true := by decide +kernel

/-- An intake limit with the other throat waiting, and with the envelope still in the mouth, the throats offered
and not. -/
theorem witness_intake_limit_retakes :
    let s := { inEnv .measuring letter with ecc :=
      { (inEnv .measuring letter).ecc with intakeTimer := .running 1, lastServed := .t1 } }
    let waits := { s with ecc := { s.ecc with
      throats := { s.ecc.throats with t2 := ⟨.waiting, true, .stopped, false, none⟩ } } }
    let here := { s with pins := { s.pins with throat := ⟨true, false⟩ } }
    let off := { here with set := { here.set with captureEnable := 0 } }
    (waits.ecc.throats.get Throat.t1.other).state = .waiting ∧ waits.openCondition = true
      ∧ waits.azu.grants.capture.state = .closed ∧ waits.pauseInForce = false
      ∧ leaves .intakeTimeout waits (fun t => t.ecc.lastServed = .t2) = true
      ∧ here.pins.throat.get .t1 = true ∧ here.openCondition = true ∧ off.openCondition = false
      ∧ leaves .intakeTimeout here (fun t => t.ecc.state = .leader && t.ecc.lastServed = .t1) = true
      ∧ leaves .intakeTimeout off (fun t => t.ecc.throats.t1.state = .waiting && t.ecc.state = .idle) = true := by
  decide +kernel

/-- An envelope of class RETURN, one with no bin to go to, and the leader of a recapture. -/
theorem witness_env_returned :
    let s := gauging (inEnv .measuring letter)
    let held := { s with ct := { s.ct with holdCapture := 1 } }
    let again := { letter with recapture := true, meas := some ⟨440, 4000, 1, false⟩ }
    classifyEnvelope s.set ⟨440, 16000, 1, false⟩ false = .handBack .thick
      ∧ classifyEnvelope s.set ⟨440, 4000, 30, false⟩ false = .handBack .skew
      ∧ held.chooseBin false = none ∧ held.sampling .envelope = true
      ∧ leaves (.itemEnd .envelope ⟨440, 16000, 1, false⟩) s (fun t => t.ecc.state = .reversing) = true
      ∧ leaves (.itemEnd .envelope ⟨440, 4000, 30, false⟩) s (fun t => t.ecc.state = .reversing) = true
      ∧ leaves (.itemEnd .envelope ⟨440, 4000, 1, false⟩) held (fun t => t.ecc.state = .reversing) = true
      ∧ (inEnv .leader again).gmu.envelope.item = none ∧ again.recapture = true
      ∧ leaves .envelopeLeaderEnd (inEnv .leader again) (fun t => t.ecc.state = .recapture
          && t.ecc.current.bind (·.dest) = some .b1 && !t.gmu.envelope.measuring) = true := by decide +kernel

/-- A return wait that runs out with the transport IDLE, with an ACTIVE bin and with the bins held. -/
theorem witness_wait_out_idle :
    let s := { openThroats with ecc := { openThroats.ecc with
      throats := { openThroats.ecc.throats with t1 := ⟨.returnWait, true, .running 2, false, none⟩ } } }
    let held := { s with ct := { s.ct with holdCapture := 1 } }
    (s.ecc.throats.get .t1).state = .returnWait ∧ (s.ecc.throats.get .t1).wait.isRunning = true
      ∧ s.ecc.state = .idle ∧ s.ct.activeBin ≠ none ∧ s.ct.holdCapture = 0
      ∧ s.azu.grants.capture.state = .closed ∧ s.pins.warning = false ∧ s.pauseInForce = false
      ∧ (s.ecc.throats.get Throat.t1.other).state = .opened ∧ held.ct.holdCapture ≠ 0
      ∧ leaves (.returnWaitExpiry .t1) s (fun t => t.ecc.state = .leader
          && t.ecc.current.map (·.recapture) = some true) = true
      ∧ leaves (.returnWaitExpiry .t1) held (fun t => t.ecc.state = .idle && t.ecc.throats.t1.overdue) = true := by
  decide +kernel

/-- The letter measured and accepted, and past the gate. -/
def forwarded : CurrentEnv :=
  { letter with cls := some .accept, meas := some ⟨440, 4000, 1, false⟩, dest := some .b1 }

theorem witness_gate :
    let s := { inEnv .forward forwarded with ecc :=
      { (inEnv .forward forwarded).ecc with nextNumber := 999999 } }
    s.ecc.state = .forward ∧ s.ecc.current = some forwarded ∧ forwarded.number = none
      ∧ s.destination forwarded = some .b1
      ∧ leaves .gatePassage s (fun t => t.ecc.nextNumber = 1 && t.ecc.selector = .b1) = true := by
  decide +kernel

theorem witness_imprinter :
    let e := { forwarded with number := some 7, printing := true }
    (inEnv .forward e).ecc.current = some e ∧ e.printing = true
      ∧ leaves (.imprinterReport true) (inEnv .forward e)
          (fun t => t.ecc.current.map (·.imprinted) = some true) = true := by decide +kernel

/-- The last place of B1 is filled: B1 is FULL and B2 takes over. -/
theorem witness_bin_entry :
    let e := { forwarded with number := some 7 }
    let s := put (inEnv .forward e) 3 (.bin ⟨.b1, 79, 0, 80, 350000, .active, .exact⟩)
    s.ecc.state = .forward ∧ s.ecc.current = some e ∧ e.number = some 7 ∧ e.dest = some .b1
      ∧ e.meas = some ⟨440, 4000, 1, false⟩
      ∧ s.ct.binAt .b1 = some (0x0103, ⟨.b1, 79, 0, 80, 350000, .active, .exact⟩)
      ∧ s.ct.generationsLegal = true ∧ s.ct.freeSlot = some 5 ∧ s.ct.slots[5]? = some ⟨1, none⟩
      ∧ (s.ecc.throats.get Throat.t1.other).state ∉ [ThroatState.waiting, .returnWait]
      ∧ s.ct.binAt .b2 = some (0x0104, ⟨.b2, 0, 0, 80, 350000, .standby, .exact⟩)
      ∧ leaves (.binEntry .b1) s (fun t => t.ct.find 0x0105
          = some (.envelope ⟨7, .t1, .inBin 0x0103 .b1, 440, 4000, false, false, false, .exact⟩)
          && t.wallFlag .binSwitch) = true := by decide +kernel

/-- What makes each of the four jam rows a jam. -/
def jammingEnv : State :=
  let s := gauging (inEnv .forward forwarded)
  { s with ecc := { s.ecc with forwardTimer := .running 5, returnTimer := .running 5 } }

theorem witness_env_jams : jammingEnv.envJamRow .envelopePresenceLimit
    ∧ jammingEnv.envJamRow .forwardTimeout ∧ jammingEnv.envJamRow .returnTimeout
    ∧ jammingEnv.envJamRow .envelopeEncoderStall
    ∧ (jammingEnv.ct.generationsLegal = true
      ∧ jammingEnv.ct.activeBin = some (0x0103, ⟨.b1, 0, 0, 80, 350000, .active, .exact⟩)
      ∧ jammingEnv.ct.binAt .b1 = some (0x0103, ⟨.b1, 0, 0, 80, 350000, .active, .exact⟩)
      ∧ jammingEnv.ecc.current = some forwarded
      ∧ leaves .forwardTimeout jammingEnv (fun t => t.ct.find 0x0103
          = some (.bin ⟨.b1, 0, 0, 80, 350000, .active, .doubtful .jam⟩)) = true) :=
  ⟨⟨rfl, rfl⟩, rfl, rfl, rfl, by decide +kernel⟩

/-- A JAMMED envelope transport under an OPEN CAPTURE grant. -/
def jammedEnv : State :=
  grant { wall with ecc := { wall.ecc with state := .jammed, motor := false } } .capture .opened

theorem witness_clear_env : jammedEnv.admits 0x57 0x30 1 .service
    ∧ (jammedEnv.grantOpen .capture = true ∧ jammedEnv.ct.holdCapture = 0
      ∧ jammedEnv.ecc.state = .jammed ∧ jammedEnv.pins.warning = false
      ∧ jammedEnv.pauseInForce = false
      ∧ leaves (.clearTransportEnvelope 0x30 1) jammedEnv (fun t => t.ecc.motor) = true) :=
  ⟨service_admits _ _ (by decide), by decide +kernel⟩

/-- T1 in a state, its return wait and the recapture limit running. -/
def throat (s : State) (st : ThroatState) : State := { s with ecc := { s.ecc with
  throats := ⟨⟨st, true, .running 2, false, none⟩, s.ecc.throats.t2⟩, recaptureTimer := .running 2 } }

theorem witness_returns :
    let s := throat (inEnv .reversing forwarded) .returning
    let w := throat wall .returnWait
    s.ecc.current = some forwarded ∧ (s.ecc.throats.get .t1).state = .returning
      ∧ s.pins.throat.get .t1 = false
      ∧ (s.ecc.throats.get Throat.t1.other).state ∉ [ThroatState.waiting, .returnWait]
      ∧ leaves (.throatSensorChange .t1 true) s (fun t => t.ecc.state = .idle) = true
      ∧ (w.ecc.throats.get .t1).state = .returnWait ∧ (w.ecc.throats.get .t1).wait.isRunning = true
      ∧ w.ecc.state ≠ .idle
      ∧ leaves (.returnWaitExpiry .t1) w (fun t => (t.ecc.throats.get .t1).overdue) = true := by
  decide +kernel

/-- A recapture limit: at the mouth with both bins held, and with an ACTIVE bin, the other throat overdue or
not; stuck inside; and drawn off by the customer. -/
theorem witness_recapture :
    let at_ (here atFeed : Bool) (other : ThroatUnit) : State :=
      let s := throat (inEnv .recapture { forwarded with recapture := true, sensorAtFeed := atFeed }) .intake
      { s with
        pins := { s.pins with throat := ⟨here, false⟩ }
        ecc := { s.ecc with throats := ⟨s.ecc.throats.t1, other⟩, lastServed := .t1, motor := false } }
    let shut : ThroatUnit := ⟨.closed, false, .stopped, false, none⟩
    let late : ThroatUnit := ⟨.returnWait, true, .stopped, true, some ⟨430, 900, 2, false⟩⟩
    let s := at_ true true shut
    let held := { s with ct := { s.ct with holdCapture := zoneBit 10 } }
    s.ecc.state = .recapture
      ∧ s.ecc.current = some { forwarded with recapture := true, sensorAtFeed := true }
      ∧ s.ecc.recaptureTimer.isRunning = true ∧ s.azu.grants.capture.state = .closed
      ∧ s.pins.throat.get .t1 = true ∧ (at_ false true shut).pins.throat.get .t1 = false
      ∧ s.ct.activeBin ≠ none ∧ s.ct.holdCapture = 0 ∧ held.ct.holdCapture ≠ 0
      ∧ s.pins.warning = false ∧ s.pauseInForce = false ∧ (at_ true true late).ecc.lastServed = .t1
      ∧ leaves .recaptureTimeout held
          (fun t => t.ecc.state = .idle && (t.ecc.throats.get .t1).overdue) = true
      ∧ leaves .recaptureTimeout s (fun t => t.ecc.state = .leader
          && t.ecc.current.map (·.throat) = some .t1) = true
      ∧ leaves .recaptureTimeout (at_ true true late) (fun t => t.ecc.state = .leader
          && t.ecc.current.map (·.throat) = some .t2
          && (t.ecc.throats.get .t1).overdue) = true
      ∧ leaves .recaptureTimeout (at_ false true shut) (fun t => t.ecc.state = .jammed) = true
      ∧ leaves .recaptureTimeout (at_ false false shut) (fun t => t.ecc.state = .idle) = true := by
  decide +kernel

/-! ## The exchange -/

/-- A DISPENSER grant OPEN over C1's stock, on which nothing stands; C3 is empty. -/
def exchanging : State := grant (put wall 0 (.stock (fresh .c1 10))) .dispenser .opened

/-- 07, section 7.6: figures above and below their ranges are clamped. -/
theorem witness_load : exchanging.admits 0x50 0x30 1 .service
    ∧ (posOf 3 = some .c3 ∧ exchanging.grantOpen .dispenser = true
      ∧ exchanging.ct.generationsLegal = true ∧ 1 ≤ (10 : Quad).toNat ∧ (10 : Quad).toNat ≤ 65535
      ∧ exchanging.ct.stockAt .c3 = none ∧ exchanging.pins.presence.get .c3 = true
      ∧ exchanging.ct.freeSlot = some 5 ∧ exchanging.ct.slots[5]? = some ⟨1, none⟩
      ∧ leaves (.loadCassette 0x30 1 3 10 3200 300 95) exchanging (fun t => t.slp.response
          = some ⟨0x50, .ok, .loaded 0x0105 3000 250 100 187 312 150 250⟩) = true) :=
  ⟨service_admits _ _ (by decide), by decide +kernel⟩

theorem witness_unload : exchanging.admits 0x51 0x30 1 .service ∧ exchanging.admits 0x52 0x20 1 .supervisor
    ∧ (posOf 1 = some .c1 ∧ exchanging.ct.stockAt .c1 = some (0x0100, fresh .c1 10)
      ∧ exchanging.ct.holdDispenser = 0 ∧ (fresh .c1 10).reserved = 0 ∧ (fresh .c1 10).inBundles = 0
      ∧ (∀ q ∈ exchanging.ct.bundles, q.2.names 0x0100 = false)
      ∧ leaves (.unloadCassette 0x30 1 1) exchanging (fun t => t.ct.find 0x0100 = none) = true
      ∧ (90 : Half).toNat ≤ 3000 ∧ exchanging.pins.presence.get .c1 = true
      ∧ (fresh .c1 10).reserved ≤ (90 : Half).toNat
      ∧ leaves (.reconcile 0x20 1 1 90) exchanging (fun t =>
          (t.ct.stock? 0x0100).map (·.remaining) = some 90) = true) :=
  ⟨service_admits _ _ (by decide), supervisor_admits _ _ (by decide), by decide +kernel⟩

theorem witness_presence : wall.pins.presence.get .c1 = true ∧ wall.ct.stockAt .c3 = none
    ∧ wall.ct.stockAt .c1 = some (0x0100, stock .c1 10) ∧ wall.dpl.queue = [] ∧ wall.ntc.current = none
    ∧ wall.ct.generationsLegal = true
    ∧ leaves (.presenceSwitchOpen .c1) wall (fun t => t.wallFlag .stockDoubt) = true
    ∧ leaves (.presenceSwitchClose .c1) wall (fun t => t.pins.presence.c1) = true := by decide +kernel

/-- A REJECT grant OPEN over an idle note transport. -/
def emptying : State := grant { wall with ntc := { wall.ntc with state := .idle } } .reject .opened

theorem witness_vault : emptying.admits 0x53 0x30 1 .service ∧ emptying.admits 0x54 0x20 1 .supervisor
    ∧ (emptying.ct.generationsLegal = true ∧ emptying.grantOpen .reject = true
      ∧ emptying.vaultBusy = false ∧ emptying.dpl.queue = [] ∧ emptying.ct.freeSlot ≠ none
      ∧ emptying.ct.vault? = some (0x0102, ⟨5, 1000, .exact⟩) ∧ (14 : Half).toNat ≤ 1000
      ∧ leaves (.emptyRejectVault 0x30 1) emptying (fun t =>
          t.ct.vault? = some (0x0202, ⟨0, 1000, .exact⟩)) = true
      ∧ leaves (.reconcileRv 0x20 1 14) emptying (fun t =>
          t.ct.vault? = some (0x0102, ⟨14, 1000, .exact⟩)) = true) :=
  ⟨service_admits _ _ (by decide), supervisor_admits _ _ (by decide), by decide +kernel⟩

/-- A CAPTURE grant OPEN over an idle envelope transport, an unclaimed and a claimed envelope in B1. -/
def collecting : State :=
  grant { (put (put letters 7
      (.envelope ⟨11, .t2, .inBin 0x0103 .b1, 440, 4000, true, false, true, .exact⟩))
      6 (.stock (fresh .c5 50))) with ecc := { wall.ecc with state := .idle, motor := false } }
    .capture .opened

theorem witness_collect : collecting.admits 0x55 0x30 1 .service
    ∧ (collecting.ct.generationsLegal = true ∧ binOf 1 = some .b1
      ∧ collecting.grantOpen .capture = true
      ∧ collecting.ct.binAt .b1 = some (0x0103, ⟨.b1, 0, 0, 80, 350000, .active, .exact⟩)
      ∧ collecting.ct.holdCapture = 0 ∧ collecting.clearingEnv = false
      ∧ collecting.ct.find 0x0105
          = some (.envelope ⟨9, .t1, .inBin 0x0103 .b1, 440, 4000, true, false, false, .exact⟩)
      ∧ collecting.ct.find 0x0107
          = some (.envelope ⟨11, .t2, .inBin 0x0103 .b1, 440, 4000, true, false, true, .exact⟩)
      ∧ leaves (.collectBin 0x30 1 1) collecting (fun t => t.ct.find 0x0105 = none
          && t.ct.find 0x0107
            = some (.envelope ⟨11, .t2, .collected, 440, 4000, true, false, true, .exact⟩)
          && t.slp.response = some ⟨0x55, .ok,
            .collected ⟨.b1, 0, 0, 80, 350000, .active, .exact⟩ (some 9) (some 11) 1 1⟩) = true) :=
  ⟨service_admits _ _ (by decide), by decide +kernel⟩

/-- COLLECT_BIN of an empty bin: no lowest and no highest number. -/
theorem test_collect_empty : leaves (.collectBin 0x30 1 2) collecting (fun t => t.slp.response = some ⟨0x55, .ok,
    .collected ⟨.b2, 0, 0, 80, 350000, .standby, .exact⟩ none none 0 0⟩) = true := by decide +kernel

theorem witness_insert :
    (grant State.reset .capture .opened).admits 0x56 0x30 1 .service
    ∧ (binOf 2 = some .b2 ∧ (grant State.reset .capture .opened).ct.binAt .b2 = none
      ∧ (grant State.reset .capture .opened).ct.generationsLegal = true
      ∧ (grant State.reset .capture .opened).ct.freeSlot = some 0
      ∧ (grant State.reset .capture .opened).ct.slots[0]? = some ⟨1, none⟩
      ∧ leaves (.insertBin 0x30 1 2) (grant State.reset .capture .opened) (fun t =>
          t.ct.find 0x0100 = some (.bin ⟨.b2, 0, 0, 80, 350000, .active, .exact⟩)) = true) :=
  ⟨service_admits _ _ (by decide), by decide +kernel⟩

/-! ## Zones and grants -/

/-- A scan cycle from channel 9 round to channel 2 (R136). -/
theorem test_scan_cycle :
    leaves .scanCycleStart { wall with set := { wall.set with scanStart := 9, scanEnd := 2 } }
      (fun t => t.azu.cycle = [9, 10, 11, 12, 13, 14, 15, 0, 1, 2, 3]
        && t.azu.zones[(8 : ZoneId)].cls = .unscanned) = true := by decide +kernel

/-- A third conversion in a row in a band changes the class; 400 and 1,800 begin the next band (R137). -/
theorem witness_conversions :
    let s := zone wall 0 fun w => { w with candidate := .tripped, count := 2 }
    s.azu.cycle[s.azu.converted]? = some 0
      ∧ (LoopClass.tripped ≠ (s.azu.zones[(0 : ZoneId)]).cls)
      ∧ leaves (.loopConversion 1800) s (fun t => t.azu.zones[(0 : ZoneId)].pending) = true
      ∧ leaves (.loopConversion 400) s (fun t => t.azu.zones[(0 : ZoneId)].candidate = .normal) = true
      ∧ (zone wall 0 fun w => { w with cls := .normal }).azu.zones[(0 : ZoneId)].cls = .normal := by
  decide +kernel

/-- A trip of the REJECT door, one deferred by its OPEN grant, and an end of trouble. -/
theorem witness_loop_change : (Instr.loopClassChange 9 .tripped).wf = true ∧ 9 ∈ wall.azu.cycle
    ∧ (wall.azu.zones[(9 : ZoneId)]).cls ≠ .tripped ∧ wall.blanked 9 = false
    ∧ (grant wall .reject .opened).blanked 9 = true
    ∧ leaves (.loopClassChange 9 .tripped) wall (fun t => t.ct.holdReject = zoneBit 9) = true
    ∧ leaves (.loopClassChange 9 .tripped) (grant wall .reject .opened)
        (fun t => t.azu.zones[(9 : ZoneId)].deferred = .loop) = true
    ∧ leaves (.loopClassChange 9 .openLoop) wall (fun t => t.azu.zones[(9 : ZoneId)].trouble) = true := by
  decide +kernel

/-- A forcing window's tail with no deferred event, and with one that stands or does not. -/
theorem witness_tails :
    let s := { wall with azu := { wall.azu with forcing := wall.azu.forcing.put .l1 ⟨true, .running 1⟩ } }
    let d (closed : Bool) := zone s 4 fun w => { w with deferred := .forcing .home closed }
    (s.azu.forcing.get .l1).tail.isRunning = true
      ∧ (s.azu.zones[Lane.l1.forcingZone]).deferred = .clear
      ∧ ((d false).azu.zones[Lane.l1.forcingZone]).deferred = .forcing .home false
      ∧ (d false).switchAt .l1 .home ≠ false ∧ (d true).switchAt .l1 .home = true
      ∧ leaves (.blankingTailExpiry 4) (d true) (fun t => t.azu.zones[(4 : ZoneId)].pending) = true
      ∧ leaves (.blankingTailExpiry 4) (d false) (fun t => !t.azu.zones[(4 : ZoneId)].pending) = true := by
  decide +kernel

/-- What brings a zone into force: a trip of the REJECT or CAPTURE door, and the enable of the pending Z12. -/
theorem witness_into_force (s : State)
    (h : (let w := s.azu.zones[(9 : ZoneId)]
      decide ((9 : ZoneId) ∈ s.azu.cycle) && w.cls != .tripped && !s.blanked 9 && w.enable && !w.pending
        && w.mode = .armed) = true) : s.bringsIntoForce 9 (.loopClassChange 9 .tripped) := by
  simp only [Bool.and_eq_true, decide_eq_true_eq, bne_iff_ne, Bool.not_eq_true'] at h
  exact ⟨h.2, .inl ⟨rfl, h.1.1.1.1.1, rfl, h.1.1.1.1.2, h.1.1.1.2, h.1.1.2, h.1.2⟩⟩

theorem witness_notes_held :
    (inNote .picking (bundle .picking)).bringsIntoForce 9 (.loopClassChange 9 .tripped)
    ∧ { wall with ntc := { wall.ntc with state := .idle } }.ntc.phase = .idle ∧ holdsReject 9 = true
    ∧ (inNote .picking (bundle .picking)).ntc.phase = .picking
    ∧ (inNote .picking (bundle .picking)).ct.generationsLegal = true
    ∧ (leading.ntc.phase = .leader ∧ leading.ntc.current ≠ none)
    ∧ leaves (.loopClassChange 9 .tripped) (inNote .picking (bundle .picking))
        (fun t => t.ntc.state = .jammed && t.ct.find 0x0105 = none
          && t.ct.vault?.map (·.2.quality) = some (.doubtful .door)) = true
    ∧ leaves (.loopClassChange 9 .tripped) { wall with ntc := { wall.ntc with state := .idle } }
        (fun t => t.ntc.state = .idle) = true :=
  ⟨witness_into_force _ (by decide +kernel), by decide +kernel⟩

theorem witness_capture_held : (letters.bringsIntoForce 10 (.loopClassChange 10 .tripped))
    ∧ holdsCapture 10 = true
    ∧ leaves (.loopClassChange 10 .tripped) letters (fun t => t.ct.find 0x0103
          = some (.bin ⟨.b1, 0, 0, 80, 350000, .active, .doubtful .door⟩)
        && t.ct.find 0x0105
          = some (.envelope ⟨9, .t1, .inBin 0x0103 .b1, 440, 4000, true, false, false, .doubtful .door⟩)
        && t.ct.find 0x0106
          = some (.envelope ⟨9, .t1, .collected, 440, 4000, true, false, true, .exact⟩)) = true
    ∧ (inEnv .measuring letter).pins.throat.get .t1 = false
    ∧ leaves (.loopClassChange 10 .tripped) (inEnv .measuring letter)
        (fun t => t.ecc.state = .reversing && t.ecc.returnTimer = .running 3000) = true
    ∧ leaves (.loopClassChange 10 .tripped) (inEnv .forward forwarded)
        (fun t => t.ecc.state = .reversing) = true
    ∧ leaves (.loopClassChange 10 .tripped) (inEnv .leader letter)
        (fun t => t.ecc.state = .idle && (t.ecc.throats.get .t1).state = .waiting) = true
    ∧ leaves (.loopClassChange 10 .tripped) (inEnv .leader { letter with recapture := true })
        (fun t => t.ecc.state = .idle && (t.ecc.throats.get .t1).overdue) = true
    ∧ leaves (.loopClassChange 10 .tripped) (inEnv .forward { forwarded with number := some 7 })
        (fun t => t.ecc.state = .forward && t.ecc.motor) = true :=
  ⟨⟨by decide +kernel, .inl ⟨rfl, by decide +kernel⟩⟩, by decide +kernel⟩

/-- PICKING and FORWARD with an imprint under way, Z12 pending and not enabled. -/
def shaken : State :=
  let s := inNote .picking (bundle .picking)
  zone { s with ecc := { s.ecc with
      state := .forward, current := some { forwarded with number := some 7, printing := true } } } 12
    fun w => { w with pending := true, enable := false }

theorem witness_pause : shaken.bringsIntoForce 12 (.setZoneEnable 0x20 1 (zoneBit 12))
    ∧ shaken.imprinterOn = true ∧ shaken.ct.generationsLegal = true
    ∧ leaves (.setZoneEnable 0x20 1 (zoneBit 12)) shaken (fun t => t.ntc.state = .paused
        && t.ntc.saved = some .picking && t.ecc.saved = some .forward && !t.imprinterOn) = true :=
  ⟨⟨by decide +kernel, .inr ⟨_, _, _, rfl, supervisor_admits _ _ (by decide), by decide +kernel⟩⟩,
    by decide +kernel⟩

theorem witness_restore : wall.admits 0x60 0x20 1 .supervisor
    ∧ (let s := zone wall 9 fun w => { w with cls := .normal, pending := true }
      zoneOf 9 = some 9 ∧ (wall.azu.zones[(9 : ZoneId)]).cls = .undetermined
      ∧ (s.azu.zones[(9 : ZoneId)]).cls ≠ .tripped ∧ (s.azu.zones[(9 : ZoneId)]).cls ≠ .undetermined
      ∧ replies (.restoreZone 0x20 1 9) wall .state = true
      ∧ leaves (.restoreZone 0x20 1 9) s (fun t => !t.azu.zones[(9 : ZoneId)].pending) = true) :=
  ⟨supervisor_admits _ _ (by decide), by decide +kernel⟩

theorem witness_zone_requests : wall.admits 0x61 0x20 1 .supervisor ∧ wall.admits 0x62 0x20 1 .supervisor
    ∧ wall.admits 0x63 0x20 1 .supervisor ∧ wall.admits 0x64 0x30 1 .service
    ∧ wall.admits 0x65 0x30 1 .service
    ∧ (let test := zone wall 9 fun w => { w with mode := .test, cls := .normal }
      (wall.azu.zones[(9 : ZoneId)]).mode = .armed ∧ isHoldup 9 = false
      ∧ (wall.azu.zones[(9 : ZoneId)]).pending = false
      ∧ ((zone wall 9 fun w => { w with pending := true }).azu.zones[(9 : ZoneId)]).pending = true
      ∧ (test.azu.zones[(9 : ZoneId)]).mode = .test ∧ (test.azu.zones[(9 : ZoneId)]).cls ≠ .tripped
      ∧ leaves (.clearZoneEnable 0x20 1 0xFFFF) wall (fun t => t.azu.enableMask = 0x400F) = true
      ∧ leaves (.setZoneEnable 0x20 1 0x0200) (zone wall 9 fun w => { w with enable := false })
          (fun t => t.azu.enableMask = 0xFFFF) = true
      ∧ (∀ z : ZoneId, ({ wall.azu.zones[z] with enable := false } : Zone).inForce
          = (wall.azu.zones[z]).inForce)
      ∧ leaves (.setDelegation 0x20 1 0 1) wall
          (fun t => t.azu.zones[(0 : ZoneId)].delegation = ⟨false, false, true⟩) = true
      ∧ replies (.setZoneModeTest 0x30 1 9) wall .ok = true
      ∧ leaves (.setZoneModeArmed 0x30 1 9) test (fun t => t.azu.zones[(9 : ZoneId)].mode = .armed) = true
      ∧ replies (.injectTrip 0x30 1 9) wall .state = true
      ∧ leaves (.injectTrip 0x30 1 9) test (fun t => t.azu.zones[(9 : ZoneId)].injected) = true) :=
  ⟨supervisor_admits _ _ (by decide), supervisor_admits _ _ (by decide),
    supervisor_admits _ _ (by decide), service_admits _ _ (by decide), service_admits _ _ (by decide),
    by decide +kernel⟩

theorem witness_grants : wall.admits 0x68 0x20 1 .supervisor ∧ wall.admits 0x69 0x20 1 .supervisor
    ∧ wall.admits 0x6A 0x20 1 .supervisor
    ∧ (let idle := { wall with ecc := { wall.ecc with state := .idle } }
      let proposed := grant idle .capture .proposed
      let opened := grant idle .capture .opened
      let shut := zone opened 10 fun w => { w with cls := .normal }
      areaOf 3 = some .capture ∧ (idle.azu.grants.get .capture).state = .closed
      ∧ idle.areaBusy .capture = false ∧ (proposed.azu.grants.get .capture).state = .proposed
      ∧ (proposed.azu.grants.get .capture).proposer = some 1 ∧ (1 : Nat) = (1 : Half).toNat
      ∧ (1 : Nat) ≠ (2 : Half).toNat ∧ (opened.azu.grants.get .capture).state = .opened
      ∧ (opened.azu.zones[doorZone .capture]).cls ≠ .normal
      ∧ (shut.azu.zones[doorZone .capture]).cls = .normal
      ∧ (∀ z ∈ blankedZones .capture, (shut.azu.zones[z]).deferred = .clear) ∧ shut.dpl.queue = []
      ∧ (proposed.azu.grants.get .capture).timer.isRunning = true
      ∧ replies (.openGrant 0x20 1 3) idle .ok = true
      ∧ replies (.confirmGrant 0x20 1 3) proposed .authority = true
      ∧ leaves (.confirmGrant 0x20 2 3) proposed (fun t => t.grantOpen .capture) = true
      ∧ replies (.closeGrant 0x20 1 3) opened .doorOpen = true
      ∧ leaves (.closeGrant 0x20 1 3) shut (fun t => !t.grantOpen .capture) = true
      ∧ leaves (.proposalLapse .capture) proposed (fun t => t.wallFlag .grantChange) = true
      ∧ leaves (.grantExpiry .capture) opened (fun t => !t.grantOpen .capture) = true) :=
  ⟨supervisor_admits _ _ (by decide), supervisor_admits _ _ (by decide),
    supervisor_admits _ _ (by decide), by decide +kernel⟩

/-- CONFIRM_GRANT of another area than CAPTURE. -/
theorem witness_grant_reject : (grant wall .reject .proposed).areaBusy .reject = false
    ∧ (areaOf 2 = some .reject ∧ Area.reject ≠ .capture)
    ∧ leaves (.confirmGrant 0x20 2 2) (grant wall .reject .proposed)
        (fun t => t.azu.grants.reject = ⟨.opened, some 1, some 2, .running 900000⟩) = true := by
  decide +kernel

end Sys2Proof.Tests
end

section
/-! PROOF. The settings stay in their ranges (R172, R44). A setting changes by three things alone: the end of a
run, by which pending gauge values take effect, a power-on, and an accepted WRITE_SETTING. For each of them it is
proved once that it leaves the settings in their ranges; every operation that can come to one of them then has
one lemma, and every other operation leaves the settings alone (Laws/Frames.lean). -/

open Sys2Proof

namespace Sys2Proof.Machine

/-! ## Ranges of the settings -/

theorem Settings.inRange_iff (c : Settings) :
    c.inRange = true ↔ ∀ x : Setting, (x.held c).inRange x.range = true := by
  rw [Settings.inRange, List.all_eq_true]
  refine ⟨fun h x => h x ?_, fun h x _ => h x⟩
  cases x with
  | autoPresent l | countView l => cases l <;> decide
  | threshold t | gainA t | gainB t | skew t => cases t <;> decide
  | _ => decide

theorem Held.inRange_iff (h : Held) (r : Nat × Nat) :
    h.inRange r = true
      ↔ (r.1 ≤ h.value ∧ h.value ≤ r.2) ∧ ∀ v, h.pending = some v → r.1 ≤ v ∧ v ≤ r.2 := by
  obtain ⟨v, p⟩ := h
  cases p <;> simp [Held.inRange]

theorem Held.inRange_apply {h : Held} {r : Nat × Nat} (hr : h.inRange r = true) :
    h.apply.inRange r = true := by
  rw [Held.inRange_iff] at hr ⊢
  obtain ⟨v, p⟩ := h
  cases p with
  | none => exact ⟨hr.1, by simp [Held.apply]⟩
  | some p => exact ⟨hr.2 p rfl, by simp [Held.apply]⟩

theorem Held.inRange_value {v : Nat} {p : Option Nat} {r : Nat × Nat} (hr : (Held.mk v p).inRange r = true) :
    (Held.mk v none).inRange r = true := by
  rw [Held.inRange_iff] at hr ⊢
  exact ⟨hr.1, by simp⟩

theorem Setting.held_applyGauge (c : Settings) (t : Transport) (x : Setting) :
    x.held (c.applyGauge t) = x.held c ∨ x.held (c.applyGauge t) = (x.held c).apply := by
  cases t <;> cases x with
  | threshold u | gainA u | gainB u | skew u => cases u <;> simp [Setting.held, Settings.applyGauge]
  | _ => simp [Setting.held, Settings.applyGauge]

theorem Settings.applyGauge_inRange {c : Settings} (h : c.inRange = true) (t : Transport) :
    (c.applyGauge t).inRange = true := by
  rw [Settings.inRange_iff] at h ⊢
  intro x
  rcases Setting.held_applyGauge c t x with hx | hx <;> rw [hx]
  · exact h x
  · exact Held.inRange_apply (h x)

theorem Setting.held_store_same (c : Settings) (x : Setting) (h : Held) :
    x.held (x.store c h) = h ∨ x.held (x.store c h) = ⟨h.value, none⟩ := by
  cases x with
  | autoPresent l | countView l => exact .inr (by simp [Setting.held, Setting.store])
  | threshold t | gainA t | gainB t | skew t => cases t <;> exact .inl rfl
  | fittedLanes | lengthTolerance => exact .inl rfl
  | _ => exact .inr rfl

theorem Setting.held_store_other (c : Settings) {x y : Setting} (hne : y ≠ x) (h : Held) :
    y.held (x.store c h) = y.held c := by
  cases x with
  | autoPresent l | countView l =>
    cases y with
    | autoPresent k | countView k =>
      simp_all [Setting.held, Setting.store, PerLane.get_put]
    | threshold u | gainA u | gainB u | skew u => cases u <;> rfl
    | _ => rfl
  | threshold t | gainA t | gainB t | skew t =>
    cases t <;> cases y with
    | threshold u | gainA u | gainB u | skew u => cases u <;> simp_all [Setting.held, Setting.store]
    | _ => rfl
  | _ =>
    cases y with
    | threshold u | gainA u | gainB u | skew u => cases u <;> rfl
    | _ => simp_all [Setting.held, Setting.store]

theorem Settings.store_inRange {c : Settings} (hc : c.inRange = true) {x : Setting} {h : Held}
    (hh : h.inRange x.range = true) : (x.store c h).inRange = true := by
  rw [Settings.inRange_iff] at hc ⊢
  intro y
  by_cases hy : y = x
  · subst hy
    rcases Setting.held_store_same c y h with e | e <;> rw [e]
    · exact hh
    · exact Held.inRange_value hh
  · rw [Setting.held_store_other c hy]
    exact hc y

theorem Setting.clamp_mem (x : Setting) (v : Nat) : x.range.1 ≤ x.clamp v ∧ x.clamp v ≤ x.range.2 := by
  have hr : x.range.1 ≤ x.range.2 := by cases x <;> simp [Setting.range]
  unfold Setting.clamp
  omega


@[simp] theorem State.written_inRange {s : State} (hs : s.set.inRange = true) {x : Setting} {v : Nat}
    (hv : x.range.1 ≤ v ∧ v ≤ x.range.2) : (s.written x v).inRange x.range = true := by
  have hx := (Held.inRange_iff _ _).mp ((Settings.inRange_iff _).mp hs x)
  rw [Held.inRange_iff]
  unfold State.written
  split
  · refine ⟨hx.1, fun w hw => ?_⟩
    split at hw
    · cases hw
    · cases hw; exact hv
  · exact ⟨hv, by simp⟩

/-- The start values of the settings are in their ranges (R178). -/
theorem Settings.default_inRange : Settings.default.inRange = true := by decide

@[simp] theorem State.runEnd_inRange {s : State} (hs : s.set.inRange = true) (t : Transport) :
    (s.runEnd t).set.inRange = true := by
  unfold State.runEnd
  split
  · exact Settings.applyGauge_inRange hs t
  · exact hs

@[simp] theorem State.applyFitted_inRange {s : State} (hs : s.set.inRange = true) :
    s.applyFitted.set.inRange = true := by
  unfold State.applyFitted
  split
  · exact hs
  · next n hn =>
    split
    · have hf := (Settings.inRange_iff _).mp hs .fittedLanes
      have hp := ((Held.inRange_iff _ _).mp hf).2 n hn
      exact Settings.store_inRange (x := .fittedLanes) hs ((Held.inRange_iff _ _).mpr ⟨hp, by simp⟩)
    · exact hs

@[simp] theorem foldl_inRange {α : Type} (l : List α) (f : State → α → State)
    (h : ∀ s a, s.set.inRange = true → (f s a).set.inRange = true) {s : State}
    (hs : s.set.inRange = true) : (l.foldl f s).set.inRange = true := by
  induction l generalizing s with
  | nil => exact hs
  | cons a l ih => exact ih (h s a hs)

@[simp] theorem whenDue_inRange {s : State} (hs : s.set.inRange = true) (t : Timer) (e : State → State)
    (h : ∀ s, s.set.inRange = true → (e s).set.inRange = true) : (s.whenDue t e).set.inRange = true := by
  unfold State.whenDue
  split
  · exact h s hs
  · exact hs

@[simp] theorem State.unless_inRange {s : State} (hs : s.set.inRange = true) (checks : List (Bool × Reply))
    {taken : State × Reply} (ht : taken.1.set.inRange = true) :
    (s.unless checks taken).1.set.inRange = true := by
  cases h : firstFailure checks with
  | none => rwa [State.unless_of_none h]
  | some r => rwa [State.unless_of_some h]

@[simp] theorem State.request_inRange {α : Type} {s : State} (hs : s.set.inRange = true) (code : Nat) (auth : Byte)
    (op : Half) (sel : Option α) {owner : State → Role → α → State × Reply}
    (ho : ∀ r a, (owner s r a).1.set.inRange = true) :
    (s.request code auth op sel owner).set.inRange = true := by
  unfold State.request
  split <;> simp [hs, ho]

@[simp] theorem State.inTurn_inRange {s : State} (hs : s.set.inRange = true) (c : Instr) {taken : State}
    (ht : taken.set.inRange = true) : (s.inTurn c taken).set.inRange = true := by
  unfold State.inTurn State.await
  (repeat' split) <;> simp [hs, ht]

/-! ## The operations of the blocks -/

variable {s : State}

@[simp] theorem State.haltNote_inRange (hr : s.set.inRange = true) : s.haltNote.set.inRange = true := by
  simp [State.haltNote, hr]

@[simp] theorem State.endBundle_inRange (hr : s.set.inRange = true) (e : Ending) :
    (s.endBundle e).set.inRange = true := by
  unfold State.endBundle
  dsimp only
  (repeat' split) <;> simp [hr]

@[simp] theorem State.decideEnding_inRange (hr : s.set.inRange = true) (e : Ending) :
    (s.decideEnding e).set.inRange = true := by
  unfold State.decideEnding
  (repeat' split) <;> simp [hr]

@[simp] theorem State.cancelInTransport_inRange (hr : s.set.inRange = true) :
    s.cancelInTransport.set.inRange = true := by
  unfold State.cancelInTransport
  (repeat' split) <;> simp [hr]

@[simp] theorem State.doubtsDrawn_inRange (hr : s.set.inRange = true) (hs : List Handle) :
    (s.doubtsDrawn hs).set.inRange = true := by
  unfold State.doubtsDrawn
  (repeat' split) <;> simp [hr]

@[simp] theorem State.doubtDrawn_inRange (hr : s.set.inRange = true) (h : Handle) :
    (s.doubtDrawn h).set.inRange = true := by
  simp [State.doubtDrawn, hr]

@[simp] theorem State.doubtStockInUse_inRange (hr : s.set.inRange = true) (h : Handle) (c : DoubtCause) :
    (s.doubtStockInUse h c).set.inRange = true := by
  unfold State.doubtStockInUse
  (repeat' split) <;> simp [hr]

@[simp] theorem State.completeBundle_inRange (hr : s.set.inRange = true) : s.completeBundle.set.inRange = true := by
  unfold State.completeBundle
  split <;> simp [hr]

@[simp] theorem State.pickingOn_inRange (hr : s.set.inRange = true) : s.pickingOn.set.inRange = true := by
  unfold State.pickingOn
  (repeat' split) <;> simp [hr]

@[simp] theorem State.countItem_inRange (hr : s.set.inRange = true) (h : Handle) (good : Bool) (n : Nat)
    (q : Quality) (learn : Stock → Stock) :
    (s.countItem h good n q learn).set.inRange = true := by
  unfold State.countItem
  dsimp only
  (repeat' split) <;> simp [hr]

@[simp] theorem State.noteItemStart_inRange (hr : s.set.inRange = true) : s.noteItemStart.set.inRange = true := by
  unfold State.noteItemStart
  dsimp only
  (repeat' split) <;> simp [hr]

@[simp] theorem State.noteHandover_inRange (hr : s.set.inRange = true) (ref : ItemStock) (m : Measure)
    (atLimit : Bool) :
    (s.noteHandover ref m atLimit).set.inRange = true := by
  unfold State.noteHandover
  dsimp only
  (repeat' split) <;> simp [hr]

@[simp] theorem State.stopTransport_inRange (hr : s.set.inRange = true) (c : DoubtCause) (r : FailReason)
    (vault : Bool) :
    (s.stopTransport c r vault).set.inRange = true := by
  unfold State.stopTransport
  (repeat' split) <;> simp [hr]

@[simp] theorem State.noteJam_inRange (hr : s.set.inRange = true) : s.noteJam.set.inRange = true := by
  simp [State.noteJam, hr]

@[simp] theorem State.noteDoorStop_inRange (hr : s.set.inRange = true) (already : Bool) :
    (s.noteDoorStop already).set.inRange = true := by
  unfold State.noteDoorStop
  (repeat' split) <;> simp [hr]

@[simp] theorem State.finishClear_inRange (hr : s.set.inRange = true) : s.finishClear.set.inRange = true := by
  unfold State.finishClear
  split <;> simp [hr]

@[simp] theorem State.noteLeaderDone_inRange (hr : s.set.inRange = true) : s.noteLeaderDone.set.inRange = true := by
  unfold State.noteLeaderDone
  dsimp only
  (repeat' split) <;> simp [hr]

@[simp] theorem State.restartNoteWork_inRange (hr : s.set.inRange = true) : s.restartNoteWork.set.inRange = true := by
  unfold State.restartNoteWork
  (repeat' split) <;> simp [hr]

@[simp] theorem State.resumeNote_inRange (hr : s.set.inRange = true) : s.resumeNote.set.inRange = true := by
  unfold State.resumeNote
  dsimp only
  (repeat' split) <;> simp [hr]

@[simp] theorem State.warnNote_inRange (hr : s.set.inRange = true) : s.warnNote.set.inRange = true := by
  simp [State.warnNote, hr]

@[simp] theorem State.endWarnNote_inRange (hr : s.set.inRange = true) : s.endWarnNote.set.inRange = true := by
  unfold State.endWarnNote
  dsimp only
  (repeat' split) <;> simp [hr]

@[simp] theorem State.substitute_inRange (hr : s.set.inRange = true) (h : Handle) (denom : Nat) :
    (s.substitute h denom).set.inRange = true := by
  unfold State.substitute
  dsimp only
  (repeat' split) <;> simp [hr]

@[simp] theorem State.failPick_inRange (hr : s.set.inRange = true) : s.failPick.set.inRange = true := by
  unfold State.failPick
  dsimp only
  (repeat' split) <;> simp [hr]

@[simp] theorem State.exitDiverter_inRange (hr : s.set.inRange = true) : s.exitDiverter.set.inRange = true := by
  unfold State.exitDiverter
  dsimp only
  (repeat' split) <;> simp [hr]

@[simp] theorem State.emptyStacker_inRange (hr : s.set.inRange = true) : s.emptyStacker.set.inRange = true := by
  unfold State.emptyStacker
  dsimp only
  (repeat' split) <;> simp [hr]

@[simp] theorem State.stackerWaitOut_inRange (hr : s.set.inRange = true) : s.stackerWaitOut.set.inRange = true := by
  unfold State.stackerWaitOut
  split <;> simp [hr]

@[simp] theorem State.takeUnseen_inRange (hr : s.set.inRange = true) (b : Bundle) (c : Consignment) :
    (s.takeUnseen b c).set.inRange = true := by
  simp [State.takeUnseen, hr]

@[simp] theorem State.judgeHome_inRange (hr : s.set.inRange = true) (l : Lane) (restart : Bool) :
    (s.judgeHome l restart).set.inRange = true := by
  unfold State.judgeHome
  (repeat' split) <;> simp [hr]

@[simp] theorem State.enterHome_inRange (hr : s.set.inRange = true) (l : Lane) (flag : Bool) :
    (s.enterHome l flag).set.inRange = true := by
  unfold State.enterHome
  split <;> simp [hr]

@[simp] theorem State.sendHome_inRange (hr : s.set.inRange = true) (l : Lane) (flag : Bool) :
    (s.sendHome l flag).set.inRange = true := by
  unfold State.sendHome
  split <;> simp [hr]

@[simp] theorem State.arriveHome_inRange (hr : s.set.inRange = true) (l : Lane) :
    (s.arriveHome l).set.inRange = true := by
  unfold State.arriveHome
  split <;> simp [hr]

@[simp] theorem State.endLock_inRange (hr : s.set.inRange = true) (l : Lane) : (s.endLock l).set.inRange = true := by
  unfold State.endLock
  dsimp only
  (repeat' split) <;> simp [hr]

@[simp] theorem State.resetLane_inRange (hr : s.set.inRange = true) (l : Lane) :
    (s.resetLane l).set.inRange = true := by
  unfold State.resetLane
  dsimp only
  (repeat' split) <;> simp [hr]

@[simp] theorem State.endWarnLane_inRange (hr : s.set.inRange = true) (l : Lane) :
    (s.endWarnLane l).set.inRange = true := by
  unfold State.endWarnLane
  dsimp only
  (repeat' split) <;> simp [hr]

@[simp] theorem State.arbitrate_inRange (hr : s.set.inRange = true) : s.arbitrate.set.inRange = true := by
  unfold State.arbitrate
  (repeat' split) <;> simp [hr]

@[simp] theorem State.followOpen_inRange (hr : s.set.inRange = true) (before : Bool) :
    (s.followOpen before).set.inRange = true := by
  unfold State.followOpen
  (repeat' split) <;> simp [hr]

@[simp] theorem State.haltEnv_inRange (hr : s.set.inRange = true) : s.haltEnv.set.inRange = true := by
  simp [State.haltEnv, hr]

@[simp] theorem State.stopEnvTransport_inRange (hr : s.set.inRange = true) (c : DoubtCause) :
    (s.stopEnvTransport c).set.inRange = true := by
  unfold State.stopEnvTransport
  dsimp only
  (repeat' split) <;> simp [hr]

@[simp] theorem State.envJam_inRange (hr : s.set.inRange = true) : s.envJam.set.inRange = true := by
  simp [State.envJam, hr]

@[simp] theorem State.finishEnvClear_inRange (hr : s.set.inRange = true) : s.finishEnvClear.set.inRange = true := by
  unfold State.finishEnvClear
  split <;> simp [hr]

@[simp] theorem State.dropLeader_inRange (hr : s.set.inRange = true) : s.dropLeader.set.inRange = true := by
  unfold State.dropLeader
  (repeat' split) <;> simp [hr]

@[simp] theorem State.completeReturn_inRange (hr : s.set.inRange = true) : s.completeReturn.set.inRange = true := by
  unfold State.completeReturn
  split <;> simp [hr]

@[simp] theorem State.startReverse_inRange (hr : s.set.inRange = true) : s.startReverse.set.inRange = true := by
  unfold State.startReverse
  dsimp only
  (repeat' split) <;> simp [hr]

@[simp] theorem State.reverseEnv_inRange (hr : s.set.inRange = true) : s.reverseEnv.set.inRange = true := by
  unfold State.reverseEnv
  (repeat' split) <;> simp [hr]

@[simp] theorem State.recheckDestination_inRange (hr : s.set.inRange = true) (held : Bool) :
    (s.recheckDestination held).set.inRange = true := by
  unfold State.recheckDestination
  (repeat' split) <;> simp [hr]

@[simp] theorem State.envItemStart_inRange (hr : s.set.inRange = true) : s.envItemStart.set.inRange = true := by
  unfold State.envItemStart
  dsimp only
  (repeat' split) <;> simp [hr]

@[simp] theorem State.envHandover_inRange (hr : s.set.inRange = true) (m : Measure) (atLimit : Bool) :
    (s.envHandover m atLimit).set.inRange = true := by
  unfold State.envHandover
  dsimp only
  (repeat' split) <;> simp [hr]

@[simp] theorem State.envLeaderDone_inRange (hr : s.set.inRange = true) : s.envLeaderDone.set.inRange = true := by
  unfold State.envLeaderDone
  (repeat' split) <;> simp [hr]

@[simp] theorem State.intakeOut_inRange (hr : s.set.inRange = true) : s.intakeOut.set.inRange = true := by
  unfold State.intakeOut
  dsimp only
  (repeat' split) <;> simp [hr]

@[simp] theorem State.gateReport_inRange (hr : s.set.inRange = true) : s.gateReport.set.inRange = true := by
  unfold State.gateReport
  (repeat' split) <;> simp [hr]

@[simp] theorem State.capture_inRange (hr : s.set.inRange = true) (e : CurrentEnv) (n : Nat) (h : Handle)
    (b : BinId) :
    (s.capture e n h b).set.inRange = true := by
  have ht : ((((s.createRecord (.envelope (e.record n h b))).1.onBin b fun v =>
      v.stack (e.record n h b).thickness).haltEnv).settleThroat e.throat).set.inRange = true := by
    simp [hr]
  exact State.arbitrate_inRange (State.followOpen_inRange (by simpa using ht) _)

@[simp] theorem State.binReport_inRange (hr : s.set.inRange = true) (b : BinId) :
    (s.binReport b).set.inRange = true := by
  unfold State.binReport
  (repeat' split) <;> simp [hr]

@[simp] theorem State.recaptureOut_inRange (hr : s.set.inRange = true) : s.recaptureOut.set.inRange = true := by
  unfold State.recaptureOut
  (repeat' split) <;> simp [hr]

@[simp] theorem State.waitOut_inRange (hr : s.set.inRange = true) (t : Throat) :
    (s.waitOut t).set.inRange = true := by
  unfold State.waitOut
  dsimp only
  (repeat' split) <;> simp [hr]

@[simp] theorem State.throatChange_inRange (hr : s.set.inRange = true) (t : Throat) (here : Bool) :
    (s.throatChange t here).set.inRange = true := by
  unfold State.throatChange
  dsimp only
  (repeat' split) <;> simp [hr]

@[simp] theorem State.restartEnvWork_inRange (hr : s.set.inRange = true) : s.restartEnvWork.set.inRange = true := by
  unfold State.restartEnvWork
  (repeat' split) <;> simp [hr]

@[simp] theorem State.resumeEnv_inRange (hr : s.set.inRange = true) : s.resumeEnv.set.inRange = true := by
  unfold State.resumeEnv
  dsimp only
  (repeat' split) <;> simp [hr]

@[simp] theorem State.warnEnv_inRange (hr : s.set.inRange = true) (before : Bool) :
    (s.warnEnv before).set.inRange = true := by
  simp [State.warnEnv, hr]

@[simp] theorem State.endWarnEnv_inRange (hr : s.set.inRange = true) (before : Bool) :
    (s.endWarnEnv before).set.inRange = true := by
  unfold State.endWarnEnv
  refine State.arbitrate_inRange (State.followOpen_inRange ?_ _)
  (repeat' split) <;> simp [hr]

@[simp] theorem State.holdNotes_inRange (hr : s.set.inRange = true) (z : ZoneId) (already : Bool) :
    (s.holdNotes z already).set.inRange = true := by
  unfold State.holdNotes
  (repeat' split) <;> simp [hr]

@[simp] theorem State.holdEnvelopes_inRange (hr : s.set.inRange = true) (z : ZoneId) :
    (s.holdEnvelopes z).set.inRange = true := by
  unfold State.holdEnvelopes
  split <;> simp [hr]

@[simp] theorem State.takeHold_inRange (hr : s.set.inRange = true) (z : ZoneId) (already : Bool) :
    (s.takeHold z already).set.inRange = true := by
  unfold State.takeHold
  split <;> simp [hr]

@[simp] theorem State.releaseHolds_inRange (hr : s.set.inRange = true) (old : Ct) :
    (s.releaseHolds old).set.inRange = true := by
  unfold State.releaseHolds
  dsimp only
  (repeat' split) <;> simp [hr]

@[simp] theorem State.liftHold_inRange (hr : s.set.inRange = true) (z : ZoneId) :
    (s.liftHold z).set.inRange = true := by
  unfold State.liftHold
  split <;> simp [hr]

@[simp] theorem State.writeZones_inRange (hr : s.set.inRange = true) (news : List (ZoneId × Zone)) :
    (s.writeZones news).set.inRange = true := by
  unfold State.writeZones
  dsimp only
  (repeat' split) <;> simp [hr]

@[simp] theorem State.putZones_inRange (hr : s.set.inRange = true) (news : List (ZoneId × Zone)) :
    (s.putZones news).set.inRange = true := by
  have hh := foldl_inRange (s.enterForce news)
    (fun t z => t.takeHold z (s.ct.holdDispenser != 0 || s.ct.holdReject != 0))
    (fun _ z hr => State.takeHold_inRange hr z _) (State.writeZones_inRange hr news)
  have hl := foldl_inRange (s.leaveForce news) State.liftHold (fun _ z hr => State.liftHold_inRange hr z) hh
  have hf := State.releaseHolds_inRange (State.followOpen_inRange hl s.openCondition) s.ct
  unfold State.putZones
  dsimp only
  split <;> exact hf

@[simp] theorem State.putZone_inRange (hr : s.set.inRange = true) (z : ZoneId) (new : Zone) :
    (s.putZone z new).set.inRange = true := by
  simp [State.putZone, hr]

@[simp] theorem State.changeLoop_inRange (hr : s.set.inRange = true) (z : ZoneId) (c : LoopClass) :
    (s.changeLoop z c).set.inRange = true := by
  unfold State.changeLoop
  split <;> simp [hr]

@[simp] theorem State.forcingEvent_inRange (hr : s.set.inRange = true) (l : Lane) (switch : DrawerSwitch)
    (closed : Bool) :
    (s.forcingEvent l switch closed).set.inRange = true := by
  simp [State.forcingEvent, hr]

@[simp] theorem State.judgeWindow_inRange (hr : s.set.inRange = true) (z : ZoneId) :
    (s.judgeWindow z).set.inRange = true := by
  unfold State.judgeWindow
  dsimp only
  (repeat' split) <;> simp [hr]

@[simp] theorem State.tailOut_inRange (hr : s.set.inRange = true) (z : ZoneId) :
    (s.tailOut z).set.inRange = true := by
  unfold State.tailOut
  (repeat' split) <;> simp [hr]

@[simp] theorem State.scanChannel_inRange (hr : s.set.inRange = true) (cycle : List ZoneId) (z : ZoneId) :
    (s.scanChannel cycle z).set.inRange = true := by
  unfold State.scanChannel
  dsimp only
  (repeat' split) <;> simp [hr]

@[simp] theorem State.formCycle_inRange (hr : s.set.inRange = true) : s.formCycle.set.inRange = true :=
  foldl_inRange _ _ (fun _ z hr => State.scanChannel_inRange hr _ z) hr

@[simp] theorem State.convertLoop_inRange (hr : s.set.inRange = true) (z : ZoneId) (band : LoopClass) :
    (s.convertLoop z band).set.inRange = true := by
  unfold State.convertLoop
  dsimp only
  (repeat' split) <;> simp [hr]

@[simp] theorem State.convertNext_inRange (hr : s.set.inRange = true) (code : Sample) :
    (s.convertNext code).set.inRange = true := by
  unfold State.convertNext
  dsimp only
  (repeat' split) <;> simp [hr]

@[simp] theorem State.enableZones_inRange (hr : s.set.inRange = true) (mask : ZoneSet) (on : Bool) :
    (s.enableZones mask on).set.inRange = true := by
  simp [State.enableZones, hr]

@[simp] theorem State.armZone_inRange (hr : s.set.inRange = true) (z : ZoneId) :
    (s.armZone z).set.inRange = true := by
  unfold State.armZone
  dsimp only
  (repeat' split) <;> simp [hr]

@[simp] theorem State.putGrant_inRange (hr : s.set.inRange = true) (a : Area) (g : Grant) :
    (s.putGrant a g).set.inRange = true := by
  simp [State.putGrant, hr]

@[simp] theorem State.endGrant_inRange (hr : s.set.inRange = true) (a : Area) :
    (s.endGrant a).set.inRange = true := by
  have hj := foldl_inRange (blankedZones a) (fun s z => s.judgeWindow z)
    (fun _ z hr => State.judgeWindow_inRange hr z)
    (s := s.onAzu fun z => { z with grants := z.grants.put a Grant.shut }) hr
  unfold State.endGrant
  cases a <;> simp [hj]

@[simp] theorem State.lapse_inRange (hr : s.set.inRange = true) (a : Area) : (s.lapse a).set.inRange = true := by
  unfold State.lapse
  dsimp only
  (repeat' split) <;> simp [hr]

@[simp] theorem State.grantOut_inRange (hr : s.set.inRange = true) (a : Area) :
    (s.grantOut a).set.inRange = true := by
  unfold State.grantOut
  dsimp only
  (repeat' split) <;> simp [hr]

@[simp] theorem State.endMotion_inRange (hr : s.set.inRange = true) (l : Lane) (switch : DrawerSwitch)
    (closed : Bool) :
    (s.endMotion l switch closed).set.inRange = true := by
  unfold State.endMotion
  split <;> simp [hr]

@[simp] theorem State.switchChange_inRange (hr : s.set.inRange = true) (l : Lane) (switch : DrawerSwitch)
    (closed : Bool) :
    (s.switchChange l switch closed).set.inRange = true := by
  unfold State.switchChange
  dsimp only
  (repeat' split) <;> simp [hr]

@[simp] theorem State.startUnlocked_inRange (hr : s.set.inRange = true) (l : Lane) :
    (s.startUnlocked l).set.inRange = true := by
  unfold State.startUnlocked
  dsimp only
  (repeat' split) <;> simp [hr]

@[simp] theorem State.startLanes_inRange (hr : s.set.inRange = true) : s.startLanes.set.inRange = true :=
  foldl_inRange _ _ (fun s l hr => by split <;> [split; skip] <;> simp [hr]) hr

@[simp] theorem State.startBlocks_inRange (hr : s.set.inRange = true) : s.startBlocks.set.inRange = true := by
  simp [State.startBlocks, hr]

@[simp] theorem State.restartRetained_inRange (hr : s.set.inRange = true) : s.restartRetained.set.inRange = true := by
  have ha : (s.rebuildQueue.restartChanges.onSet fun c =>
      (c.applyGauge .note).applyGauge .envelope).set.inRange = true :=
    Settings.applyGauge_inRange (Settings.applyGauge_inRange (by simpa using hr) _) _
  unfold State.restartRetained
  simpa using State.applyFitted_inRange ha

@[simp] theorem State.powerOn_inRange (hr : s.set.inRange = true) (retained : Bool) (inputs : Pins) :
    (s.powerOn retained inputs).set.inRange = true := by
  have hl : ((s.clearBackup.dark inputs).setWallFlag .backupLost).set.inRange = true := by
    simpa [State.dark, State.clearBackup] using Settings.default_inRange
  have hk : (s.dark inputs).restartRetained.set.inRange = true := State.restartRetained_inRange hr
  unfold State.powerOn
  split
  · simpa using State.startBlocks_inRange hk
  · simpa using State.startBlocks_inRange hl

@[simp] theorem State.warn_inRange (hr : s.set.inRange = true) : s.warn.set.inRange = true := by
  have hn : (s.onPins fun p => { p with warning := true }).warnNote.set.inRange = true :=
    State.warnNote_inRange hr
  have hl := foldl_inRange Lane.all State.warnLane (fun _ _ hr => by simpa using hr) hn
  unfold State.warn
  split
  · exact hr
  · exact State.warnEnv_inRange hl _

@[simp] theorem State.endWarn_inRange (hr : s.set.inRange = true) : s.endWarn.set.inRange = true := by
  have hn : (s.onPins fun p => { p with warning := false }).endWarnNote.set.inRange = true :=
    State.endWarnNote_inRange hr
  have hl := foldl_inRange Lane.all State.endWarnLane (fun _ l hr => State.endWarnLane_inRange hr l) hn
  unfold State.endWarn
  split
  · exact State.endWarnEnv_inRange hl _
  · exact hr

@[simp] theorem State.settingEffect_inRange (hr : s.set.inRange = true) (x : Setting) (old : Settings)
    (before : Bool) :
    (s.settingEffect x old before).set.inRange = true := by
  unfold State.settingEffect
  split <;> simp [hr]

@[simp] theorem State.writeSetting_inRange (hr : s.set.inRange = true) (x : Setting) {v : Nat}
    (hv : x.range.1 ≤ v ∧ v ≤ x.range.2) :
    (s.writeSetting x v).set.inRange = true := by
  unfold State.writeSetting
  exact State.settingEffect_inRange (Settings.store_inRange hr (State.written_inRange hr hv)) _ _ _

@[simp] theorem State.writeSettingOwner_inRange (hr : s.set.inRange = true) (r : Role)
    (a : Byte × Byte × Half) :
    (s.writeSettingOwner r a).1.set.inRange = true := by
  unfold State.writeSettingOwner
  (repeat' split) <;> simp [hr, Setting.clamp_mem]

@[simp] theorem State.resumeOwner_inRange (hr : s.set.inRange = true) (a0 : Role) (l : Lane) :
    (s.resumeOwner a0 l).1.set.inRange = true := by
  simp [State.resumeOwner, hr]

@[simp] theorem State.resetOwner_inRange (hr : s.set.inRange = true) (a0 : Role) (l : Lane) :
    (s.resetOwner a0 l).1.set.inRange = true := by
  simp [State.resetOwner, hr]

@[simp] theorem State.cancelOwner_inRange (hr : s.set.inRange = true) (r : Role) (h : Handle) :
    (s.cancelOwner r h).1.set.inRange = true := by
  unfold State.cancelOwner
  (repeat' split) <;> simp [hr]

@[simp] theorem State.noteSignal_inRange (hr : s.set.inRange = true) (ref : Option ItemStock)
    (g : GaugeSignal) :
    (s.noteSignal ref g).set.inRange = true := by
  unfold State.noteSignal
  (repeat' split) <;> simp [hr]

@[simp] theorem State.noteLeaderPulse_inRange (hr : s.set.inRange = true) : s.noteLeaderPulse.set.inRange = true := by
  unfold State.noteLeaderPulse
  dsimp only
  (repeat' split) <;> simp [hr]

@[simp] theorem State.notePulse_inRange (hr : s.set.inRange = true) (a : Nat) (b : Nat) :
    (s.notePulse a b).set.inRange = true := by
  have hp := foldl_inRange (s.gmu.note.pulse .note (s.set.gauge .note) a b s.startingStock).2
    (State.noteSignal (s.gmu.note.item.bind (·.stock))) (fun s g hr => State.noteSignal_inRange hr _ g)
    (s := (s.onNtc fun n => { n with stallTimer := .running Config.stallLimit }).onGmu fun g =>
      { g with note := (s.gmu.note.pulse .note (s.set.gauge .note) a b s.startingStock).1 }) hr
  unfold State.notePulse
  split
  · dsimp only
    split
    · exact hp
    · exact State.noteLeaderPulse_inRange hp
  · exact hr

@[simp] theorem State.noteEnds_inRange (hr : s.set.inRange = true) (m : Measure) :
    (s.noteEnds m).set.inRange = true := by
  unfold State.noteEnds
  (repeat' split) <;> simp [hr]

@[simp] theorem State.noteAtLimit_inRange (hr : s.set.inRange = true) : s.noteAtLimit.set.inRange = true := by
  unfold State.noteAtLimit
  (repeat' split) <;> simp [hr]

@[simp] theorem State.noteLeaderOver_inRange (hr : s.set.inRange = true) (empty : Bool) :
    (s.noteLeaderOver empty).set.inRange = true := by
  unfold State.noteLeaderOver
  split <;> simp [hr]

@[simp] theorem State.envSignal_inRange (hr : s.set.inRange = true) (g : GaugeSignal) :
    (s.envSignal g).set.inRange = true := by
  unfold State.envSignal
  split <;> simp [hr]

@[simp] theorem State.envLeaderPulse_inRange (hr : s.set.inRange = true) : s.envLeaderPulse.set.inRange = true := by
  unfold State.envLeaderPulse
  dsimp only
  (repeat' split) <;> simp [hr]

@[simp] theorem State.envPulse_inRange (hr : s.set.inRange = true) (a : Nat) (b : Nat) :
    (s.envPulse a b).set.inRange = true := by
  have hp := foldl_inRange (s.gmu.envelope.pulse .envelope (s.set.gauge .envelope) a b none).2 State.envSignal
    (fun s g hr => State.envSignal_inRange hr g)
    (s := (s.onEcc fun e => { e with stallTimer := .running Config.stallLimit }).onGmu fun g =>
      { g with envelope := (s.gmu.envelope.pulse .envelope (s.set.gauge .envelope) a b none).1 }) hr
  unfold State.envPulse
  split
  · dsimp only
    split
    · exact hp
    · exact State.envLeaderPulse_inRange hp
  · exact hr

@[simp] theorem State.envEnds_inRange (hr : s.set.inRange = true) (m : Measure) :
    (s.envEnds m).set.inRange = true := by
  unfold State.envEnds
  (repeat' split) <;> simp [hr]

@[simp] theorem State.envAtLimit_inRange (hr : s.set.inRange = true) (thickness : Nat) (skew : Nat) :
    (s.envAtLimit thickness skew).set.inRange = true := by
  unfold State.envAtLimit
  (repeat' split) <;> simp [hr]

@[simp] theorem State.envLeaderOver_inRange (hr : s.set.inRange = true) : s.envLeaderOver.set.inRange = true := by
  unfold State.envLeaderOver
  split <;> simp [hr]

@[simp] theorem State.clearEnvOwner_inRange (hr : s.set.inRange = true) (a0 : Role) (a1 : Unit) :
    (s.clearEnvOwner a0 a1).1.set.inRange = true := by
  simp [State.clearEnvOwner, hr]

@[simp] theorem State.presenceOpens_inRange (hr : s.set.inRange = true) (p : CassettePos) :
    (s.presenceOpens p).set.inRange = true := by
  unfold State.presenceOpens
  dsimp only
  (repeat' split) <;> simp [hr]

@[simp] theorem State.collect_inRange (hr : s.set.inRange = true) (h : Handle) (v : Bin) :
    (s.collect h v).set.inRange = true := by
  unfold State.collect
  refine State.followOpen_inRange ?_ _
  split
  · unfold State.switchBins
    (repeat' split) <;> simp [hr]
  · simpa using hr

@[simp] theorem State.collectOwner_inRange (hr : s.set.inRange = true) (a0 : Role) (b : BinId) :
    (s.collectOwner a0 b).1.set.inRange = true := by
  unfold State.collectOwner
  (repeat' split) <;> simp [hr]

@[simp] theorem State.insertOwner_inRange (hr : s.set.inRange = true) (a0 : Role) (b : BinId) :
    (s.insertOwner a0 b).1.set.inRange = true :=
  State.unless_inRange hr _ (State.arbitrate_inRange (State.followOpen_inRange (by simpa using hr) _))

@[simp] theorem State.restoreOwner_inRange (hr : s.set.inRange = true) (a0 : Role) (z : ZoneId) :
    (s.restoreOwner a0 z).1.set.inRange = true := by
  simp [State.restoreOwner, hr]

@[simp] theorem State.enableOwner_inRange (hr : s.set.inRange = true) (on : Bool) (a0 : Role) (mask : Half) :
    (s.enableOwner on a0 mask).1.set.inRange = true := by
  simp [State.enableOwner, hr]

@[simp] theorem State.delegationOwner_inRange (hr : s.set.inRange = true) (a0 : Role) (a : ZoneId × Byte) :
    (s.delegationOwner a0 a).1.set.inRange = true := by
  simp [State.delegationOwner, hr]

@[simp] theorem State.testOwner_inRange (hr : s.set.inRange = true) (a0 : Role) (z : ZoneId) :
    (s.testOwner a0 z).1.set.inRange = true := by
  unfold State.testOwner
  dsimp only
  (repeat' split) <;> simp [hr]

@[simp] theorem State.armOwner_inRange (hr : s.set.inRange = true) (a0 : Role) (z : ZoneId) :
    (s.armOwner a0 z).1.set.inRange = true := by
  unfold State.armOwner
  split <;> simp [hr]

@[simp] theorem State.injectOwner_inRange (hr : s.set.inRange = true) (a0 : Role) (z : ZoneId) :
    (s.injectOwner a0 z).1.set.inRange = true := by
  simp [State.injectOwner, hr]

@[simp] theorem State.openGrantOwner_inRange (hr : s.set.inRange = true) (op : Nat) (a0 : Role) (a : Area) :
    (s.openGrantOwner op a0 a).1.set.inRange = true := by
  simp [State.openGrantOwner, hr]

@[simp] theorem State.confirmGrantOwner_inRange (hr : s.set.inRange = true) (op : Nat) (a0 : Role)
    (a : Area) :
    (s.confirmGrantOwner op a0 a).1.set.inRange = true := by
  simp [State.confirmGrantOwner, hr]

@[simp] theorem State.closeGrantOwner_inRange (hr : s.set.inRange = true) (a0 : Role) (a : Area) :
    (s.closeGrantOwner a0 a).1.set.inRange = true := by
  simp [State.closeGrantOwner, hr]

@[simp] theorem State.expireNote_inRange (hr : s.set.inRange = true) : s.expireNote.set.inRange = true := by
  unfold State.expireNote
  dsimp only
  iterate 2 refine whenDue_inRange ?_ _ _ fun s hr => State.noteJam_inRange hr
  refine whenDue_inRange ?_ _ _ fun s hr => State.stackerWaitOut_inRange hr
  refine whenDue_inRange ?_ _ _ fun s hr => State.failPick_inRange hr
  iterate 2 refine whenDue_inRange ?_ _ _ fun s hr => State.noteJam_inRange hr
  exact whenDue_inRange hr _ _ fun s hr => by simpa using hr

@[simp] theorem State.expireEnv_inRange (hr : s.set.inRange = true) : s.expireEnv.set.inRange = true := by
  unfold State.expireEnv
  dsimp only
  iterate 2 refine whenDue_inRange ?_ _ _ fun s hr => State.waitOut_inRange hr _
  refine whenDue_inRange ?_ _ _ fun s hr => State.recaptureOut_inRange hr
  iterate 2 refine whenDue_inRange ?_ _ _ fun s hr => State.envJam_inRange hr
  refine whenDue_inRange ?_ _ _ fun s hr => State.intakeOut_inRange hr
  exact whenDue_inRange hr _ _ fun s hr => State.envJam_inRange hr

@[simp] theorem State.expireGrant_inRange (hr : s.set.inRange = true) (a : Area) :
    (s.expireGrant a).set.inRange = true :=
  whenDue_inRange hr _ _ fun _ hr => State.grantOut_inRange (State.lapse_inRange hr a) a

@[simp] theorem State.expireAzu_inRange (hr : s.set.inRange = true) : s.expireAzu.set.inRange = true := by
  unfold State.expireAzu
  dsimp only
  refine foldl_inRange _ _ (fun s a hr => State.expireGrant_inRange hr a) ?_
  iterate 5 refine whenDue_inRange ?_ _ _ fun s hr => State.tailOut_inRange hr _
  exact hr

@[simp] theorem State.tick_inRange (hr : s.set.inRange = true) : s.tick.set.inRange = true :=
  State.expireAzu_inRange (State.expireEnv_inRange
    (foldl_inRange _ _ (fun _ _ hr => by simpa using hr) (State.expireNote_inRange hr)))

@[simp] theorem State.emptyVaultOwner_inRange (hr : s.set.inRange = true) (a0 : Role) (a1 : Unit) :
    (s.emptyVaultOwner a0 a1).1.set.inRange = true := by
  simp [State.emptyVaultOwner, hr]

/-! ## The commands and the step -/

/-- A command that answers a next state leaves every setting in its range. -/
def settingsKept (o : Host.Outcome State Fault Refusal) : Prop := ∀ t, o = .next t → t.set.inRange = true

theorem settingsKept_next {t : State} (ht : t.set.inRange = true) : settingsKept (.next t) :=
  fun _ h => Host.Outcome.next.inj h ▸ ht

theorem settingsKept_fault (f : Fault) : settingsKept (.fault f) := fun _ h => by simp at h

theorem settingsKept_request {α : Type} (hr : s.set.inRange = true) {c : Instr} {code : Nat} {auth : Byte}
    {op : Half} {sel : Option α} {owner : State → Role → α → State × Reply}
    (ho : ∀ r a, (owner s r a).1.set.inRange = true) :
    settingsKept (.next (s.inTurn c (s.request code auth op sel owner))) :=
  settingsKept_next (State.inTurn_inRange hr c (State.request_inRange hr code auth op sel ho))

/-- The two rows by which a request that came as bytes is taken (R163, R165). -/
def takesRaw : Instr → Bool
  | .byteReceived _ _ | .responseSent => true
  | _ => false

theorem exec_settingsKept_of_row (hr : s.set.inRange = true) {c : Instr} (hc : takesRaw c = false) :
    settingsKept (exec c s) := by
  cases c with
  | byteReceived | responseSent => cases hc
  | unknownRequest auth op code =>
    show settingsKept (execUnknownRequest auth op code s)
    unfold execUnknownRequest
    split
    · exact settingsKept_next (State.inTurn_inRange hr _ (by simpa using hr))
    · exact settingsKept_fault _
  | itemEnd t m =>
    show settingsKept (execItemEnd t m s)
    unfold execItemEnd
    split
    · refine settingsKept_next ?_
      cases t <;> simp [hr]
    · exact settingsKept_fault _
  | envelopeLengthLimit t k =>
    show settingsKept (execEnvelopeLengthLimit t k s)
    unfold execEnvelopeLengthLimit
    split
    · exact settingsKept_next (State.envAtLimit_inRange hr t k)
    · exact settingsKept_fault _
  | loopClassChange z k =>
    show settingsKept (execLoopClassChange z k s)
    unfold execLoopClassChange
    split
    · refine settingsKept_next ?_
      split <;> simp [hr]
    · exact settingsKept_fault _
  | blankingTailExpiry z =>
    show settingsKept (execBlankingTailExpiry z s)
    unfold execBlankingTailExpiry
    split
    · exact settingsKept_next (State.tailOut_inRange hr z)
    · exact settingsKept_fault _
  | encoderPulse t a b => 
    refine settingsKept_next ?_
    cases t <;> simp [hr]
  | frameGapTimeout | notePresenceLimit | pickFailure | stackerDumpTimeout | chuteTimeout
  | diverterExitTimeout | noteEncoderStall | presenceSwitchOpen | envelopePresenceLimit | forwardTimeout
  | returnTimeout | envelopeEncoderStall =>
    refine settingsKept_next ?_
    split <;> simp [hr]
  | powerOn | powerWarning | powerWarningEnd | noteRestartLeaderStart | envelopeRestartLeaderStart | lineBreak
  | badFrame | requestOverflow | noteLeaderEnd | noteLengthLimit | diverterExit | stackerEmpty
  | stackerWaitExpiry | bundleArrival | presenceSwitchClose | drawerArriveOut | drawerArriveHome
  | drawerMotionTimeout | takeTimerExpiry | traySensorChange | drawerSwitchChange | throatSensorChange
  | envelopeLeaderEnd | intakeTimeout | gatePassage | imprinterReport | binEntry | returnWaitExpiry
  | recaptureTimeout | scanCycleStart | proposalLapse | grantExpiry | loopConversion =>
    refine settingsKept_next ?_
    simp [hr]
  | _ =>
    refine settingsKept_request hr fun r a => ?_
    simp [hr]

theorem State.badBody_settingsKept (hr : s.set.inRange = true) (code : Nat) (auth : Byte) (op : Half) :
    settingsKept (s.badBody code auth op) :=
  settingsKept_next (State.request_inRange hr code auth op _ fun _ _ => hr)

theorem settingsKept_ite {p : Prop} [Decidable p] {o o' : Host.Outcome State Fault Refusal}
    (h : settingsKept o) (h' : settingsKept o') : settingsKept (if p then o else o') := by
  split
  · exact h
  · exact h'

/-- A read of the table, whatever its BODY; the cases are the codes, and the BODY's length under each. -/
theorem State.takeRead_settingsKept (hr : s.set.inRange = true) (auth : Byte) (op : Half) {code : Nat}
    (hc : code ∈ requestCodes) (h20 : code < 0x20) (body : List Byte) :
    settingsKept (s.takeRead auth op code body) := by
  have hc' : code = 0x01 ∨ code = 0x02 ∨ code = 0x03 ∨ code = 0x04 ∨ code = 0x05 ∨ code = 0x06 ∨ code = 0x07
      ∨ code = 0x08 ∨ code = 0x09 ∨ code = 0x0B ∨ code = 0x0A := by
    simp only [requestCodes, List.mem_cons, List.not_mem_nil, or_false] at hc
    omega
  rcases hc' with rfl | rfl | rfl | rfl | rfl | rfl | rfl | rfl | rfl | rfl | rfl
  case inr.inr.inr.inr.inr.inr.inr.inr.inr.inr =>
    rcases body with _ | ⟨a, _ | ⟨b, l⟩⟩
    · exact State.badBody_settingsKept hr _ _ _
    · exact settingsKept_ite (settingsKept_request hr fun r a => by simp [hr])
        (settingsKept_ite (settingsKept_request hr fun r a => by simp [hr])
          (State.badBody_settingsKept hr _ _ _))
    · exact State.badBody_settingsKept hr _ _ _
  all_goals
    rcases body with _ | ⟨a, _ | ⟨b, _ | ⟨c, _ | ⟨d, _ | ⟨e, l⟩⟩⟩⟩⟩ <;> first
      | exact State.badBody_settingsKept hr _ _ _
      | exact settingsKept_request hr fun r a => by simp [hr]

theorem State.takeDispense_settingsKept (hr : s.set.inRange = true) (auth : Byte) (op : Half)
    (body : List Byte) : settingsKept (s.takeDispense auth op body) := by
  unfold State.takeDispense
  (repeat' split) <;> first
    | with_reducible exact State.badBody_settingsKept hr _ _ _
    | exact settingsKept_request hr fun r a => by simp [hr]

theorem State.takeTeller_settingsKept (hr : s.set.inRange = true) (auth : Byte) (op : Half) (code : Nat)
    (body : List Byte) : settingsKept (s.takeTeller auth op code body) := by
  unfold State.takeTeller
  (repeat' split) <;> first
    | with_reducible exact State.badBody_settingsKept hr _ _ _
    | with_reducible exact State.takeDispense_settingsKept hr _ _ _
    | exact settingsKept_request hr fun r a => by simp [hr]

/-- An exchange request of the table, whatever its BODY. -/
theorem State.takeExchange_settingsKept (hr : s.set.inRange = true) (auth : Byte) (op : Half) {code : Nat}
    (hc : code ∈ requestCodes) (h50 : 0x50 ≤ code) (h60 : code < 0x60) (body : List Byte) :
    settingsKept (s.takeExchange auth op code body) := by
  have hc' : code = 0x50 ∨ code = 0x51 ∨ code = 0x52 ∨ code = 0x53 ∨ code = 0x54 ∨ code = 0x55 ∨ code = 0x56
      ∨ code = 0x57 := by
    simp only [requestCodes, List.mem_cons, List.not_mem_nil, or_false] at hc
    omega
  rcases hc' with rfl | rfl | rfl | rfl | rfl | rfl | rfl | rfl
  case inr.inr.inr.inr.inr.inr.inr =>
    rcases body with _ | ⟨a, _ | ⟨b, l⟩⟩
    · exact State.badBody_settingsKept hr _ _ _
    · exact settingsKept_ite (settingsKept_request hr fun r a => by simp [hr])
        (settingsKept_ite (settingsKept_request hr fun r a => by simp [hr])
          (State.badBody_settingsKept hr _ _ _))
    · exact State.badBody_settingsKept hr _ _ _
  case inl =>
    rcases body with _ | ⟨a, _ | ⟨b, _ | ⟨c, _ | ⟨d, _ | ⟨e, _ | ⟨f, _ | ⟨g, _ | ⟨h, _ | ⟨i, _ | ⟨j, _ |
      ⟨k, _ | ⟨m, l⟩⟩⟩⟩⟩⟩⟩⟩⟩⟩⟩⟩ <;> first
      | exact State.badBody_settingsKept hr _ _ _
      | exact settingsKept_request hr fun r a => by simp [hr]
  all_goals
    rcases body with _ | ⟨a, _ | ⟨b, _ | ⟨c, _ | ⟨d, l⟩⟩⟩⟩ <;> first
      | exact State.badBody_settingsKept hr _ _ _
      | exact settingsKept_request hr fun r a => by simp [hr]

theorem State.takeZone_settingsKept (hr : s.set.inRange = true) (auth : Byte) (op : Half) (code : Nat)
    (body : List Byte) : settingsKept (s.takeZone auth op code body) := by
  unfold State.takeZone
  (repeat' split) <;> first
    | with_reducible exact State.badBody_settingsKept hr _ _ _
    | exact settingsKept_request hr fun r a => by simp [hr]

theorem State.takeRequest_settingsKept (hr : s.set.inRange = true) (auth : Byte) (op : Half) (code : Byte)
    (body : List Byte) : settingsKept (s.takeRequest auth op code body) := by
  unfold State.takeRequest
  dsimp only
  split
  · next hc =>
    have hc := List.contains_iff_mem.mp hc
    split
    · next h20 => exact State.takeRead_settingsKept hr _ _ hc h20 _
    · split
      · exact State.takeTeller_settingsKept hr _ _ _ _
      · split
        · next h50 h60 => exact State.takeExchange_settingsKept hr _ _ hc (by omega) h60 _
        · exact State.takeZone_settingsKept hr _ _ _ _
  · exact exec_settingsKept_of_row hr (c := .unknownRequest auth op code) rfl

theorem State.takeRaw_inRange (hr : s.set.inRange = true) (raw : RawRequest) :
    (s.takeRaw raw).set.inRange = true := by
  unfold State.takeRaw stateAfter
  split
  · split
    · next ht => exact State.takeRequest_settingsKept hr _ _ _ _ _ ht
    · exact hr
  · exact hr

theorem State.receive_inRange (hr : s.set.inRange = true) (b : Byte) (stop : Bool) :
    (s.receive b stop).set.inRange = true := by
  have hc (n : Nat) (bytes : List Byte) (check : Half) : (s.checkFrame n bytes check).set.inRange = true := by
    have hu : s.resetReceiver.set.inRange = true := by simpa using hr
    unfold State.checkFrame State.requestWhole State.await
    dsimp only
    split
    · split
      · exact State.takeRaw_inRange hu _
      · split <;> exact hu
    · exact hu
  unfold State.receive
  dsimp only
  (repeat' split) <;> simp [hr, hc]

theorem State.responseSent_inRange (hr : s.set.inRange = true) : s.responseSent.set.inRange = true := by
  unfold State.responseSent
  split
  · exact hr
  · exact State.takeRaw_inRange (s := s.onSlp _) hr _

theorem exec_settingsKept (hr : s.set.inRange = true) (c : Instr) : settingsKept (exec c s) := by
  cases hc : takesRaw c with
  | false => exact exec_settingsKept_of_row hr hc
  | true =>
    cases c with
    | byteReceived b stop => exact settingsKept_next (State.receive_inRange hr b stop)
    | responseSent => exact settingsKept_next (State.responseSent_inRange hr)
    | _ => cases hc

theorem step_settingsKept (hr : s.set.inRange = true) : settingsKept (step s) := by
  unfold step
  split
  · exact settingsKept_next (State.tick_inRange hr)
  · next c rest _ =>
    have hr' : ({ s with pending := rest } : State).set.inRange = true := hr
    exact exec_settingsKept hr' c

end Sys2Proof.Machine

/-- Settles O9: a setting changes only by a run's end, a power-on or WRITE_SETTING, and each of them stores a
value of the setting's range. -/
theorem settingsStayInRange : Obligations.SettingsStayInRange := by
  intro s t hs ht
  exact Sys2Proof.Machine.step_settingsKept hs t ht

end

section
/-! PROOF. The figures of the Gauge Measurement Unit: the classes of notes and envelopes at their thresholds (R37,
R42), the estimates (R38) and the learning of references (R40, R41), with the rules' fractions read as rationals. -/

open Sys2Proof

namespace Sys2Proof.Machine

/-! ## Classes -/

/-- DOUBLE's threshold: T at or above 13/8 of T_ref (R37). -/
theorem double_threshold (t tRef : Nat) : (t : Rat) ≥ 13 / 8 * tRef ↔ 13 * tRef ≤ 8 * t := by
  rw [ge_iff_le, ← Nat.cast_le (α := Rat)]
  push_cast
  constructor <;> intro h <;> linarith

/-- THIN's threshold: T below 5/8 of T_ref (R37). -/
theorem thin_threshold (t tRef : Nat) : (t : Rat) < 5 / 8 * tRef ↔ 8 * t < 5 * tRef := by
  rw [← Nat.cast_lt (α := Rat)]
  push_cast
  constructor <;> intro h <;> linarith

/-- A length in half-millimetres against bounds in millimetres (R42). -/
theorem half_millimetres (ls lo hi : Nat) :
    (ls / 2 < lo ↔ ls < 2 * lo) ∧ (hi < ls / 2 ↔ 2 * (hi + 1) ≤ ls) := by
  omega

theorem classifyNote_first (m : Measure) (atLimit : Bool) (tRef lRef ltol skewLimit : Nat) :
    let c := classifyNote m atLimit tRef lRef ltol skewLimit
    let long : Prop := atLimit = true ∨ (m.ls : Int) > lRef + ltol
    let short : Prop := (m.ls : Int) < (lRef : Int) - ltol ∨ m.short = true
    let skew : Prop := m.skew > skewLimit
    let double : Prop := (m.t : Rat) ≥ 13 / 8 * tRef
    let thin : Prop := (m.t : Rat) < 5 / 8 * tRef
    (c = .long ↔ long) ∧ (c = .short ↔ ¬ long ∧ short) ∧ (c = .skew ↔ ¬ long ∧ ¬ short ∧ skew)
      ∧ (c = .double ↔ ¬ long ∧ ¬ short ∧ ¬ skew ∧ double)
      ∧ (c = .thin ↔ ¬ long ∧ ¬ short ∧ ¬ skew ∧ ¬ double ∧ thin)
      ∧ (c = .good ↔ ¬ long ∧ ¬ short ∧ ¬ skew ∧ ¬ double ∧ ¬ thin) := by
  intro c long short skew double thin
  have hlong : (atLimit || lRef + ltol < m.ls) = true ↔ long := by
    rw [Bool.or_eq_true, decide_eq_true_eq]
    exact or_congr Iff.rfl (by omega)
  have hshort : (m.ls + ltol < lRef || m.short) = true ↔ short := by
    rw [Bool.or_eq_true, decide_eq_true_eq]
    exact or_congr (by omega) Iff.rfl
  have hdouble : 13 * tRef ≤ 8 * m.t ↔ double := (double_threshold m.t tRef).symm
  have hthin : 8 * m.t < 5 * tRef ↔ thin := (thin_threshold m.t tRef).symm
  have hc : c = if long then .long else if short then .short else if skew then .skew
      else if double then .double else if thin then .thin else .good := by
    simp only [c, classifyNote, hlong, hshort, hdouble, hthin]
    rfl
  rw [hc]
  by_cases h1 : long
  · simp [h1]
  by_cases h2 : short
  · simp [h1, h2]
  by_cases h3 : skew
  · simp [h1, h2, h3]
  by_cases h4 : double
  · simp [h1, h2, h3, h4]
  by_cases h5 : thin <;> simp [h1, h2, h3, h4, h5]

theorem classifyEnvelope_first (c : Settings) (m : Measure) (atLimit : Bool) :
    let k := classifyEnvelope c m atLimit
    let badLength : Prop := atLimit = true ∨ m.short = true ∨ m.ls < 2 * c.envLengthMin
      ∨ 2 * (c.envLengthMax + 1) ≤ m.ls
    (k = .handBack .length ↔ badLength)
      ∧ (k = .handBack .thick ↔ ¬ badLength ∧ m.t > c.envThicknessMax)
      ∧ (k = .handBack .skew ↔ ¬ badLength ∧ ¬ m.t > c.envThicknessMax ∧ m.skew > c.skewEnv.value)
      ∧ (k = .accept ↔ ¬ badLength ∧ ¬ m.t > c.envThicknessMax ∧ ¬ m.skew > c.skewEnv.value) := by
  intro k badLength
  have hlen : (atLimit || m.short || m.ls / 2 < c.envLengthMin || c.envLengthMax < m.ls / 2) = true
      ↔ badLength := by
    obtain ⟨hmin, hmax⟩ := half_millimetres m.ls c.envLengthMin c.envLengthMax
    simp only [Bool.or_eq_true, decide_eq_true_eq, badLength, hmin, hmax, or_assoc]
  have hk : k = if badLength then .handBack .length else if m.t > c.envThicknessMax then .handBack .thick
      else if m.skew > c.skewEnv.value then .handBack .skew else .accept := by
    simp only [k, classifyEnvelope, hlen]
  rw [hk]
  by_cases h1 : badLength
  · simp [h1]
  by_cases h2 : m.t > c.envThicknessMax
  · simp [h1, h2]
  by_cases h3 : m.skew > c.skewEnv.value <;> simp [h1, h2, h3]

/-! ## Estimates -/

/-- Twice x over ref, halves up, is the one whole number within half of x over ref (R38). -/
theorem nearest_eq {x ref k : Nat} (href : 0 < ref) (hlo : (k : Rat) - 1 / 2 ≤ (x : Rat) / ref)
    (hhi : (x : Rat) / ref < (k : Rat) + 1 / 2) : (2 * x + ref) / (2 * ref) = k := by
  have hr : (0 : Rat) < ref := by exact_mod_cast href
  rw [le_div_iff₀ hr] at hlo
  rw [div_lt_iff₀ hr] at hhi
  have h1 : 2 * ref * k ≤ 2 * x + ref := by
    have : ((2 * ref * k : Nat) : Rat) ≤ ((2 * x + ref : Nat) : Rat) := by push_cast; linarith
    exact_mod_cast this
  have h2 : 2 * x + ref < 2 * ref * (k + 1) := by
    have : ((2 * x + ref : Nat) : Rat) < ((2 * ref * (k + 1) : Nat) : Rat) := by push_cast; linarith
    exact_mod_cast this
  have e1 : 2 * ref * k = k * (2 * ref) := Nat.mul_comm _ _
  have e2 : 2 * ref * (k + 1) = k * (2 * ref) + 2 * ref := by rw [Nat.mul_add, e1, Nat.mul_one]
  rw [Nat.div_eq_iff (by omega)]
  omega

theorem one_le_countedNotes (c : NoteClass) (m : Measure) (tRef lRef : Nat) :
    1 ≤ countedNotes c m tRef lRef := by
  cases c <;> simp [countedNotes, estimate]

/-! ## Learning -/

theorem learn_of_doubtful {st : Stock} (h : st.quality.isDoubtful = true) (ref : ItemStock) (m : Measure) :
    st.learn ref m = st := by
  simp [Stock.learn, h]

theorem learn_of_sound {st : Stock} (h : st.quality.isDoubtful = false) (ref : ItemStock) (m : Measure) :
    st.learn ref m
      = { st with tRef := learnThickness st ref.tRef m.t, lRef := learnLength st ref.lRef m.ls } := by
  simp [Stock.learn, h]

/-- Within bounds in order, a value held between them is the nearest to it that they admit. -/
theorem clampTo_spec {lo hi : Nat} (h : lo ≤ hi) (x : Int) :
    (clampTo lo hi x : Int) = max (lo : Int) (min (hi : Int) x) ∧ lo ≤ clampTo lo hi x
      ∧ clampTo lo hi x ≤ hi := by
  unfold clampTo
  omega

/-- The whole quotient of a step, rounded down on the signed value (R40, R41). -/
theorem floor_step (x ref c : Nat) (d : Nat) :
    ⌊(((x : Rat) - ref + c) / d)⌋ = ((x : Int) - ref + c) / d := by
  have : (((x : Rat) - ref + c) / d) = ((((x : Int) - ref + c : Int) : Rat) / ((d : Nat) : Rat)) := by
    push_cast; ring
  rw [this, Rat.floor_intCast_div_natCast]

end Sys2Proof.Machine

/-- Settles O32. -/
theorem classesFollowTheTests : Obligations.ClassesFollowTheTests := by
  exact ⟨Machine.classifyNote_first, Machine.classifyEnvelope_first⟩

/-- Settles O33. -/
theorem estimatesRoundToNearest : Obligations.EstimatesRoundToNearest := by
  refine ⟨fun x ref k href hlo hhi => ?_, fun m tRef lRef => ⟨rfl, rfl⟩, Machine.one_le_countedNotes⟩
  rw [Machine.estimate, Machine.nearest_eq href hlo hhi]

/-- Settles O34. -/
theorem referencesLearnWithinBounds : Obligations.ReferencesLearnWithinBounds := by
  intro st ref m
  refine ⟨fun h => Machine.learn_of_doubtful h ref m, fun h => ?_⟩
  rw [Machine.learn_of_sound h ref m]
  refine ⟨rfl, fun hb => ?_, fun hb => ?_⟩
  · have hf := Machine.floor_step m.t ref.tRef 8 16
    push_cast at hf
    rw [hf]
    exact Machine.clampTo_spec hb _
  · have hf := Machine.floor_step m.ls ref.lRef 16 32
    push_cast at hf
    rw [hf]
    exact Machine.clampTo_spec hb _

end

section
/-! PROOF. What the lookups over the live records find after a write: which records are live, and the reject vault's
(R1, R4, R10). -/

open Sys2Proof

namespace Sys2Proof.Machine

/-! ## The live records -/

/-- With legal generations the live records are those that their handles name (R1, R4). -/
theorem Ct.mem_live {ct : Ct} (hg : ct.generationsLegal = true) (h : Handle) (r : Record) :
    (h, r) ∈ ct.live ↔ ct.find h = some r := by
  rw [Ct.find_eq_some]
  simp only [Ct.live, List.mem_filterMap, Option.map_eq_some_iff, Prod.mk.injEq, Prod.exists,
    List.mk_mem_zipIdx_iff_getElem?, Vector.getElem?_toList]
  constructor
  · rintro ⟨sl, i, hsl, r', hr, rfl, rfl⟩
    have hi : i < 256 := (Vector.getElem?_eq_some_iff.mp hsl).1
    have hmem : sl ∈ ct.slots.toList := by
      rw [← Vector.getElem?_toList] at hsl
      exact List.mem_of_getElem? hsl
    have h0 : sl.gen ≠ 0 := by simpa using List.all_eq_true.mp hg sl hmem
    exact ⟨sl, by rw [handleSlot_handleOf _ hi, hsl], by simp, by simpa using h0, hr⟩
  · rintro ⟨sl, hsl, hgen, -, hr⟩
    exact ⟨sl, handleSlot h, hsl, r, hr,
      handle_ext (by simp [hgen]) (handleSlot_handleOf _ (handleSlot_lt h)), rfl⟩

/-- After a write of a live record the live records are the same, in the same order, but for that one. -/
theorem Ct.live_write {ct : Ct} {h : Handle} {x : Record} (hx : ct.find h = some x) (r : Record) :
    (ct.write h r).live = ct.live.map fun p => if p.1 = h then (h, r) else p := by
  obtain ⟨sl, hsl, hgen, h0, hr⟩ := (ct.find_eq_some h x).1 hx
  have hself : handleOf (handleGen h) (handleSlot h) = h :=
    handle_ext (by simp) (handleSlot_handleOf _ (handleSlot_lt h))
  have hset : (ct.slots.toList.set (handleSlot h) ⟨handleGen h, some r⟩).zipIdx
      = ct.slots.toList.zipIdx.map fun p =>
          if p.2 = handleSlot h then ((⟨handleGen h, some r⟩ : Slot), p.2) else p := by
    apply List.ext_getElem?
    intro j
    rw [List.getElem?_zipIdx, List.getElem?_map, List.getElem?_zipIdx, List.getElem?_set]
    by_cases hj : handleSlot h = j
    · subst hj
      simp [handleSlot_lt]
    · simp only [if_neg hj, Option.map_map]
      congr 1
      funext a
      simp [Ne.symm hj]
  have hw : ct.write h r
      = { ct with slots := ct.slots.setIfInBounds (handleSlot h) ⟨handleGen h, some r⟩ } := by
    unfold Ct.write; rw [hx]
  rw [hw]
  simp only [Ct.live, Vector.toList_setIfInBounds, hset, List.filterMap_map, List.map_filterMap]
  apply List.filterMap_congr
  rintro ⟨sl', j⟩ hj
  rw [List.mk_mem_zipIdx_iff_getElem?, Vector.getElem?_toList] at hj
  have hj256 : j < 256 := (Vector.getElem?_eq_some_iff.mp hj).1
  by_cases he : j = handleSlot h
  · subst he
    rw [hsl] at hj
    cases hj
    simp [hr, hgen, hself]
  · have hne : handleOf sl'.gen j ≠ h := fun c => he (by rw [← c, handleSlot_handleOf _ hj256])
    cases hrec : sl'.record <;> simp [he, hne, hrec]

theorem Ct.generationsLegal_write {ct : Ct} (hg : ct.generationsLegal = true) (h : Handle) (r : Record) :
    (ct.write h r).generationsLegal = true := by
  unfold Ct.write
  split
  · exact hg
  · next x hx =>
    obtain ⟨sl, -, -, h0, -⟩ := (ct.find_eq_some h x).1 hx
    rw [Ct.generationsLegal, List.all_eq_true] at hg ⊢
    intro y hy
    rw [Vector.toList_setIfInBounds] at hy
    rcases List.mem_or_eq_of_mem_set hy with hy | rfl
    · exact hg y hy
    · simpa using h0

/-! ## The reject vault -/

/-- The vault that a record is. -/
def Record.vault? : Record → Option Vault
  | .vault v => some v
  | _ => none

theorem Ct.vault?_eq (ct : Ct) : ct.vault? = ct.live.findSome? fun p => p.2.vault?.map fun v => (p.1, v) := by
  unfold Ct.vault?
  congr 1
  funext p
  obtain ⟨h, r⟩ := p
  cases r <;> rfl

theorem Ct.find_vault {ct : Ct} (hg : ct.generationsLegal = true) {h : Handle} {v : Vault}
    (hv : ct.vault? = some (h, v)) : ct.find h = some (.vault v) := by
  rw [Ct.vault?_eq] at hv
  obtain ⟨⟨k, r⟩, hmem, hr⟩ := List.exists_of_findSome?_eq_some hv
  cases r with
  | vault w =>
    cases hr
    exact (Ct.mem_live hg _ _).mp hmem
  | _ => cases hr

/-- A new figure of the vault: its record stays the vault's, with the new figure. -/
theorem Ct.vault?_write_vault {ct : Ct} (hg : ct.generationsLegal = true) {h : Handle} {v : Vault}
    (hv : ct.vault? = some (h, v)) (w : Vault) : (ct.write h (.vault w)).vault? = some (h, w) := by
  have hx := Ct.find_vault hg hv
  rw [Ct.vault?_eq] at hv ⊢
  rw [Ct.live_write hx, List.findSome?_map]
  generalize ct.live = l at hv
  induction l with
  | nil => cases hv
  | cons p l ih =>
    rw [List.findSome?_cons] at hv ⊢
    by_cases hp : p.1 = h
    · simp [hp, Record.vault?]
    · cases hr : p.2.vault? with
      | none => simpa [hp, hr] using ih (by simpa [hr] using hv)
      | some u => simp [hr, hp] at hv

/-- A write of a record that is not the vault's leaves the vault as it is. -/
theorem Ct.vault?_write_other {ct : Ct} (hg : ct.generationsLegal = true) {k : Handle} {x r : Record}
    (hx : ct.find k = some x) (hxv : x.vault? = none) (hrv : r.vault? = none) :
    (ct.write k r).vault? = ct.vault? := by
  have hall : ∀ p ∈ ct.live, (if p.1 = k then (k, r) else p).2.vault?.map
      (fun v => ((if p.1 = k then (k, r) else p).1, v)) = p.2.vault?.map fun v => (p.1, v) := by
    rintro ⟨h, y⟩ hp
    by_cases e : h = k
    · subst e
      have hy := (Ct.mem_live hg _ _).mp hp
      rw [hx] at hy
      cases hy
      simp [hxv, hrv]
    · simp [e]
  rw [Ct.vault?_eq, Ct.vault?_eq, Ct.live_write hx, List.findSome?_map]
  generalize ct.live = l at hall
  induction l with
  | nil => rfl
  | cons p l ih =>
    have hp := hall p List.mem_cons_self
    simp only [List.findSome?_cons, Function.comp_apply, hp]
    rw [show List.findSome? _ l = _ from ih fun q hq => hall q (List.mem_cons_of_mem _ hq)]

theorem Quality.isDoubtful_worse_doubtful (q : Quality) (c : DoubtCause) :
    (q.worse (.doubtful c)).isDoubtful = true := by
  cases q <;> rfl

variable {s : State}

theorem State.onVault_vault? (hg : s.ct.generationsLegal = true) {h : Handle} {v : Vault}
    (hv : s.ct.vault? = some (h, v)) (f : Vault → Vault) : (s.onVault f).ct.vault? = some (h, f v) := by
  simp only [State.onVault, hv, State.onCt_ct]
  exact Ct.vault?_write_vault hg hv _

/-- After a doubt the reject vault is DOUBTFUL (R14, R80). -/
theorem State.worsenVault_vaultDoubtful (hg : s.ct.generationsLegal = true) (c : DoubtCause) :
    (s.worsenVault (.doubtful c)).vaultDoubtful := by
  intro h v hv
  cases hs : s.ct.vault? with
  | none => simp [State.worsenVault, State.onVault, hs] at hv
  | some p =>
    rw [State.worsenVault, State.onVault_vault? hg hs] at hv
    cases hv
    exact Quality.isDoubtful_worse_doubtful _ _

end Sys2Proof.Machine

end

section
/-! PROOF. The leaders of both transports (R28, R65, R66, R81, R105, R109): what starts one, and what its end leaves. -/

open Sys2Proof Sys2Proof.Machine Host

namespace Sys2Proof.Machine
variable {s : State}

/-! ## How a leader starts -/

/-- A running motor, a running dump or an open gate holds the vibration zone's window open (R142). -/
theorem State.followVibration_of_cause (h : s.vibrationCause = true) :
    s.followVibration = { s with azu := { s.azu with vibration := ⟨true, .stopped⟩ } } := by
  simp [State.followVibration, State.onAzu, Window.follow, Window.cause, h]

theorem State.startNoteLeader_eq (s : State) :
    s.startNoteLeader = { s with
      ntc := { s.ntc with
        state := .leader, saved := none, diverter := .reject, leader := ⟨true, 0, false, false⟩
        motor := true, stallTimer := .running 100 }
      gmu := { s.gmu with note := ⟨true, true, 0, [], [], none⟩ }
      azu := { s.azu with vibration := ⟨true, .stopped⟩ } } := by
  unfold State.startNoteLeader State.startNoteMotor
  rw [State.followVibration_of_cause (by simp [State.vibrationCause])]
  rfl

theorem State.startEnvLeader_eq (s : State) :
    s.startEnvLeader = { s with
      ecc := { s.ecc with
        state := .leader, saved := none, feed := .stopped, selector := s.leaderBin
        leader := ⟨true, 0, false, false⟩, motor := true, stallTimer := .running 100 }
      gmu := { s.gmu with envelope := ⟨true, true, 0, [], [], none⟩ }
      azu := { s.azu with vibration := ⟨true, .stopped⟩ } } := by
  unfold State.startEnvLeader State.startEnvMotor
  rw [State.followVibration_of_cause (by simp [State.vibrationCause])]
  rfl

theorem State.enterNoteLeader_of_free (hp : s.pauseInForce = false) (hw : s.pins.warning = false) :
    s.enterNoteLeader = s.startNoteLeader := by
  simp [State.enterNoteLeader, hp, hw]

theorem State.enterEnvLeader_of_free (hp : s.pauseInForce = false) (hw : s.pins.warning = false) :
    s.enterEnvLeader = s.startEnvLeader := by
  simp [State.enterEnvLeader, hp, hw]

/-! ## Restart leaders -/

theorem Ntc.restartWaits_of_leader {n : Ntc} (h : n.state = .leader) (hl : n.leader.started = false)
    (hc : n.current = none) : n.restartWaits = true := by
  simp [Ntc.restartWaits, Ntc.phase, h, hl, hc]

theorem Ecc.restartWaits_of_leader {e : Ecc} (h : e.state = .leader) (hl : e.leader.started = false)
    (hc : e.current = none) : e.restartWaits = true := by
  simp [Ecc.restartWaits, Ecc.phase, h, hl, hc]

theorem State.startRestartNote_of_free (h : s.ntc.state = .leader) (hr : s.ntc.restartWaits = true)
    (hd : s.ct.holdDispenser = 0) (hj : s.ct.holdReject = 0) (hw : s.pins.warning = false) :
    s.startRestartNote = s.enterNoteLeader := by
  simp [State.startRestartNote, h, hr, hd, hj, hw]

theorem State.startRestartEnv_of_free (h : s.ecc.state = .leader) (hr : s.ecc.restartWaits = true)
    (hd : s.ct.holdCapture = 0) (hw : s.pins.warning = false) :
    s.startRestartEnv = if s.pauseInForce then s.pauseEnv else s.enterEnvLeader := by
  simp [State.startRestartEnv, h, hr, hd, hw]

theorem State.pauseEnv_of_leader (h : s.ecc.state = .leader) :
    s.pauseEnv = (s.onEcc fun e => { e with state := .paused, saved := some .leader }).suspendEnv := by
  simp [State.pauseEnv, State.onEcc, h]

/-! ## How a leader of the note transport ends -/

theorem State.noteLeaderOver_of_leader (hl : s.ntc.state = .leader) (hm : s.ntc.motor = true)
    (hd : s.ntc.leader.dumping = false) (hi : s.gmu.note.item = none) (empty : Bool) :
    s.noteLeaderOver empty = (s.onPins fun p => { p with stackerEmpty := empty }).noteLeaderDone := by
  simp [State.noteLeaderOver, hl, hm, hd, hi]

theorem State.currentBundle_eq_some {h : Handle} {b : Bundle} :
    s.currentBundle = some (h, b) ↔ s.ntc.current = some h ∧ s.ct.bundle? h = some b := by
  unfold State.currentBundle
  cases hc : s.ntc.current with
  | none => simp
  | some k => cases hb : s.ct.bundle? k <;> grind

/-- The pick of the plan's current part (R67). -/
theorem State.commandPick_eq {h : Handle} {b : Bundle} {p : Part} (hb : s.currentBundle = some (h, b))
    (hp : b.currentPart = some p) :
    s.commandPick = { s with ntc := { s.ntc with
      pick := some p.stock, lastPick := some p.stock, pickTimer := .running 400 } } := by
  simp [State.commandPick, hb, hp, State.onNtc]

theorem State.noteLeaderDone_of_bundle {h : Handle} {b : Bundle} {p : Part}
    (hb : s.currentBundle = some (h, b)) (he : s.ntc.pendingEnd = none) (hp : b.currentPart = some p) :
    s.noteLeaderDone = { s with ntc := { s.ntc with
      state := .picking, pick := some p.stock, lastPick := some p.stock, pickTimer := .running 400 } } := by
  have hc := (State.currentBundle_eq_some.mp hb).1
  have hb' : (s.onNtc fun n => { n with state := .picking }).currentBundle = some (h, b) := hb
  have hu : s.noteLeaderDone = (s.onNtc fun n => { n with state := .picking }).commandPick := by
    simp [State.noteLeaderDone, hc, he]
  rw [hu, State.commandPick_eq hb' hp]
  rfl

theorem State.stopNoteMotor_ntc (s : State) :
    s.stopNoteMotor.ntc = { s.ntc with motor := false, stallTimer := .stopped } := by
  simp [State.stopNoteMotor]

theorem State.startDump_ntc (s : State) :
    s.startDump.ntc = { s.ntc with dump := true, dumpTimer := .running 3000 } := by
  simp [State.startDump]

theorem State.haltNote_ntc (s : State) :
    s.haltNote.ntc = { s.ntc with
      motor := false, stallTimer := .stopped, dump := false, dumpTimer := .stopped
      pick := none, path := [], pickTimer := .stopped, exitTimer := .stopped, waitTimer := .stopped } := by
  simp [State.haltNote, State.stopNoteMotor, State.stopDump]

@[simp] theorem State.setWallFlag_wallFlag (s : State) (f : WallFlag) : (s.setWallFlag f).wallFlag f = true := by
  have hf : f.mask ≠ 0 := by cases f <;> decide
  have ha : (s.slp.wallFlags ||| f.mask) &&& f.mask = f.mask := by
    ext i
    simp
    tauto
  simpa [State.wallFlag, State.setWallFlag, ha] using hf

/-- An examination of an empty queue changes the RV-blocked mark alone (R58, R59). -/
theorem State.enterNoteIdle_of_empty (hq : s.dpl.queue = []) :
    s.enterNoteIdle = { s with
      ntc := { s.ntc with state := .idle, saved := none }, dpl := { s.dpl with rvBlocked := false } } := by
  simp [State.enterNoteIdle, State.examineQueue, State.onNtc, State.onDpl, hq]

theorem State.finishClear_of_clean (hi : s.ntc.leader.itemSeen = false) (hq : s.dpl.queue = []) :
    s.finishClear.ntc.motor = false ∧ s.finishClear.ntc.state = .idle ∧ s.finishClear.ntc.stackerCount = 0
      ∧ s.finishClear.ct = s.ct ∧ s.finishClear.wallFlag .transportJam = true := by
  have hf : s.finishClear
      = ((s.haltNote.onNtc fun n => { n with stackerCount := 0 }).setWallFlag .transportJam).enterNoteIdle := by
    simp [State.finishClear, hi]
  rw [hf, State.enterNoteIdle_of_empty (by simp [hq])]
  refine ⟨?_, rfl, ?_, ?_, State.setWallFlag_wallFlag _ _⟩
  · simp [State.haltNote_ntc]
  · simp
  · simp

theorem State.finishClear_of_seen (hi : s.ntc.leader.itemSeen = true) (hg : s.ct.generationsLegal = true) :
    s.finishClear.ntc.motor = false ∧ s.finishClear.ntc.state = .jammed ∧ s.finishClear.vaultDoubtful
      ∧ s.finishClear.wallFlag .transportJam = true := by
  have hf : s.finishClear = ((s.worsenVault (.doubtful .jam)).haltNote.onNtc fun n =>
      { n with state := .jammed, saved := none }).setWallFlag .transportJam := by
    simp [State.finishClear, hi]
  have hct : s.finishClear.ct = (s.worsenVault (.doubtful .jam)).ct := by simp [hf]
  refine ⟨?_, ?_, ?_, ?_⟩
  · simp [hf, State.haltNote_ntc]
  · simp [hf]
  · unfold State.vaultDoubtful
    rw [hct]
    exact State.worsenVault_vaultDoubtful hg .jam
  · rw [hf]
    exact State.setWallFlag_wallFlag _ _

/-- With the stacker not empty a clear's or restart's leader dumps first, its motor stopped (R81; log entry 43). -/
theorem State.noteLeaderDone_of_stacker (hc : s.ntc.current = none) (he : s.pins.stackerEmpty = false) :
    s.noteLeaderDone.ntc = { s.ntc with
        motor := false, stallTimer := .stopped, leader := { s.ntc.leader with dumping := true }
        dump := true, dumpTimer := .running 3000 }
      ∧ s.noteLeaderDone.ct = s.ct := by
  simp [State.noteLeaderDone, hc, he, State.startDump_ntc, State.stopNoteMotor_ntc]

theorem State.noteLeaderDone_of_clear (hc : s.ntc.current = none) (he : s.pins.stackerEmpty = true) :
    s.noteLeaderDone = s.finishClear := by
  simp [State.noteLeaderDone, hc, he]

/-! ## CLEAR_TRANSPORT (note) -/

theorem State.clearNoteOwner_of_granted (hg : s.grantOpen .dispenser = true) (hd : s.ct.holdDispenser = 0)
    (hj : s.ct.holdReject = 0) (hs : s.ntc.state = .jammed) (r : Role) :
    s.clearNoteOwner r () = (s.enterNoteLeader, .accepted .empty) := by
  refine State.unless_of_none (firstFailure_eq_none.mpr ?_)
  simp [hg, hd, hj, hs]

end Sys2Proof.Machine

/-- Settles O18. -/
theorem restartLeadersStart : Obligations.RestartLeadersStart := by
  refine ⟨fun s hl hs hc hd hj hw hp => ?_, fun s hl hs hc hh hw => ?_⟩
  · have hr := Ntc.restartWaits_of_leader hl hs hc
    show Outcome.next s.startRestartNote = _
    rw [State.startRestartNote_of_free hl hr hd hj hw, State.enterNoteLeader_of_free hp hw,
      State.startNoteLeader_eq, ← hl]
  · have hr := Ecc.restartWaits_of_leader hl hs hc
    have he := State.startRestartEnv_of_free hl hr hh hw
    refine ⟨fun hp => ?_, fun hp => ⟨s.pauseEnv, ?_, ?_⟩⟩
    · show Outcome.next s.startRestartEnv = _
      rw [he, if_neg (by simp [hp]), State.enterEnvLeader_of_free hp hw, State.startEnvLeader_eq, ← hl]
    · show Outcome.next s.startRestartEnv = _
      rw [he, if_pos hp]
    · rw [State.pauseEnv_of_leader hl]
      exact ⟨rfl, rfl, rfl, rfl, rfl, rfl, rfl, rfl, rfl⟩

/-- Settles O44. -/
theorem noteLeadersStartAndEnd : Obligations.NoteLeadersStartAndEnd := by
  refine ⟨?bundle, ?clear, ?request⟩
  case bundle =>
    intro s empty h b p hl hm hd hi hb he hp
    show Outcome.next (s.noteLeaderOver empty) = _
    rw [State.noteLeaderOver_of_leader hl hm hd hi,
      State.noteLeaderDone_of_bundle (s := s.onPins fun p => { p with stackerEmpty := empty }) hb he hp]
    rfl
  case clear =>
    intro s empty hl hm hd hi hc hq hg
    refine ⟨s.noteLeaderOver empty, rfl, ?_⟩
    rw [State.noteLeaderOver_of_leader hl hm hd hi]
    generalize hu : (s.onPins fun p => { p with stackerEmpty := empty }) = u
    have hframe : u.noteLeaderDone.ldc = s.ldc ∧ u.noteLeaderDone.ecc = s.ecc
        ∧ u.noteLeaderDone.azu.zones = s.azu.zones := by simp [← hu]
    obtain ⟨hldc, hecc, hazu⟩ := hframe
    have hcu : u.ntc.current = none := by simp [← hu, hc]
    have heu : u.pins.stackerEmpty = empty := by simp [← hu]
    cases empty with
    | false =>
      obtain ⟨hn, hct⟩ := State.noteLeaderDone_of_stacker hcu heu
      rw [hn, hct]
      refine ⟨rfl, hldc, hecc, hazu, nofun, nofun, fun _ => ?_⟩
      simp [← hu, hl]
    | true =>
      rw [State.noteLeaderDone_of_clear hcu heu] at *
      cases hseen : s.ntc.leader.itemSeen with
      | false =>
        obtain ⟨h1, h2, h3, h4, h5⟩ := State.finishClear_of_clean (s := u) (by simp [← hu, hseen])
          (by simp [← hu, hq])
        exact ⟨h1, hldc, hecc, hazu, fun _ _ => ⟨h2, h3, h4.trans (by simp [← hu]), h5⟩, nofun, nofun⟩
      | true =>
        obtain ⟨h1, h2, h3, h4⟩ := State.finishClear_of_seen (s := u) (by simp [← hu, hseen])
          (by simp [← hu, hg])
        exact ⟨h1, hldc, hecc, hazu, nofun, fun _ _ => ⟨h2, h3, h4⟩, nofun⟩
  case request =>
    intro s auth op r ha hg hd hj hs hw hp
    show Outcome.next (s.inTurn _ (s.request 0x57 auth op (some ()) State.clearNoteOwner)) = _
    rw [State.inTurn_of_free ha.1, State.request_of_admits ha rfl,
      State.clearNoteOwner_of_granted hg hd hj hs, State.enterNoteLeader_of_free hp hw, State.startNoteLeader_eq]
    rfl

end

section
/-! PROOF. The count of a note (R37 to R39, R68, R73, R132): what a hand-over writes into the stock, the reject vault
and the bundle, and what it leaves alone. -/

open Sys2Proof Sys2Proof.Machine Host

namespace Sys2Proof.Machine
variable {s : State}

/-! ## Records and their writes -/

theorem Ct.stock?_eq_some {ct : Ct} {h : Handle} {st : Stock} :
    ct.stock? h = some st ↔ ct.find h = some (.stock st) := by
  unfold Ct.stock?
  split <;> simp_all

theorem Ct.bundle?_eq_some {ct : Ct} {h : Handle} {b : Bundle} :
    ct.bundle? h = some b ↔ ct.find h = some (.bundle b) := by
  unfold Ct.bundle?
  split <;> simp_all

theorem Ct.bundle_ne_stock {ct : Ct} {h k : Handle} {st : Stock} {b : Bundle} (hs : ct.stock? h = some st)
    (hb : ct.bundle? k = some b) : k ≠ h := by
  rintro rfl
  rw [Ct.stock?_eq_some] at hs
  rw [Ct.bundle?_eq_some, hs] at hb
  cases hb

theorem Ct.vault_ne_stock {ct : Ct} (hg : ct.generationsLegal = true) {h d : Handle} {st : Stock} {v : Vault}
    (hs : ct.stock? h = some st) (hv : ct.vault? = some (d, v)) : d ≠ h := by
  rintro rfl
  rw [Ct.stock?_eq_some, Ct.find_vault hg hv] at hs
  cases hs

theorem Ct.bundle_ne_vault {ct : Ct} (hg : ct.generationsLegal = true) {k d : Handle} {b : Bundle} {v : Vault}
    (hb : ct.bundle? k = some b) (hv : ct.vault? = some (d, v)) : k ≠ d := by
  rintro rfl
  rw [Ct.bundle?_eq_some, Ct.find_vault hg hv] at hb
  cases hb

/-- What is found after two writes of live records, at two handles. -/
theorem Ct.find_write_two {ct : Ct} {h k : Handle} {x z x' z' : Record} (hx : ct.find h = some x)
    (hz : ct.find k = some z) (hk : k ≠ h) (j : Handle) :
    ((ct.write h x').write k z').find j = if j = k then some z' else if j = h then some x' else ct.find j := by
  have h1 : (ct.write h x').find k = some z := by rw [Ct.find_write _ hx, if_neg hk, hz]
  rw [Ct.find_write _ h1, Ct.find_write _ hx]

/-- What is found after three writes of live records, at three handles. -/
theorem Ct.find_write_three {ct : Ct} {h d k : Handle} {x y z x' y' z' : Record} (hx : ct.find h = some x)
    (hy : ct.find d = some y) (hz : ct.find k = some z) (hd : d ≠ h) (hk : k ≠ h) (hkd : k ≠ d) (j : Handle) :
    (((ct.write h x').write d y').write k z').find j
      = if j = k then some z' else if j = d then some y' else if j = h then some x' else ct.find j := by
  have h1 : (ct.write h x').find d = some y := by rw [Ct.find_write _ hx, if_neg hd, hy]
  have h2 : ((ct.write h x').write d y').find k = some z := by
    rw [Ct.find_write _ h1, if_neg hkd, Ct.find_write _ hx, if_neg hk, hz]
  rw [Ct.find_write _ h2, Ct.find_write _ h1, Ct.find_write _ hx]

/-- The vault after a stock's, its own and a bundle's write. -/
theorem Ct.vault?_write_three {ct : Ct} (hg : ct.generationsLegal = true) {h d k : Handle} {st : Stock} {v : Vault}
    {b : Bundle} (hs : ct.stock? h = some st) (hv : ct.vault? = some (d, v)) (hb : ct.bundle? k = some b)
    (st' : Stock) (v' : Vault) (b' : Bundle) :
    (((ct.write h (.stock st')).write d (.vault v')).write k (.bundle b')).vault? = some (d, v') := by
  have hfs := Ct.stock?_eq_some.mp hs
  have hg₁ := Ct.generationsLegal_write hg h (.stock st')
  have hv₁ : (ct.write h (.stock st')).vault? = some (d, v) := by rw [Ct.vault?_write_other hg hfs rfl rfl, hv]
  have hf₁ : (ct.write h (.stock st')).find k = some (.bundle b) := by
    rw [Ct.find_write _ hfs, if_neg (Ct.bundle_ne_stock hs hb), Ct.bundle?_eq_some.mp hb]
  have hf₂ : ((ct.write h (.stock st')).write d (.vault v')).find k = some (.bundle b) := by
    rw [Ct.find_write _ (Ct.find_vault hg₁ hv₁), if_neg (Ct.bundle_ne_vault hg hb hv), hf₁]
  rw [Ct.vault?_write_other (Ct.generationsLegal_write hg₁ _ _) hf₂ rfl rfl, Ct.vault?_write_vault hg₁ hv₁]

theorem State.onBundle_of_some {k : Handle} {b : Bundle} (hb : s.ct.bundle? k = some b) (f : Bundle → Bundle) :
    s.onBundle k f = s.onCt fun ct => ct.write k (.bundle (f b)) := by
  simp [State.onBundle, hb]

theorem State.onVault_of_some {h : Handle} {v : Vault} (hv : s.ct.vault? = some (h, v)) (f : Vault → Vault) :
    s.onVault f = s.onCt fun ct => ct.write h (.vault (f v)) := by
  simp [State.onVault, hv]

/-- A live stock's new record, its low-mark flag evaluated (R132). -/
theorem State.putStock_ct {h : Handle} {old : Stock} (hs : s.ct.stock? h = some old) (new : Stock) :
    (s.putStock h new).ct = s.ct.write h (.stock (Stock.evalLow old new s.set.lowMark)) := by
  simp only [State.putStock, hs]
  (repeat' split) <;> simp [State.invalidateQuotes]

/-- A change that does not make the stock DOUBTFUL cancels nothing (R62). -/
theorem State.changeStock_ct {h : Handle} {old : Stock} (hs : s.ct.stock? h = some old) {f : Stock → Stock}
    (hf : (f old).quality.isDoubtful = true → old.quality.isDoubtful = true) :
    (s.changeStock h f).ct = s.ct.write h (.stock (Stock.evalLow old (f old) s.set.lowMark)) := by
  have hc : (!old.quality.isDoubtful && (f old).quality.isDoubtful) = false := by
    cases ho : old.quality.isDoubtful <;> cases hn : (f old).quality.isDoubtful <;> simp_all
  simp only [State.changeStock, hs, hc, Bool.false_eq_true, if_false]
  exact State.putStock_ct hs _

theorem Stock.evalLow_quality (old new : Stock) (mark : Nat) :
    (Stock.evalLow old new mark).quality = new.quality := by
  unfold Stock.evalLow
  split <;> rfl

/-! ## A counted item -/

/-- A GOOD note within what the stock holds: one more picked and in bundles, one less reserved (R68). -/
theorem Stock.countItem_good {st : Stock} (h : st.pickedOut < st.loaded) :
    st.countItem true 1 .exact = { st with
      pickedOut := st.pickedOut + 1, inBundles := st.inBundles + 1, balance := .dirty
      reserved := st.reserved - 1 } := by
  have hq : st.quality.worse .exact = st.quality := by simp [Quality.worse, Quality.rank]
  simp [Stock.countItem, Stock.release, Stock.worsen, hq, Nat.not_lt.mpr h]

/-- Any other notes within what the stock holds: picked and rejected, the count ESTIMATED (R68). -/
theorem Stock.countItem_rejected {st : Stock} {n : Nat} (h : st.pickedOut + n ≤ st.loaded) (q : Quality) :
    st.countItem false n q = { st with
      pickedOut := st.pickedOut + n, rejected := st.rejected + n, balance := .dirty
      quality := st.quality.worse q } := by
  simp [Stock.countItem, Stock.toRejected, Stock.worsen, Nat.not_lt.mpr h]

theorem Quality.isDoubtful_worse_estimated (q : Quality) : (q.worse .estimated).isDoubtful = q.isDoubtful := by
  cases q <;> rfl

/-- Where remaining changes, the low-mark flag is that of the new remaining (R132). -/
theorem Stock.evalLow_of_changed {old new : Stock} (h : old.remaining ≠ new.remaining) (mark : Nat) :
    Stock.evalLow old new mark = { new with lowMark := decide (new.remaining ≤ mark) } := by
  simp [Stock.evalLow, h]

/-- Notes that the vault has space for (R10). -/
theorem Vault.add_of_space {v : Vault} {n : Nat} (h : v.count + n ≤ v.capacity) (q : Quality) :
    v.add n q = { v with count := v.count + n, quality := v.quality.worse q } := by
  simp [Vault.add, Nat.not_lt.mpr h]

theorem sum_stacked_modify (l : List Part) {i : Nat} (hi : i < l.length) :
    ((l.modify i fun p => { p with stacked := p.stacked + 1 }).map (·.stacked)).sum
      = (l.map (·.stacked)).sum + 1 := by
  induction l generalizing i with
  | nil => simp at hi
  | cons p l ih =>
    cases i with
    | zero => simp; omega
    | succ i =>
      have := ih (i := i) (by simpa using hi)
      simp only [List.modify_succ_cons, List.map_cons, List.sum_cons, this]
      omega

theorem targets_modify (l : List Part) (i : Nat) :
    (l.modify i fun p => { p with stacked := p.stacked + 1 }).map (·.target) = l.map (·.target) := by
  induction l generalizing i with
  | nil => cases i <;> rfl
  | cons p l ih =>
    cases i with
    | zero => rfl
    | succ i => simp [ih]

/-- The part that a plan is short of takes the note: its stacked count alone rises (R67, R68). -/
theorem Bundle.stackOne_of_short {b : Bundle} {p : Part} (hp : b.currentPart = some p) :
    b.stackOne.stackedSum = b.stackedSum + 1 ∧ b.stackOne.rejects = b.rejects
      ∧ b.stackOne.parts.map (·.target) = b.parts.map (·.target) := by
  have hex : ((b.parts.findIdx? fun p => p.stacked < p.target).isSome) = true := by
    rw [List.findIdx?_isSome, List.any_eq_true]
    exact ⟨p, List.mem_of_find?_eq_some hp, List.find?_some (p := fun q : Part => decide (q.stacked < q.target)) hp⟩
  obtain ⟨i, hi⟩ := Option.isSome_iff_exists.mp hex
  obtain ⟨hlt, -⟩ := List.findIdx?_eq_some_iff_getElem.mp hi
  have hb : b.stackOne
      = { b with parts := b.parts.modify i fun p => { p with stacked := p.stacked + 1 } } := by
    simp [Bundle.stackOne, hi]
  rw [hb]
  exact ⟨sum_stacked_modify _ hlt, rfl, targets_modify _ _⟩

@[simp] theorem Stock.learn_tallies (st : Stock) (ref : ItemStock) (m : Measure) :
    (st.learn ref m).loaded = st.loaded ∧ (st.learn ref m).pickedOut = st.pickedOut
      ∧ (st.learn ref m).inBundles = st.inBundles ∧ (st.learn ref m).reserved = st.reserved
      ∧ (st.learn ref m).quality = st.quality := by
  unfold Stock.learn
  split <;> simp

/-- The stock's record after a GOOD note within what it still holds (R39, R68, R132). -/
theorem Stock.evalLow_good {st : Stock} (h : st.pickedOut < st.loaded) (ref : ItemStock) (m : Measure)
    (mark : Nat) :
    Stock.evalLow st ((st.learn ref m).countItem true 1 .exact) mark = { st.learn ref m with
      pickedOut := st.pickedOut + 1, inBundles := st.inBundles + 1
      reserved := st.reserved - 1, balance := .dirty
      lowMark := decide (st.loaded - (st.pickedOut + 1) ≤ mark) } := by
  rw [Stock.countItem_good (by simpa using h), Stock.evalLow_of_changed (by simp [Stock.remaining]; omega)]
  simp [Stock.remaining]

/-- The stock's record after rejected notes within what it still holds (R68, R132). -/
theorem Stock.evalLow_rejected {st : Stock} {n : Nat} (h : st.pickedOut + n ≤ st.loaded) (hn : 0 < n)
    (q : Quality) (mark : Nat) :
    Stock.evalLow st (st.countItem false n q) mark = { st with
      pickedOut := st.pickedOut + n, rejected := st.rejected + n, balance := .dirty
      quality := st.quality.worse q
      lowMark := decide (st.loaded - (st.pickedOut + n) ≤ mark) } := by
  rw [Stock.countItem_rejected h, Stock.evalLow_of_changed (by simp [Stock.remaining]; omega)]
  simp [Stock.remaining]

/-! ## One change of counts -/

/-- A GOOD note is stacked for its bundle (R68). -/
def State.stackNote (s : State) (k : Handle) : State :=
  ((s.onBundle k Bundle.stackOne).onNtc fun m => { m with
    stackerCount := m.stackerCount + 1, diverter := .stack }).onPins fun p => { p with stackerEmpty := false }

/-- Any other item's notes go to the vault, and the bundle has one reject more (R68). -/
def State.rejectNotes (s : State) (k : Handle) (n : Nat) (q : Quality) : State :=
  ((s.addVault n q).onBundle k fun b => { b with rejects := b.rejects + 1 }).onNtc fun m =>
    { m with diverter := .reject }

/-- What a hand-over does after the stock's change (R68), with the check of R73. -/
def State.sortNote (s : State) (k : Handle) (good : Bool) (n : Nat) (q : Quality) : State :=
  if good then s.stackNote k else (s.rejectNotes k n q).checkRejectLimit

/-- A hand-over that does not make its stock DOUBTFUL is the stock's change and the sorting (R68). -/
theorem State.countItem_eq {h k : Handle} {st new : Stock} {good : Bool} {n : Nat} {q : Quality}
    {learn : Stock → Stock} (hs : s.ct.stock? h = some st) (hk : s.ntc.current = some k)
    (hnew : ((s.changeStock h fun st => (learn st).countItem good n q).sortNote k good n q).ct.stock? h
      = some new)
    (hq : new.quality.isDoubtful = st.quality.isDoubtful) :
    s.countItem h good n q learn
      = (s.changeStock h fun st => (learn st).countItem good n q).sortNote k good n q := by
  have hd : (!st.quality.isDoubtful && new.quality.isDoubtful) = false := by
    rw [hq]
    cases st.quality.isDoubtful <;> rfl
  unfold State.sortNote State.stackNote State.rejectNotes at hnew ⊢
  cases good <;> simp_all [State.countItem]

theorem State.stackNote_ct {k : Handle} {b : Bundle} (hb : s.ct.bundle? k = some b) :
    (s.stackNote k).ct = s.ct.write k (.bundle b.stackOne) := by
  simp [State.stackNote, State.onBundle_of_some hb]

theorem State.stackNote_frame (s : State) (k : Handle) :
    (s.stackNote k).ntc = { s.ntc with stackerCount := s.ntc.stackerCount + 1, diverter := .stack }
      ∧ (s.stackNote k).gmu = s.gmu ∧ (s.stackNote k).ldc = s.ldc ∧ (s.stackNote k).ecc = s.ecc
      ∧ (s.stackNote k).azu = s.azu := by
  simp [State.stackNote]

theorem State.rejectNotes_ct {k d : Handle} {b : Bundle} {v : Vault} (hb : s.ct.bundle? k = some b)
    (hg : s.ct.generationsLegal = true) (hv : s.ct.vault? = some (d, v)) (n : Nat) (q : Quality) :
    (s.rejectNotes k n q).ct
      = (s.ct.write d (.vault (v.add n q))).write k (.bundle { b with rejects := b.rejects + 1 }) := by
  have hfv := Ct.find_vault hg hv
  have hne := Ct.bundle_ne_vault hg hb hv
  have hbv : (s.addVault n q).ct.bundle? k = some b := by
    rw [Ct.bundle?_eq_some, State.addVault, State.onVault_of_some hv, State.onCt_ct, Ct.find_write _ hfv,
      if_neg hne]
    exact Ct.bundle?_eq_some.mp hb
  rw [State.rejectNotes, State.onBundle_of_some hbv]
  simp [State.addVault, State.onVault_of_some hv]

theorem State.rejectNotes_frame (s : State) (k : Handle) (n : Nat) (q : Quality) :
    (s.rejectNotes k n q).ntc = { s.ntc with diverter := .reject } ∧ (s.rejectNotes k n q).gmu = s.gmu
      ∧ (s.rejectNotes k n q).ldc = s.ldc ∧ (s.rejectNotes k n q).ecc = s.ecc
      ∧ (s.rejectNotes k n q).azu = s.azu ∧ (s.rejectNotes k n q).set = s.set := by
  simp [State.rejectNotes]

/-- With no ending decided, the reject that reaches the limit decides one (R73). -/
theorem State.checkRejectLimit_ntc {k : Handle} {b : Bundle} (hb : s.currentBundle = some (k, b))
    (he : s.ntc.pendingEnd = none) :
    s.checkRejectLimit.ntc = { s.ntc with
      pendingEnd := if s.set.rejectLimit ≤ b.rejects then some (.failed .rejectLimit) else none } := by
  by_cases h : s.set.rejectLimit ≤ b.rejects
  · simp [State.checkRejectLimit, hb, he, h]
  · simp [State.checkRejectLimit, hb, h, ← he]

/-! ## The hand-overs -/

/-- A GOOD note's change of counts, where the stock keeps its quality (R68). -/
theorem State.countItem_good {h k : Handle} {st st' : Stock} {b : Bundle} {learn : Stock → Stock}
    (hs : s.ct.stock? h = some st) (hb : s.currentBundle = some (k, b))
    (hst : Stock.evalLow st ((learn st).countItem true 1 .exact) s.set.lowMark = st')
    (hq : st'.quality = st.quality) :
    let t := s.countItem h true 1 .exact learn
    t.ct = (s.ct.write h (.stock st')).write k (.bundle b.stackOne)
      ∧ t.ntc = { s.ntc with stackerCount := s.ntc.stackerCount + 1, diverter := .stack }
      ∧ t.gmu = s.gmu ∧ t.ldc = s.ldc ∧ t.ecc = s.ecc ∧ t.azu = s.azu := by
  intro t
  obtain ⟨hcur, hbk⟩ := State.currentBundle_eq_some.mp hb
  have hne := Ct.bundle_ne_stock hs hbk
  let u := s.changeStock h fun st => (learn st).countItem true 1 .exact
  have hf : ((learn st).countItem true 1 .exact).quality = st.quality := by
    rw [← hq, ← hst, Stock.evalLow_quality]
  have hct : u.ct = s.ct.write h (.stock st') := hst ▸ State.changeStock_ct hs (by rw [hf]; exact id)
  have hfind (x : Handle) : u.ct.find x = if x = h then some (.stock st') else s.ct.find x := by
    rw [hct, Ct.find_write _ (Ct.stock?_eq_some.mp hs)]
  have hbu : u.ct.bundle? k = some b := by
    rw [Ct.bundle?_eq_some, hfind, if_neg hne]
    exact Ct.bundle?_eq_some.mp hbk
  have hsu : (u.stackNote k).ct.stock? h = some st' := by
    rw [Ct.stock?_eq_some, State.stackNote_ct hbu, Ct.find_write _ (Ct.bundle?_eq_some.mp hbu),
      if_neg hne.symm, hfind, if_pos rfl]
  have ht : t = u.stackNote k := State.countItem_eq hs hcur hsu (by rw [hq])
  have hframe : u.ntc = s.ntc ∧ u.gmu = s.gmu ∧ u.ldc = s.ldc ∧ u.ecc = s.ecc ∧ u.azu = s.azu := by
    simp [u]
  obtain ⟨hntc, hgmu, hldc, hecc, hazu⟩ := hframe
  obtain ⟨hn, hg, hl, he, ha⟩ := State.stackNote_frame u k
  rw [ht, State.stackNote_ct hbu, hn, hg, hl, he, ha, hct, hntc, hgmu, hldc, hecc, hazu]
  exact ⟨rfl, rfl, rfl, rfl, rfl, rfl⟩

/-- Rejected notes' change of counts, where the stock does not become DOUBTFUL and no ending is decided (R68, R73). -/
theorem State.countItem_rejected {h k d : Handle} {st st' : Stock} {b : Bundle} {v : Vault} {n : Nat}
    {q : Quality} (hs : s.ct.stock? h = some st) (hb : s.currentBundle = some (k, b))
    (hg : s.ct.generationsLegal = true) (hv : s.ct.vault? = some (d, v)) (he : s.ntc.pendingEnd = none)
    (hst : Stock.evalLow st (st.countItem false n q) s.set.lowMark = st')
    (hq : st'.quality.isDoubtful = st.quality.isDoubtful) :
    let t := s.countItem h false n q id
    t.ct = ((s.ct.write h (.stock st')).write d (.vault (v.add n q))).write k
        (.bundle { b with rejects := b.rejects + 1 })
      ∧ t.ntc = { s.ntc with
          diverter := .reject
          pendingEnd := if s.set.rejectLimit ≤ b.rejects + 1 then some (.failed .rejectLimit) else none }
      ∧ t.gmu = s.gmu ∧ t.ldc = s.ldc ∧ t.ecc = s.ecc ∧ t.azu = s.azu := by
  intro t
  obtain ⟨hcur, hbk⟩ := State.currentBundle_eq_some.mp hb
  have hne := Ct.bundle_ne_stock hs hbk
  have hfs := Ct.stock?_eq_some.mp hs
  have hfv := Ct.find_vault hg hv
  let u := s.changeStock h fun st => (id st).countItem false n q
  have hf : (st.countItem false n q).quality = st'.quality := by rw [← hst, Stock.evalLow_quality]
  have hct : u.ct = s.ct.write h (.stock st') :=
    hst ▸ State.changeStock_ct hs (by rw [id_eq, hf, hq]; exact id)
  have hgu : u.ct.generationsLegal = true := by rw [hct]; exact Ct.generationsLegal_write hg _ _
  have hvu : u.ct.vault? = some (d, v) := by
    rw [hct, Ct.vault?_write_other hg hfs rfl rfl, hv]
  have hbu : u.ct.bundle? k = some b := by
    rw [Ct.bundle?_eq_some, hct, Ct.find_write _ hfs, if_neg hne]
    exact Ct.bundle?_eq_some.mp hbk
  have hcr : (u.rejectNotes k n q).checkRejectLimit.ct
      = ((s.ct.write h (.stock st')).write d (.vault (v.add n q))).write k
          (.bundle { b with rejects := b.rejects + 1 }) := by
    rw [← hct, ← State.rejectNotes_ct hbu hgu hvu n q]
    simp
  have hfind := Ct.find_write_three hfs hfv (Ct.bundle?_eq_some.mp hbk) (Ct.vault_ne_stock hg hs hv) hne
    (Ct.bundle_ne_vault hg hbk hv) (x' := .stock st') (y' := .vault (v.add n q))
    (z' := .bundle { b with rejects := b.rejects + 1 })
  have hsr : ((u.rejectNotes k n q).checkRejectLimit).ct.stock? h = some st' := by
    rw [Ct.stock?_eq_some, hcr, hfind, if_neg hne.symm, if_neg (Ct.vault_ne_stock hg hs hv).symm, if_pos rfl]
  have ht : t = (u.rejectNotes k n q).checkRejectLimit := State.countItem_eq hs hcur hsr hq
  have hframe : u.ntc = s.ntc ∧ u.gmu = s.gmu ∧ u.ldc = s.ldc ∧ u.ecc = s.ecc ∧ u.azu = s.azu
      ∧ u.set = s.set := by
    simp [u]
  obtain ⟨hntc, hgmu, hldc, hecc, hazu, hset⟩ := hframe
  obtain ⟨hn, hg', hl, he', ha, hset'⟩ := State.rejectNotes_frame u k n q
  have hbr : (u.rejectNotes k n q).currentBundle = some (k, { b with rejects := b.rejects + 1 }) := by
    rw [State.currentBundle_eq_some, hn, hntc, Ct.bundle?_eq_some, ← (State.checkRejectLimit_frame _).1, hcr,
      hfind, if_pos rfl]
    exact ⟨hcur, rfl⟩
  refine ⟨by rw [ht, hcr], ?_, ?_⟩
  · rw [ht, State.checkRejectLimit_ntc hbr (by rw [hn, hntc]; exact he), hn, hntc, hset', hset]
  · simp [ht, hg', hl, he', ha, hgmu, hldc, hecc, hazu]

/-- A GOOD note's hand-over (R39, R40, R68): one write of its stock and one of its bundle. -/
theorem State.noteHandover_good {ref : ItemStock} {m : Measure} {st : Stock} {k : Handle} {b : Bundle}
    (hs : s.ct.stock? ref.stock = some st) (hlt : st.pickedOut < st.loaded) (hb : s.currentBundle = some (k, b))
    (hc : classifyNote m false ref.tRef ref.lRef s.set.lengthTolerance.value s.set.skewNote.value = .good) :
    let t := s.noteHandover ref m false
    t.ct = (s.ct.write ref.stock (.stock { st.learn ref m with
        pickedOut := st.pickedOut + 1, inBundles := st.inBundles + 1
        reserved := st.reserved - 1, balance := .dirty
        lowMark := decide (st.loaded - (st.pickedOut + 1) ≤ s.set.lowMark) })).write k (.bundle b.stackOne)
      ∧ t.ntc.stackerCount = s.ntc.stackerCount + 1 ∧ t.ntc.diverter = .stack
      ∧ t.gmu = s.gmu ∧ t.ldc = s.ldc ∧ t.ecc = s.ecc ∧ t.azu = s.azu := by
  simp only [State.noteHandover, hc, if_true]
  obtain ⟨hct, hntc, hframe⟩ := State.countItem_good (s := s.onNtc fun n => { n with
      path := changeLast (fun p => !p.counted) (fun p => { p with counted := true }) n.path })
    (learn := fun st => st.learn ref m) hs hb (Stock.evalLow_good hlt ref m s.set.lowMark)
    (Stock.learn_tallies st ref m).2.2.2.2
  rw [hntc]
  exact ⟨hct, rfl, rfl, hframe⟩

/-- A note at the length limit is LONG (R37). -/
theorem classifyNote_atLimit (m : Measure) (tRef lRef ltol skewLimit : Nat) :
    classifyNote m true tRef lRef ltol skewLimit = .long := by
  simp [classifyNote]

theorem estimate_pos (x ref : Nat) : 0 < estimate x ref :=
  Nat.lt_of_lt_of_le (by decide) (Nat.le_max_left ..)

/-- The hand-over at the length limit (R37 to R39, R68, R73): writes of the stock, the vault and the bundle. -/
theorem State.noteHandover_atLimit {ref : ItemStock} {m : Measure} {st : Stock} {k d : Handle} {b : Bundle}
    {v : Vault} (hs : s.ct.stock? ref.stock = some st) (hb : s.currentBundle = some (k, b))
    (he : s.ntc.pendingEnd = none) (hv : s.ct.vault? = some (d, v)) (hg : s.ct.generationsLegal = true)
    (hle : st.pickedOut + estimate m.ls ref.lRef ≤ st.loaded) :
    let n := estimate m.ls ref.lRef
    let t := s.noteHandover ref m true
    t.ct = ((s.ct.write ref.stock (.stock { st with
          pickedOut := st.pickedOut + n, rejected := st.rejected + n, balance := .dirty
          quality := st.quality.worse .estimated
          lowMark := decide (st.loaded - (st.pickedOut + n) ≤ s.set.lowMark) })).write d
            (.vault (v.add n .estimated))).write k (.bundle { b with rejects := b.rejects + 1 })
      ∧ t.ntc.diverter = .reject ∧ t.ntc.stackerCount = s.ntc.stackerCount
      ∧ t.ntc.pendingEnd = (if s.set.rejectLimit ≤ b.rejects + 1 then some (.failed .rejectLimit) else none)
      ∧ t.gmu = s.gmu ∧ t.ldc = s.ldc ∧ t.ecc = s.ecc ∧ t.azu = s.azu := by
  simp only [State.noteHandover, classifyNote_atLimit, reduceCtorEq, if_false]
  obtain ⟨hct, hntc, hframe⟩ := State.countItem_rejected (s := s.onNtc fun n => { n with
      path := changeLast (fun p => !p.counted) (fun p => { p with counted := true }) n.path })
    hs hb hg hv he (Stock.evalLow_rejected hle (estimate_pos ..) .estimated s.set.lowMark)
    (Quality.isDoubtful_worse_estimated st.quality)
  simp only [countedNotes, countQuality]
  rw [hntc]
  exact ⟨hct, rfl, rfl, rfl, hframe⟩

/-- The gauges of the note transport hold another item, or none (R30, R31). -/
def State.setNoteItem (s : State) (it : Option GaugeItem) : State :=
  s.onGmu fun g => { g with note := { g.note with item := it } }

/-- The end of an item not yet handed over is its hand-over and the item's end (R31, R39). -/
theorem State.noteEnds_eq {m : Measure} {it : GaugeItem} {ref : ItemStock} (h : s.sampling .note = true)
    (hi : s.gmu.note.item = some it) (hr : it.stock = some ref) (hc : it.classified = false) :
    s.noteEnds m = ((s.setNoteItem none).noteHandover ref m
      false).noteItemEnd := by
  simp only [State.noteEnds, State.sampledItem_of_sampling h, Gmu.get, hi, hr, hc, Bool.false_eq_true, if_false]
  rfl

/-- The length limit of a note not yet handed over is its hand-over as LONG (R32, R37). -/
theorem State.noteAtLimit_eq {it : GaugeItem} {ref : ItemStock} (h : s.sampling .note = true)
    (hi : s.gmu.note.item = some it) (hr : it.stock = some ref) (hc : it.classified = false) :
    s.noteAtLimit = (s.setNoteItem (some { it with classified := true })).noteHandover ref
      (it.measure (it.start + 700) (s.set.gauge .note).gainA (s.set.gauge .note).gainB) true := by
  simp only [State.noteAtLimit, State.sampledItem_of_sampling h, Gmu.get, hi, hr, hc, Bool.false_eq_true, if_false]
  rfl

/-- While no sample is taken neither the end of an item nor its limit does anything (log entry 6). -/
theorem exec_noteRows_of_not_sampling {m : Measure} (h : s.sampling .note = false) (hm : m.wf .note = true) :
    exec (.itemEnd .note m) s = .next s ∧ exec .noteLengthLimit s = .next s := by
  have hend : s.noteEnds m = s := by simp only [State.noteEnds, State.sampledItem_of_not_sampling h]
  have hlim : s.noteAtLimit = s := by simp only [State.noteAtLimit, State.sampledItem_of_not_sampling h]
  constructor
  · show (if m.wf .note then Outcome.next (s.noteEnds m) else _) = _
    rw [if_pos hm, hend]
  · show Outcome.next s.noteAtLimit = _
    rw [hlim]

end Sys2Proof.Machine

/-- Settles O45: the hand-overs' writes, read back from the table (R39, R68, R73, R132). -/
theorem notesAreCounted : Obligations.NotesAreCounted := by
  unfold Obligations.NotesAreCounted
  refine ⟨fun s m => exec_noteRows_of_not_sampling, ?_, ?_⟩
  · intro s m it ref st k b p hm hsm hi hr hc hs hlt hb hp hgood
    obtain ⟨hct, hstk, hdiv, hgmu, hldc, hecc, hazu⟩ :=
      State.noteHandover_good (s := s.setNoteItem none)
        hs hlt hb hgood
    obtain ⟨-, hbk⟩ := State.currentBundle_eq_some.mp hb
    have hne := Ct.bundle_ne_stock hs hbk
    have hfind := hct ▸ Ct.find_write_two (Ct.stock?_eq_some.mp hs) (Ct.bundle?_eq_some.mp hbk) hne
    obtain ⟨hsum, hrej, htar⟩ := Bundle.stackOne_of_short hp
    refine ⟨s.noteEnds m, b.stackOne, ?_, ?_, ?_, hsum, hrej, htar, ?_⟩
    · show (if m.wf .note then Outcome.next (s.noteEnds m) else _) = _
      rw [if_pos hm]
    all_goals rw [State.noteEnds_eq hsm hi hr hc]
    · rw [Ct.stock?_eq_some, (State.noteItemEnd_frame _).1, hfind, if_neg hne.symm, if_pos rfl]
      rfl
    · rw [Ct.bundle?_eq_some, (State.noteItemEnd_frame _).1, hfind, if_pos rfl]
    · refine ⟨fun x hxs hxk => ?_, hstk, hdiv, rfl, congrArg (·.note.item) hgmu, hldc, hecc, hazu⟩
      rw [(State.noteItemEnd_frame _).1, hfind, if_neg hxk, if_neg hxs]
  · intro s it ref st k b d v hsm hi hr hc hs hb he hv hg n hst hvs
    obtain ⟨hct, hdiv, hstk, hpe, hgmu, hldc, hecc, hazu⟩ :=
      State.noteHandover_atLimit (s := s.setNoteItem (some { it with classified := true }))
        (m := it.measure (it.start + 700) (s.set.gauge .note).gainA (s.set.gauge .note).gainB)
        hs hb he hv hg hst
    obtain ⟨-, hbk⟩ := State.currentBundle_eq_some.mp hb
    have hne := Ct.bundle_ne_stock hs hbk
    have hnv := Ct.vault_ne_stock hg hs hv
    have hbv := Ct.bundle_ne_vault hg hbk hv
    have hfind := hct ▸ Ct.find_write_three (Ct.stock?_eq_some.mp hs) (Ct.find_vault hg hv)
      (Ct.bundle?_eq_some.mp hbk) hnv hne hbv
    refine ⟨s.noteAtLimit, rfl, ?_⟩
    rw [State.noteAtLimit_eq hsm hi hr hc]
    refine ⟨?_, ?_, ?_, hdiv, hstk, hpe, ⟨{ it with classified := true }, congrArg (·.note.item) hgmu, rfl, rfl⟩,
      hldc, hecc, hazu⟩
    · rw [Ct.stock?_eq_some, hfind, if_neg hne.symm, if_neg hnv.symm, if_pos rfl]
      rfl
    · rw [hct, ← Vault.add_of_space hvs]
      exact Ct.vault?_write_three hg hs hv hbk _ _ _
    · rw [Ct.bundle?_eq_some, hfind, if_pos rfl]
end

section
/-! PROOF. The intake of an envelope (R106 to R111, R115, R116): the arbiter's choice, a throat taken, the reversal,
and the hand-over's ways. -/

open Sys2Proof Sys2Proof.Machine Host

namespace Sys2Proof.Machine
variable {s : State}

/-! ## The open condition and the arbiter -/

/-- The open condition reads CAPTURE_ENABLE, custody, the zones, the grants, the warning and whether the transport is
JAMMED (R106). -/
theorem State.openCondition_congr {u : State} (hset : u.set.captureEnable = s.set.captureEnable) (hct : u.ct = s.ct)
    (hz : u.azu.zones = s.azu.zones) (hg : u.azu.grants = s.azu.grants) (hp : u.pins.warning = s.pins.warning)
    (hu : u.ecc.state ≠ .jammed) (hs : s.ecc.state ≠ .jammed) : u.openCondition = s.openCondition := by
  have hu' : (u.ecc.state != .jammed) = true := bne_iff_ne.mpr hu
  have hs' : (s.ecc.state != .jammed) = true := bne_iff_ne.mpr hs
  simp only [State.openCondition, State.zoneInForce, State.grantOpen, hset, hct, hz, hg, hp, hu', hs']

theorem State.openCondition_warning (h : s.openCondition = true) : s.pins.warning = false := by
  simp only [State.openCondition, Bool.and_eq_true, Bool.not_eq_true'] at h
  exact h.2

theorem Throat.other_ne (t : Throat) : t.other ≠ t := by cases t <;> decide

theorem Throat.eq_or_other (t u : Throat) : u = t ∨ u = t.other := by cases t <;> cases u <;> decide

theorem Throat.forall_iff {p : Throat → Prop} (t : Throat) : (∀ x, p x) ↔ p t ∧ p t.other := by
  refine ⟨fun h => ⟨h t, h t.other⟩, fun ⟨h, ho⟩ x => ?_⟩
  obtain rfl | rfl := Throat.eq_or_other t x
  exacts [h, ho]

@[simp] theorem Throat.other_other (t : Throat) : t.other.other = t := by cases t <;> rfl

/-- The arbiter's order finds the throat not served last when both meet the condition (R108). -/
theorem Ecc.find_order_both {e : Ecc} {p : Throat → Bool} (h : p e.lastServed.other = true) :
    e.order.find? p = some e.lastServed.other := by
  simp [Ecc.order, h]

/-- The arbiter's order finds the only throat that meets the condition (R108). -/
theorem Ecc.find_order_only {e : Ecc} {p : Throat → Bool} {t : Throat} (h : p t = true)
    (hn : p t.other = false) : e.order.find? p = some t := by
  obtain rfl | rfl := Throat.eq_or_other e.lastServed t
  · simp [Ecc.order, h, hn]
  · simp [Ecc.order, h]

theorem State.overdueThroat_eq_none (h : ∀ t, (s.ecc.throats.get t).state ≠ .returnWait) :
    s.overdueThroat = none := by
  simp [State.overdueThroat, h]

/-- With no throat in RETURN_WAIT the free arbiter takes the waiting throat that its order finds (R108). -/
theorem State.arbitrate_of_waiting {t : Throat} (hs : s.ecc.state = .idle) (ho : s.openCondition = true)
    (hg : s.azu.grants.capture.state = .closed) (hr : ∀ t, (s.ecc.throats.get t).state ≠ .returnWait)
    (hf : s.ecc.order.find? (fun t => (s.ecc.throats.get t).state = .waiting) = some t) :
    s.arbitrate = s.takeThroat t false := by
  have hw := State.openCondition_warning ho
  have hwait : s.waitingThroat = some t := by rw [State.waitingThroat, if_pos ho, hf]
  simp [State.arbitrate, hs, hw, hg, State.overdueThroat_eq_none hr, hwait]

/-- The arbiter takes nothing with no throat in RETURN_WAIT and none waiting at a held open condition (R108). -/
theorem State.arbitrate_of_none (hr : ∀ t, (s.ecc.throats.get t).state ≠ .returnWait)
    (hn : s.openCondition = true → ∀ t, (s.ecc.throats.get t).state ≠ .waiting) : s.arbitrate = s := by
  have hwait : s.waitingThroat = none := by
    unfold State.waitingThroat
    split
    case isTrue h => simp [hn h]
    case isFalse => rfl
  simp [State.arbitrate, State.overdueThroat_eq_none hr, hwait]

/-! ## A throat taken -/

/-- A throat taken for intake, with no pause and no warning: its leader runs (R108, R109). -/
theorem State.takeThroat_of_free (hp : s.pauseInForce = false) (hw : s.pins.warning = false) (t : Throat) :
    s.takeThroat t false = { s with
      ecc := { s.ecc with
        throats := s.ecc.throats.put t { s.ecc.throats.get t with state := .intake, wait := .stopped, overdue := false }
        current := some ⟨t, false, none, none, none, none, false, false, false, false, false⟩
        lastServed := t, inFlight := true
        state := .leader, saved := none, feed := .stopped, selector := s.leaderBin
        leader := ⟨true, 0, false, false⟩, motor := true, stallTimer := .running 100 }
      gmu := { s.gmu with envelope := ⟨true, true, 0, [], [], none⟩ }
      azu := { s.azu with vibration := ⟨true, .stopped⟩ } } := by
  unfold State.takeThroat
  rw [State.enterEnvLeader_of_free (by exact hp) (by exact hw), State.startEnvLeader_eq]
  rfl

/-- A throat is taken for intake: its leader runs (R108, R109). -/
def State.Took (u : State) (x : Throat) : Prop :=
  u.ecc.state = .leader ∧ u.ecc.motor = true ∧ u.ecc.lastServed = x ∧ u.ecc.inFlight = true
    ∧ u.ecc.feed = .stopped ∧ (u.ecc.throats.get x).state = .intake
    ∧ ∃ c, u.ecc.current = some c ∧ c.throat = x ∧ c.recapture = false

theorem State.takeThroat_took (hp : s.pauseInForce = false) (hw : s.pins.warning = false) (t : Throat) :
    (s.takeThroat t false).Took t := by
  rw [State.takeThroat_of_free hp hw]
  exact ⟨rfl, rfl, rfl, rfl, rfl, by simp, _, rfl, rfl, rfl⟩

theorem State.takeThroat_other (hp : s.pauseInForce = false) (hw : s.pins.warning = false) {t x : Throat}
    (hx : x ≠ t) : (s.takeThroat t false).ecc.throats.get x = s.ecc.throats.get x := by
  rw [State.takeThroat_of_free hp hw]
  exact PerThroat.get_put_other _ _ hx

theorem State.enterEnvLeader_feed (s : State) :
    s.enterEnvLeader.ecc.feed = .stopped ∧ s.enterEnvLeader.ecc.intakeTimer = s.ecc.intakeTimer := by
  unfold State.enterEnvLeader
  (repeat' split) <;> simp [State.startEnvLeader_eq]

/-- What a take leaves still of a transport at rest (R108). -/
theorem State.takeThroat_feed (s : State) (t : Throat) (recapture : Bool) :
    (s.takeThroat t recapture).ecc.feed = .stopped
      ∧ (s.takeThroat t recapture).ecc.intakeTimer = s.ecc.intakeTimer := by
  simp [State.takeThroat, State.enterEnvLeader_feed, State.onThroat]

/-- The arbiter leaves custody and the link as they are, and of a transport at rest the feeds (R108). -/
theorem State.arbitrate_rest (hf : s.ecc.feed = .stopped) :
    s.arbitrate.ecc.feed = .stopped ∧ s.arbitrate.ecc.intakeTimer = s.ecc.intakeTimer
      ∧ s.arbitrate.ct = s.ct ∧ s.arbitrate.slp = s.slp := by
  unfold State.arbitrate
  (repeat' split) <;> simp [State.takeThroat_feed, hf]

/-! ## The end of the leader -/

theorem State.envLeaderOver_of_leader (hl : s.ecc.state = .leader) (hm : s.ecc.motor = true)
    (hi : s.gmu.envelope.item = none) : s.envLeaderOver = s.envLeaderDone := by
  simp [State.envLeaderOver, hl, hm, hi]

/-- The leader of an intake ends in MEASURING (R109). -/
theorem State.envLeaderDone_of_intake {e : CurrentEnv} (hc : s.ecc.current = some e) (hr : e.recapture = false) :
    s.envLeaderDone = { s with ecc := { s.ecc with
      state := .measuring, feed := .inward, intakeTimer := .running 2000
      current := some { e with sensorAtFeed := s.pins.throat.get e.throat } } } := by
  simp [State.envLeaderDone, hc, hr, State.onCurrent, State.onEcc]

/-- The leader of a recapture ends in RECAPTURE, out of measuring travel (R116). -/
theorem State.envLeaderDone_of_recapture {e : CurrentEnv} (hc : s.ecc.current = some e)
    (hr : e.recapture = true) :
    s.envLeaderDone = { s with
      gmu := { s.gmu with envelope := { s.gmu.envelope with measuring := false } }
      ecc := { s.ecc with
        state := .recapture, feed := .inward, recaptureTimer := .running 3000
        current := some { e with
          sensorAtFeed := s.pins.throat.get e.throat
          dest := s.ct.activeBin.map fun p => p.2.bin } } } := by
  simp [State.envLeaderDone, hc, hr, State.onCurrent, State.onEcc, State.setMeasuring, State.onGmu, Gmu.put, Gmu.get]

/-! ## The hand-over -/

/-- With the motor running and the mouth clear a reversal starts under the return limit (R115). -/
theorem State.startReverse_of_clear {e : CurrentEnv} (hc : s.ecc.current = some e) (hm : s.ecc.motor = true)
    (ht : s.pins.throat.get e.throat = false) :
    s.startReverse = { s with
      gmu := { s.gmu with envelope := { s.gmu.envelope with measuring := false } }
      ecc := { s.ecc with
        current := some e
        throats := s.ecc.throats.put e.throat
          { s.ecc.throats.get e.throat with state := .returning, shutterOpen := true }
        state := .reversing, saved := none, feed := .reverse
        intakeTimer := .stopped, forwardTimer := .stopped, recaptureTimer := .stopped
        returnTimer := .running 3000 } } := by
  simp [State.startReverse, hc, hm, ht, State.onThroat, State.onEcc, State.setMeasuring, State.onGmu, Gmu.put, Gmu.get]

/-- An envelope at the length limit is returned for its length (R42). -/
theorem classifyEnvelope_atLimit (c : Settings) (m : Measure) : classifyEnvelope c m true = .handBack .length := by
  simp [classifyEnvelope]

/-- An envelope of class ACCEPT goes FORWARD to the bin chosen (R110, R111). -/
theorem State.envHandover_of_accept {e : CurrentEnv} {m : Measure} {b : BinId} {atLimit : Bool}
    (hs : s.ecc.state = .measuring) (hc : s.ecc.current = some e) (hk : classifyEnvelope s.set m atLimit = .accept)
    (hb : s.chooseBin false = some b) :
    s.envHandover m atLimit = { s with ecc := { s.ecc with
      state := .forward, forwardTimer := .running 3000
      current := some { e with cls := some .accept, meas := some m, dest := some b } } } := by
  have hb' : (s.onCurrent fun e => { e with cls := some .accept, meas := some m }).chooseBin false = some b := hb
  have hu : s.envHandover m atLimit = ((s.onCurrent fun e => { e with cls := some .accept, meas := some m }).onCurrent
      fun e => { e with dest := some b }).onEcc fun e => { e with
        state := .forward, forwardTimer := .running 3000 } := by
    simp [State.envHandover, hs, hc, hk, hb']
  simp [hu, hc, State.onCurrent, State.onEcc]

/-- An envelope of class RETURN, or with no bin, is returned (R110, R111). -/
theorem State.envHandover_of_return {e : CurrentEnv} {m : Measure} {atLimit : Bool}
    (hs : s.ecc.state = .measuring) (hc : s.ecc.current = some e)
    (hk : classifyEnvelope s.set m atLimit ≠ .accept ∨ s.chooseBin false = none) (hw : s.pins.warning = false) :
    s.envHandover m atLimit = (s.onCurrent fun e => { e with
      cls := some (classifyEnvelope s.set m atLimit), meas := some m }).startReverse := by
  have hr : (s.onCurrent fun e => { e with
      cls := some (classifyEnvelope s.set m atLimit), meas := some m }).reverseEnv
      = (s.onCurrent fun e => { e with
          cls := some (classifyEnvelope s.set m atLimit), meas := some m }).startReverse := by
    simp [State.reverseEnv, State.onCurrent, hs, hw]
  rw [← hr]
  cases hcls : classifyEnvelope s.set m atLimit with
  | handBack r => simp [State.envHandover, hs, hc, hcls]
  | accept =>
    have hb : (s.onCurrent fun e => { e with cls := some .accept, meas := some m }).chooseBin false = none :=
      hk.resolve_left (by simp [hcls])
    simp [State.envHandover, hs, hc, hcls, hb]

/-- A returned envelope with the mouth clear: the transport reverses under the return limit (R115). -/
theorem State.envHandover_reverses {e : CurrentEnv} {m : Measure} {atLimit : Bool} (hs : s.ecc.state = .measuring)
    (hc : s.ecc.current = some e) (hm : s.ecc.motor = true) (hw : s.pins.warning = false)
    (ht : s.pins.throat.get e.throat = false)
    (hk : classifyEnvelope s.set m atLimit ≠ .accept ∨ s.chooseBin false = none) :
    s.envHandover m atLimit = { s with
      gmu := { s.gmu with envelope := { s.gmu.envelope with measuring := false } }
      ecc := { s.ecc with
        current := some { e with cls := some (classifyEnvelope s.set m atLimit), meas := some m }
        throats := s.ecc.throats.put e.throat
          { s.ecc.throats.get e.throat with state := .returning, shutterOpen := true }
        state := .reversing, saved := none, feed := .reverse
        intakeTimer := .stopped, forwardTimer := .stopped, recaptureTimer := .stopped
        returnTimer := .running 3000 } } := by
  have hcur : (s.onCurrent fun e => { e with
      cls := some (classifyEnvelope s.set m atLimit), meas := some m }).ecc.current
        = some { e with cls := some (classifyEnvelope s.set m atLimit), meas := some m } :=
    congrArg (Option.map _) hc
  rw [State.envHandover_of_return hs hc hk hw, State.startReverse_of_clear hcur hm ht]
  rfl

/-- The gauges of the envelope transport hold another item, or none (R30, R31). -/
def State.setEnvItem (s : State) (it : Option GaugeItem) : State :=
  s.onGmu fun g => { g with envelope := { g.envelope with item := it } }

theorem State.envEnds_eq {m : Measure} {it : GaugeItem} (h : s.sampling .envelope = true)
    (hi : s.gmu.envelope.item = some it) (hc : it.classified = false) :
    s.envEnds m = ((s.setEnvItem none).envHandover m false).envItemEnd := by
  simp only [State.envEnds, State.sampledItem_of_sampling h, Gmu.get, hi, hc, Bool.false_eq_true, if_false]
  rfl

theorem State.envAtLimit_eq {thickness skew : Nat} {it : GaugeItem} (h : s.sampling .envelope = true)
    (hi : s.gmu.envelope.item = some it) (hc : it.classified = false) :
    s.envAtLimit thickness skew = (s.setEnvItem (some { it with classified := true })).envHandover
      ⟨(it.measure (it.start + 640) (s.set.gauge .envelope).gainA (s.set.gauge .envelope).gainB).ls, thickness, skew,
        false⟩ true := by
  simp only [State.envAtLimit, State.sampledItem_of_sampling h, Gmu.get, hi, hc, Bool.false_eq_true, if_false]
  rfl

/-- The envelope served is returned with class `k`: the transport reverses (R115). -/
def State.Returned (s u : State) (e : CurrentEnv) (k : EnvClass) : Prop :=
  u.ecc.state = .reversing ∧ u.ecc.feed = .reverse ∧ u.ecc.motor = true
    ∧ u.ecc.returnTimer = .running 3000 ∧ u.ecc.intakeTimer = .stopped
    ∧ u.gmu.envelope.measuring = false
    ∧ (u.ecc.throats.get e.throat).state = .returning
    ∧ (u.ecc.throats.get e.throat).shutterOpen = true
    ∧ u.ecc.throats.get e.throat.other = s.ecc.throats.get e.throat.other
    ∧ (∃ c, u.ecc.current = some c ∧ c.throat = e.throat ∧ c.cls = some k ∧ c.meas.isSome = true
        ∧ c.number = e.number)
    ∧ u.ct = s.ct ∧ u.ntc = s.ntc ∧ u.ldc = s.ldc ∧ u.pins = s.pins ∧ u.slp = s.slp

theorem State.envHandover_returned {e : CurrentEnv} {m : Measure} {atLimit : Bool} (hs : s.ecc.state = .measuring)
    (hc : s.ecc.current = some e) (hm : s.ecc.motor = true) (hw : s.pins.warning = false)
    (hpin : s.pins.throat.get e.throat = false)
    (hk : classifyEnvelope s.set m atLimit ≠ .accept ∨ s.chooseBin false = none) (it : Option GaugeItem) :
    s.Returned ((s.setEnvItem it).envHandover m atLimit) e (classifyEnvelope s.set m atLimit)
      ∧ ((s.setEnvItem it).envHandover m atLimit).gmu.envelope.item = it := by
  rw [State.envHandover_reverses (s := s.setEnvItem it) hs hc hm hw hpin hk]
  refine ⟨⟨rfl, rfl, hm, rfl, rfl, rfl, ?_, ?_, ?_, ⟨_, rfl, rfl, rfl, rfl, rfl⟩,
    rfl, rfl, rfl, rfl, rfl⟩, rfl⟩
  · simp
  · simp
  · exact PerThroat.get_put_other _ _ (Throat.other_ne _)

theorem State.Returned.envItemEnd {u : State} {e : CurrentEnv} {k : EnvClass} (h : s.Returned u e k) :
    s.Returned u.envItemEnd e k := by
  obtain ⟨h1, h2, h3, h4, h5, h6, h7, h8, h9, ⟨c, hc, hcur⟩, hrest⟩ := h
  exact ⟨h1, h2, h3, h4, h5, h6, h7, h8, h9, ⟨_, congrArg (Option.map _) hc, hcur⟩, hrest⟩

/-- The envelope gauge samples only with the motor running (R27). -/
theorem State.motor_of_sampling (h : s.sampling .envelope = true) : s.ecc.motor = true := by
  simp only [State.sampling, Bool.and_eq_true] at h
  exact h.1.1

theorem exec_itemEnd_envelope {m : Measure} (hm : m.wf .envelope = true) (s : State) :
    exec (.itemEnd .envelope m) s = .next (s.envEnds m) := by
  show (if m.wf .envelope then Outcome.next (s.envEnds m) else _) = _
  rw [if_pos hm]

theorem exec_envelopeLengthLimit {thickness : Nat} (ht : thickness ≤ 16316) (skew : Nat) (s : State) :
    exec (.envelopeLengthLimit thickness skew) s = .next (s.envAtLimit thickness skew) := by
  have hwf : (Instr.envelopeLengthLimit thickness skew).wf = true := decide_eq_true ht
  show (if (Instr.envelopeLengthLimit thickness skew).wf then Outcome.next (s.envAtLimit thickness skew) else _) = _
  rw [if_pos hwf]

/-- While no sample is taken neither the end of an item nor its limit does anything (log entry 6). -/
theorem exec_envRows_of_not_sampling {m : Measure} {thickness skew : Nat} (h : s.sampling .envelope = false)
    (hm : m.wf .envelope = true) (ht : thickness ≤ 16316) :
    exec (.itemEnd .envelope m) s = .next s ∧ exec (.envelopeLengthLimit thickness skew) s = .next s := by
  have hend : s.envEnds m = s := by simp only [State.envEnds, State.sampledItem_of_not_sampling h]
  have hlim : s.envAtLimit thickness skew = s := by
    simp only [State.envAtLimit, State.sampledItem_of_not_sampling h]
  rw [exec_itemEnd_envelope hm, exec_envelopeLengthLimit ht, hend, hlim]
  exact ⟨rfl, rfl⟩

/-! ## The intake limit -/

theorem State.haltEnv_ecc (s : State) :
    s.haltEnv.ecc = { s.ecc with
      motor := false, feed := .stopped, stallTimer := .stopped, intakeTimer := .stopped
      forwardTimer := .stopped, returnTimer := .stopped, recaptureTimer := .stopped } := by
  simp [State.haltEnv, State.stopEnvMotor]

/-- CAPTURE_ENABLE is no gauge setting: the run's end leaves it (R44). -/
theorem State.haltEnv_captureEnable (s : State) : s.haltEnv.set.captureEnable = s.set.captureEnable := by
  unfold State.haltEnv State.runEnd
  split <;> simp [Settings.applyGauge]

/-- The transport at rest after an intake that drew nothing, before the arbiter examines (R109). -/
def State.intakeEnded (s : State) (e : CurrentEnv) : State :=
  (if s.pins.throat.get e.throat then s.haltEnv.backToWaiting e.throat
    else s.haltEnv.settleThroat e.throat).enterEnvIdle

theorem State.intakeOut_eq {e : CurrentEnv} (hs : s.ecc.state = .measuring) (hc : s.ecc.current = some e)
    (ht : s.ecc.intakeTimer.isRunning = true) : s.intakeOut = (s.intakeEnded e).arbitrate := by
  have hp : s.haltEnv.pins = s.pins := by simp
  simp only [State.intakeOut, hs, hc, ht, if_true, hp, State.intakeEnded]

/-- The throat that drew nothing: WAITING while its sensor reads PRESENT, as the open condition has it otherwise. -/
def State.intakeThroat (s : State) (t : Throat) : ThroatUnit :=
  if s.pins.throat.get t then { s.ecc.throats.get t with state := .waiting, shutterOpen := true }
  else (s.ecc.throats.get t).settle s.openCondition

theorem State.intakeEnded_ecc {e : CurrentEnv} (hs : s.ecc.state = .measuring) :
    (s.intakeEnded e).ecc = { s.ecc with
      throats := s.ecc.throats.put e.throat (s.intakeThroat e.throat)
      state := .idle, saved := none, current := none, inFlight := false
      motor := false, feed := .stopped, stallTimer := .stopped, intakeTimer := .stopped
      forwardTimer := .stopped, returnTimer := .stopped, recaptureTimer := .stopped } := by
  have ho : s.haltEnv.openCondition = s.openCondition := by
    apply State.openCondition_congr (State.haltEnv_captureEnable s) <;> simp [State.haltEnv_ecc, hs]
  unfold State.intakeEnded State.intakeThroat
  split <;> simp [State.backToWaiting, State.settleThroat, State.onThroat, State.enterEnvIdle, ho, State.haltEnv_ecc]

/-- What an intake's end leaves unchanged beside the transport and its gauge. -/
theorem State.intakeEnded_frame (s : State) (e : CurrentEnv) :
    (s.intakeEnded e).ct = s.ct ∧ (s.intakeEnded e).ntc = s.ntc ∧ (s.intakeEnded e).ldc = s.ldc
      ∧ (s.intakeEnded e).pins = s.pins ∧ (s.intakeEnded e).slp = s.slp
      ∧ (s.intakeEnded e).azu.zones = s.azu.zones ∧ (s.intakeEnded e).azu.grants = s.azu.grants
      ∧ (s.intakeEnded e).set.captureEnable = s.set.captureEnable := by
  unfold State.intakeEnded
  split <;> simp [State.haltEnv_captureEnable]

theorem State.intakeEnded_openCondition {e : CurrentEnv} (hs : s.ecc.state = .measuring) :
    (s.intakeEnded e).openCondition = s.openCondition := by
  obtain ⟨hct, -, -, hpins, -, hz, hg, hset⟩ := State.intakeEnded_frame s e
  exact State.openCondition_congr hset hct hz hg (by rw [hpins]) (by simp [State.intakeEnded_ecc hs]) (by simp [hs])

theorem State.intakeEnded_get {e : CurrentEnv} (hs : s.ecc.state = .measuring) (x : Throat) :
    (s.intakeEnded e).ecc.throats.get x
      = if x = e.throat then s.intakeThroat e.throat else s.ecc.throats.get x := by
  rw [State.intakeEnded_ecc hs]
  exact PerThroat.get_put ..

theorem State.intakeEnded_pauseInForce (s : State) (e : CurrentEnv) :
    (s.intakeEnded e).pauseInForce = s.pauseInForce := by
  obtain ⟨-, -, -, -, -, hz, -, -⟩ := State.intakeEnded_frame s e
  simp only [State.pauseInForce, State.zoneInForce, hz]

theorem State.intakeThroat_of_present {t : Throat} (h : s.pins.throat.get t = true) :
    s.intakeThroat t = { s.ecc.throats.get t with state := .waiting, shutterOpen := true } := if_pos h

theorem State.intakeThroat_of_empty {t : Throat} (h : s.pins.throat.get t = false) :
    s.intakeThroat t = (s.ecc.throats.get t).settle s.openCondition := if_neg (by simp [h])

/-- A settled throat is OPEN or CLOSED. -/
theorem ThroatUnit.settle_state (u : ThroatUnit) (holds : Bool) :
    (u.settle holds).state ≠ .waiting ∧ (u.settle holds).state ≠ .returnWait := by
  cases holds <;> simp [ThroatUnit.settle]

/-- The arbiter after an intake that drew nothing finds no throat to take (R108, R109). -/
theorem State.arbitrate_intakeEnded_none {e : CurrentEnv} (hs : s.ecc.state = .measuring)
    (hw : (s.ecc.throats.get e.throat.other).state ≠ .waiting)
    (hr : (s.ecc.throats.get e.throat.other).state ≠ .returnWait)
    (hn : s.pins.throat.get e.throat = true → s.openCondition = false) :
    (s.intakeEnded e).arbitrate = s.intakeEnded e := by
  have hother : (s.intakeEnded e).ecc.throats.get e.throat.other = s.ecc.throats.get e.throat.other := by
    rw [State.intakeEnded_get hs, if_neg (Throat.other_ne _)]
  have hself : (s.intakeEnded e).ecc.throats.get e.throat = s.intakeThroat e.throat := by
    rw [State.intakeEnded_get hs, if_pos rfl]
  refine State.arbitrate_of_none ((Throat.forall_iff e.throat).mpr ⟨?_, by rwa [hother]⟩) fun ho =>
    (Throat.forall_iff e.throat).mpr ⟨?_, by rwa [hother]⟩
  all_goals rw [hself]
  · cases hpin : s.pins.throat.get e.throat with
    | true => simp [State.intakeThroat_of_present hpin]
    | false => exact State.intakeThroat_of_empty hpin ▸ (ThroatUnit.settle_state _ _).2
  · cases hpin : s.pins.throat.get e.throat with
    | true => exact absurd (State.intakeEnded_openCondition hs ▸ ho) (by simp [hn hpin])
    | false => exact State.intakeThroat_of_empty hpin ▸ (ThroatUnit.settle_state _ _).1

/-- The arbiter after an intake that drew nothing takes the only throat that waits (R108, R109). -/
theorem State.arbitrate_intakeEnded_of_waiting {e : CurrentEnv} {x : Throat} (hs : s.ecc.state = .measuring)
    (ho : s.openCondition = true) (hg : s.azu.grants.capture.state = .closed)
    (hx : ((s.intakeEnded e).ecc.throats.get x).state = .waiting)
    (hw : ((s.intakeEnded e).ecc.throats.get x.other).state ≠ .waiting)
    (hr : ((s.intakeEnded e).ecc.throats.get x.other).state ≠ .returnWait) :
    (s.intakeEnded e).arbitrate = (s.intakeEnded e).takeThroat x false := by
  obtain ⟨-, -, -, -, -, -, hgr, -⟩ := State.intakeEnded_frame s e
  refine State.arbitrate_of_waiting (by rw [State.intakeEnded_ecc hs])
    ((State.intakeEnded_openCondition hs).trans ho) (by rw [hgr, hg])
    ((Throat.forall_iff x).mpr ⟨by simp [hx], hr⟩) (Ecc.find_order_only ?_ ?_)
  · simp [hx]
  · simp [hw]

/-! ## A throat sensor that changes to PRESENT -/

/-- An OPEN throat whose sensor changes to PRESENT waits (R107). -/
def State.throatWaits (s : State) (t : Throat) : State :=
  (s.onPins fun p => { p with throat := p.throat.put t true }).onThroat t fun u => { u with state := .waiting }

theorem State.throatChange_of_present {t : Throat} (hp : s.pins.throat.get t = false)
    (ho : (s.ecc.throats.get t).state = .opened) : s.throatChange t true = (s.throatWaits t).arbitrate := by
  simp [State.throatChange, hp, ho, State.throatWaits]

theorem State.throatWaits_get (s : State) (t x : Throat) :
    ((s.throatWaits t).ecc.throats.get x)
      = if x = t then { s.ecc.throats.get t with state := .waiting } else s.ecc.throats.get x :=
  PerThroat.get_put ..

/-- The arbiter takes the throat that alone waits (R107, R108). -/
theorem State.arbitrate_throatWaits_only {t : Throat} (hs : s.ecc.state = .idle)
    (hg : s.azu.grants.capture.state = .closed) (ho : s.openCondition = true)
    (hw : (s.ecc.throats.get t.other).state ≠ .waiting) (hr : (s.ecc.throats.get t.other).state ≠ .returnWait) :
    (s.throatWaits t).arbitrate = (s.throatWaits t).takeThroat t false := by
  have hself : ((s.throatWaits t).ecc.throats.get t).state = .waiting := by
    rw [State.throatWaits_get, if_pos rfl]
  have hother : (s.throatWaits t).ecc.throats.get t.other = s.ecc.throats.get t.other := by
    rw [State.throatWaits_get, if_neg (Throat.other_ne t)]
  refine State.arbitrate_of_waiting hs ho hg ((Throat.forall_iff t).mpr ⟨by simp [hself], by rwa [hother]⟩)
    (Ecc.find_order_only ?_ ?_)
  · simp [hself]
  · simp [hother, hw]

/-- Of two waiting throats the arbiter takes the one not served last (R108). -/
theorem State.arbitrate_throatWaits_both {t : Throat} (hs : s.ecc.state = .idle)
    (hg : s.azu.grants.capture.state = .closed) (ho : s.openCondition = true)
    (hall : ∀ x, ((s.throatWaits t).ecc.throats.get x).state = .waiting) :
    (s.throatWaits t).arbitrate = (s.throatWaits t).takeThroat s.ecc.lastServed.other false :=
  State.arbitrate_of_waiting hs ho hg (by simp [hall])
    (Ecc.find_order_both (e := (s.throatWaits t).ecc) (by simp [hall]))

end Sys2Proof.Machine

/-- Settles O53. -/
theorem envelopesAreTakenIn : Obligations.EnvelopesAreTakenIn := by
  unfold Obligations.EnvelopesAreTakenIn
  intro taken returned
  refine ⟨?arrival, ?leader, ?unsampled, ?handover, ?limit⟩
  case arrival =>
    intro s t hpin ho hs hw hg hopen hp
    have hpw : (s.throatWaits t).pauseInForce = false := hp
    have hww : (s.throatWaits t).pins.warning = false := hw
    have hexec : exec (.throatSensorChange t true) s = .next (s.throatWaits t).arbitrate :=
      congrArg Outcome.next (State.throatChange_of_present hpin ho)
    refine ⟨fun hother => ?_, fun hother => ?_⟩
    · simp only [List.mem_cons, List.not_mem_nil, or_false, not_or] at hother
      rw [State.arbitrate_throatWaits_only hs hg hopen hother.1 hother.2,
        State.takeThroat_of_free hpw hww] at hexec
      refine ⟨_, hexec, rfl, ?_, ?_, ?_, rfl, rfl, rfl, ⟨_, rfl, rfl, rfl, rfl, rfl, rfl⟩,
        rfl, rfl, rfl, rfl, rfl, rfl, rfl, rfl, rfl⟩
      · simp
      · simp [State.throatWaits_get]
      · simp [State.throatWaits_get, PerThroat.get_put, Throat.other_ne]
    · have hall : ∀ x, ((s.throatWaits t).ecc.throats.get x).state = .waiting := by
        refine (Throat.forall_iff t).mpr ⟨?_, ?_⟩ <;> simp [State.throatWaits_get, Throat.other_ne, hother]
      rw [State.arbitrate_throatWaits_both hs hg hopen hall] at hexec
      obtain ⟨hct, -, hntc, hldc, hslp, -, -, -, hpins, -⟩ :=
        State.takeThroat_frame (s.throatWaits t) s.ecc.lastServed.other false
      refine ⟨_, hexec, State.takeThroat_took hpw hww _, hpins, ?_, hct, hntc, hldc, hslp⟩
      rw [State.takeThroat_other hpw hww (Throat.other_ne _).symm]
      exact hall _
  case leader =>
    intro s e hl hm hi hc
    refine ⟨fun hr => ?_, fun hr => ?_⟩
    all_goals show Outcome.next s.envLeaderOver = _
    · rw [State.envLeaderOver_of_leader hl hm hi, State.envLeaderDone_of_intake hc hr]
    · rw [State.envLeaderOver_of_leader hl hm hi, State.envLeaderDone_of_recapture hc hr]
  case unsampled => exact fun s m thickness skew hsm hm ht => exec_envRows_of_not_sampling hsm hm ht
  case handover =>
    intro s e it hsm hi hcl hs hc
    have hm := State.motor_of_sampling hsm
    refine ⟨fun m b hwf hk hb => ?_, fun hw hpin => ⟨fun m hwf hk => ?_, fun thickness skew hth => ?_⟩⟩
    · rw [exec_itemEnd_envelope hwf, State.envEnds_eq hsm hi hcl,
        State.envHandover_of_accept (s := s.setEnvItem none) hs hc hk hb]
      simp [State.envItemEnd, State.onCurrent, State.onEcc, Ecc.phase, State.setEnvItem, State.onGmu]
    · refine ⟨s.envEnds m, exec_itemEnd_envelope hwf s, ?_⟩
      rw [State.envEnds_eq hsm hi hcl]
      obtain ⟨hret, hitem⟩ := State.envHandover_returned hs hc hm hw hpin hk none
      exact ⟨hitem, hret.envItemEnd⟩
    · refine ⟨_, exec_envelopeLengthLimit hth skew s, ?_⟩
      rw [State.envAtLimit_eq hsm hi hcl, ← classifyEnvelope_atLimit s.set ⟨_, thickness, skew, false⟩]
      exact (State.envHandover_returned hs hc hm hw hpin (.inl (by rw [classifyEnvelope_atLimit]; nofun)) _).1
  case limit =>
    intro s e hs hc ht other frame idle taking
    have hexec : exec .intakeTimeout s = .next (s.intakeEnded e).arbitrate :=
      congrArg Outcome.next (State.intakeOut_eq hs hc ht)
    obtain ⟨hct, hntc, hldc, hpins, hslp, -, -, -⟩ := State.intakeEnded_frame s e
    have hecc := State.intakeEnded_ecc (e := e) hs
    have hself : (s.intakeEnded e).ecc.throats.get e.throat = s.intakeThroat e.throat := by
      rw [State.intakeEnded_get hs, if_pos rfl]
    have hother : (s.intakeEnded e).ecc.throats.get e.throat.other = other := by
      rw [State.intakeEnded_get hs, if_neg (Throat.other_ne _)]
    have hidle : idle (s.intakeEnded e) := by
      refine ⟨?_, ?_, ?_, ?_, hother⟩ <;> rw [hecc]
    have htake (htk : taking) (x : Throat) : taken ((s.intakeEnded e).takeThroat x false) x
        ∧ ((s.intakeEnded e).takeThroat x false).ecc.throats.get x.other
          = (s.intakeEnded e).ecc.throats.get x.other := by
      have hp := (State.intakeEnded_pauseInForce s e).trans htk.2.2
      have hw : (s.intakeEnded e).pins.warning = false := by rw [hpins, State.openCondition_warning htk.1]
      exact ⟨State.takeThroat_took hp hw x, State.takeThroat_other hp hw (Throat.other_ne x)⟩
    refine ⟨_, hexec, ?rest, fun hpin ho => ?empty, fun hpin ho htk => ?next, fun hpin ho => ?present⟩
    case rest =>
      obtain ⟨hfeed, htimer, hact, haslp⟩ := State.arbitrate_rest (s := s.intakeEnded e) (by rw [hecc])
      obtain ⟨-, hantc, haldc, -, -, hapins, -⟩ := State.arbitrate_frame (s.intakeEnded e)
      exact ⟨hfeed, htimer.trans (by rw [hecc]), hact.trans hct, hantc.trans hntc, haldc.trans hldc,
        hapins.trans hpins, haslp.trans hslp⟩
    case empty =>
      simp only [List.mem_cons, List.not_mem_nil, or_false, not_or] at ho
      rw [State.arbitrate_intakeEnded_none hs ho.1 ho.2 (by simp [hpin]), hself, State.intakeThroat_of_empty hpin]
      exact ⟨hidle, rfl, rfl⟩
    case next =>
      have hopened : ((s.intakeEnded e).ecc.throats.get e.throat).state = .opened := by
        rw [hself, State.intakeThroat_of_empty hpin, htk.1]
        rfl
      rw [State.arbitrate_intakeEnded_of_waiting hs htk.1 htk.2.1 (by rw [hother, ho])
        (by simp [hopened]) (by simp [hopened])]
      obtain ⟨htook, hleft⟩ := htake htk e.throat.other
      rw [Throat.other_other] at hleft
      exact ⟨htook, by rw [hleft, hopened]⟩
    case present =>
      simp only [List.mem_cons, List.not_mem_nil, or_false, not_or] at ho
      have hthroat := hself.trans (State.intakeThroat_of_present hpin)
      refine ⟨fun hcl => ?_, fun htk => ?_⟩
      · rw [State.arbitrate_intakeEnded_none hs ho.1 ho.2 fun _ => hcl, hthroat]
        exact ⟨hidle, rfl, rfl⟩
      · rw [State.arbitrate_intakeEnded_of_waiting hs htk.1 htk.2.1 (by rw [hthroat])
          (by rw [hother]; exact ho.1) (by rw [hother]; exact ho.2), ← hother]
        exact htake htk e.throat
end

section
/-! PROOF. The samples of the gauges (R27 to R36): a pulse as a gap sample, as an item's start and as a sample of an
item; a track's edges over the samples of its item; the measures of an item. -/

open Sys2Proof Sys2Proof.Machine Host

namespace Sys2Proof.Machine
variable {s : State} {g : Gauge} {c : GaugeSettings} {it : GaugeItem} {a b : Nat}

/-! ## One sample -/

/-- The item with the sample taken on both tracks (R30, R31). -/
def Gauge.sampleItem (g : Gauge) (c : GaugeSettings) (it : GaugeItem) (a b : Nat) : GaugeItem := { it with
  a := it.a.sample c.threshold g.index (difference a g.winA)
  b := it.b.sample c.threshold g.index (difference b g.winB) }

theorem Gauge.itemSample_of_ended (h : (g.sampleItem c it a b).ended = true) (classes : Bool) :
    g.itemSample c it a b classes = ({ g with index := g.index + 1, item := none },
      (if classes && !it.classified then
        [.handover ((g.sampleItem c it a b).measure g.index c.gainA c.gainB) false] else []) ++ [.ended]) :=
  if_pos h

theorem Gauge.itemSample_of_limit (h : (g.sampleItem c it a b).ended = false) (hc : it.classified = false)
    (hl : g.index - it.start = c.lengthLimit) :
    g.itemSample c it a b true = ({ g with
        index := g.index + 1, item := some { g.sampleItem c it a b with classified := true } },
      [.handover ((g.sampleItem c it a b).measure g.index c.gainA c.gainB) true]) :=
  (if_neg (by simp [h] : ¬ (g.sampleItem c it a b).ended = true)).trans (if_pos (by simp [hl, hc]))

theorem Gauge.itemSample_of_on (h : (g.sampleItem c it a b).ended = false)
    (hl : g.index - it.start ≠ c.lengthLimit ∨ it.classified = true) (classes : Bool) :
    g.itemSample c it a b classes = ({ g with index := g.index + 1, item := some (g.sampleItem c it a b) },
      if g.index - it.start = c.presenceLimit then [.overstay] else []) :=
  (if_neg (by simp [h] : ¬ (g.sampleItem c it a b).ended = true)).trans
    (if_neg (by simpa [imp_iff_not_or] using hl))

theorem pushGap_eq (w : List Nat) (code : Nat) :
    pushGap w code = (w ++ [code]).drop (if w.length < 16 then 0 else 1) := by
  unfold pushGap
  by_cases h : w.length < Config.windowSize
  · rw [if_pos h, if_pos (by exact h)]
    rfl
  · have hw : 1 ≤ w.length := by
      have : 16 ≤ w.length := Nat.le_of_not_lt h
      omega
    rw [if_neg h, if_neg (by exact h), List.drop_append_of_le_length hw]

theorem Gauge.gapSample_of_gap
    (h : g.winA = [] ∨ difference a g.winA < c.threshold ∧ difference b g.winB < c.threshold)
    (stock : Option ItemStock) : g.gapSample c a b stock
      = ({ g with index := g.index + 1, winA := pushGap g.winA a, winB := pushGap g.winB b }, []) :=
  if_pos (by simpa using h)

/-- A track at an item's first sample (R30). -/
def startEdge (threshold index d : Nat) : TrackItem :=
  if threshold ≤ d then ⟨some index, 0, none, [d]⟩ else ⟨none, 0, none, []⟩

theorem Gauge.gapSample_of_edge (hw : g.winA ≠ [])
    (h : c.threshold ≤ difference a g.winA ∨ c.threshold ≤ difference b g.winB) (stock : Option ItemStock) :
    g.gapSample c a b stock = ({ g with
      index := g.index + 1
      item := some ⟨g.index, startEdge c.threshold g.index (difference a g.winA),
        startEdge c.threshold g.index (difference b g.winB), stock, false⟩ }, [.started]) := by
  refine if_neg ?_
  simp only [Bool.or_eq_true, List.isEmpty_iff, hw, false_or, Bool.and_eq_true, decide_eq_true_eq, not_and_or]
  omega

theorem Gauge.pulse_of_item (hr : g.run = true) (hm : g.measuring = true) (hi : g.item = some it) (t : Transport)
    (stock : Option ItemStock) :
    g.pulse t c a b stock = g.itemSample c it a b (t = .envelope || it.stock.isSome) := by
  simp only [Gauge.pulse, hr, hm, hi, Bool.and_self, if_true]

theorem Gauge.pulse_of_none (hr : g.run = true) (hm : g.measuring = true) (hi : g.item = none) (t : Transport)
    (stock : Option ItemStock) : g.pulse t c a b stock = g.gapSample c a b stock := by
  simp only [Gauge.pulse, hr, hm, hi, Bool.and_self, if_true]

/-! ## Pulses of the note transport -/

/-- A pulse restarts the encoder-stall limit and leaves the gauge as the sample makes it (R80). -/
def State.notePulsed (s : State) (g : Gauge) : State := { s with
  gmu := { s.gmu with note := g }, ntc := { s.ntc with stallTimer := .running 100 } }

theorem State.notePulse_eq (hm : s.ntc.motor = true) {g : Gauge} {sigs : List GaugeSignal}
    (hp : s.gmu.note.pulse .note (s.set.gauge .note) a b s.startingStock = (g, sigs)) (h : s.gmu.note.item.isSome = true
      ∨ g.item.isSome = true) :
    s.notePulse a b = sigs.foldl (State.noteSignal (s.gmu.note.item.bind (·.stock))) (s.notePulsed g) := by
  have hb : (s.gmu.note.item.isSome || g.item.isSome) = true := by simpa using h
  simp only [State.notePulse, hm, if_true, hp, hb]
  rfl

/-- A gap sample outside a leader (R29). -/
theorem State.notePulse_of_gap (hm : s.ntc.motor = true) (hl : s.ntc.state ≠ .leader) (hi : s.gmu.note.item = none)
    {g : Gauge} (hg : g.item = none)
    (hp : s.gmu.note.pulse .note (s.set.gauge .note) a b s.startingStock = (g, [])) :
    s.notePulse a b = s.notePulsed g := by
  have hlp : (s.notePulsed g).noteLeaderPulse = s.notePulsed g := by
    simp [State.noteLeaderPulse, State.notePulsed, hl]
  rw [← hlp]
  simp only [State.notePulse, hm, if_true, hp, hi, hg, Option.isSome_none, Bool.or_self, Bool.false_eq_true, if_false,
    List.foldl_nil]
  rfl

/-- An item that starts in PICKING is the outstanding pick's (R67). -/
theorem State.noteItemStart_of_pick {h : Handle} {st : Stock} (hs : s.ntc.state = .picking)
    (hp : s.ntc.pick = some h) (hst : s.ct.stock? h = some st) :
    s.noteItemStart = { s with ntc := { s.ntc with
      path := s.ntc.path ++ [⟨some h, false, false⟩]
      pick := none, pickTimer := .stopped, pickFails := s.ntc.pickFails.put st.pos 0 } } := by
  simp [State.noteItemStart, hs, hp, hst, State.joinPath, State.onNtc]

/-- A sample that starts an item (R30). -/
theorem State.notePulse_of_start (hm : s.ntc.motor = true) (hr : s.gmu.note.run = true)
    (ht : s.gmu.note.measuring = true) (hi : s.gmu.note.item = none) (hw : s.gmu.note.winA ≠ [])
    (hd : (s.set.gauge .note).threshold ≤ difference a s.gmu.note.winA
      ∨ (s.set.gauge .note).threshold ≤ difference b s.gmu.note.winB) :
    s.notePulse a b = (s.notePulsed { s.gmu.note with
      index := s.gmu.note.index + 1
      item := some ⟨s.gmu.note.index,
        startEdge (s.set.gauge .note).threshold s.gmu.note.index (difference a s.gmu.note.winA),
        startEdge (s.set.gauge .note).threshold s.gmu.note.index (difference b s.gmu.note.winB),
        s.startingStock, false⟩ }).noteItemStart :=
  State.notePulse_eq hm ((Gauge.pulse_of_none hr ht hi .note s.startingStock).trans
    (Gauge.gapSample_of_edge hw hd s.startingStock)) (.inr rfl)

/-- The state once a sample of an item is taken: the item, the index stepped, the encoder-stall limit anew. -/
def State.noteOn (s : State) (it : GaugeItem) : State :=
  s.notePulsed { s.gmu.note with index := s.gmu.note.index + 1, item := some it }

theorem State.noteOn_sampling (hm : s.ntc.motor = true) (hr : s.gmu.note.run = true)
    (ht : s.gmu.note.measuring = true) (it : GaugeItem) : (s.noteOn it).sampling .note = true := by
  simp [State.sampling, State.noteOn, State.notePulsed, Gmu.get, hm, hr, ht]

theorem State.noteOn_sampledItem (hm : s.ntc.motor = true) (hr : s.gmu.note.run = true)
    (ht : s.gmu.note.measuring = true) (it : GaugeItem) : (s.noteOn it).sampledItem .note = some it :=
  State.sampledItem_of_sampling (State.noteOn_sampling hm hr ht it)

theorem exec_itemEnd_note {m : Measure} (hm : m.wf .note = true) (s : State) :
    exec (.itemEnd .note m) s = .next (s.noteEnds m) := by
  show (if m.wf .note then Outcome.next (s.noteEnds m) else _) = _
  rw [if_pos hm]

section
variable (hm : s.ntc.motor = true) (hr : s.gmu.note.run = true) (ht : s.gmu.note.measuring = true)
  (hi : s.gmu.note.item = some it)
include hm hr ht hi

theorem State.notePulse_of_item {g : Gauge} {sigs : List GaugeSignal}
    (hp : s.gmu.note.itemSample (s.set.gauge .note) it a b it.stock.isSome = (g, sigs)) :
    s.notePulse a b = sigs.foldl (State.noteSignal it.stock) (s.notePulsed g) := by
  have hpulse : s.gmu.note.pulse .note (s.set.gauge .note) a b s.startingStock = (g, sigs) := by
    rw [Gauge.pulse_of_item hr ht hi, ← hp]
    rfl
  rw [State.notePulse_eq hm hpulse (.inl (by rw [hi]; rfl)), hi]
  rfl

/-- A sample that ends the item is the row of its end (R31, R39). -/
theorem State.notePulse_of_end (h : (s.gmu.note.sampleItem (s.set.gauge .note) it a b).ended = true) :
    s.notePulse a b = (s.noteOn (s.gmu.note.sampleItem (s.set.gauge .note) it a b)).noteEnds
      ((s.gmu.note.sampleItem (s.set.gauge .note) it a b).measure s.gmu.note.index (s.set.gauge .note).gainA
        (s.set.gauge .note).gainB) := by
  rw [State.notePulse_of_item hm hr ht hi (Gauge.itemSample_of_ended h _)]
  simp only [State.noteEnds, State.noteOn_sampledItem hm hr ht]
  cases hs : it.stock <;> cases hc : it.classified <;> simp [Gauge.sampleItem, hs, hc, State.noteSignal] <;>
    rfl

/-- A sample at the length limit is the limit's row (R32, R37). -/
theorem State.notePulse_of_lengthLimit (h : (s.gmu.note.sampleItem (s.set.gauge .note) it a b).ended = false)
    (hc : it.classified = false) (hs : it.stock.isSome = true) (hl : s.gmu.note.index = it.start + 700) :
    s.notePulse a b = (s.noteOn (s.gmu.note.sampleItem (s.set.gauge .note) it a b)).noteAtLimit := by
  have hp := Gauge.itemSample_of_limit h hc (show s.gmu.note.index - it.start = 700 by omega)
  rw [← hs] at hp
  have hstart : (s.gmu.note.sampleItem (s.set.gauge .note) it a b).start + 700 = s.gmu.note.index := hl.symm
  obtain ⟨ref, hs⟩ := Option.isSome_iff_exists.mp hs
  rw [State.notePulse_of_item hm hr ht hi hp, hs,
    State.noteAtLimit_eq (State.noteOn_sampling hm hr ht _) rfl (by exact hs) (by exact hc), hstart]
  rfl

/-- A sample of an item that neither ends it nor is at the length limit (R32). -/
theorem State.notePulse_of_on (h : (s.gmu.note.sampleItem (s.set.gauge .note) it a b).ended = false)
    (hl : s.gmu.note.index - it.start ≠ 700 ∨ it.classified = true) :
    s.notePulse a b = if s.gmu.note.index - it.start = 1000
      then (s.noteOn (s.gmu.note.sampleItem (s.set.gauge .note) it a b)).noteJam
      else s.noteOn (s.gmu.note.sampleItem (s.set.gauge .note) it a b) := by
  rw [State.notePulse_of_item hm hr ht hi (Gauge.itemSample_of_on h hl _)]
  by_cases hp : s.gmu.note.index - it.start = 1000
  · rw [if_pos hp, if_pos (by exact hp)]
    rfl
  · rw [if_neg hp, if_neg (by exact hp)]
    rfl

end

/-! ## Pulses of the envelope transport -/

/-- A pulse restarts the encoder-stall limit and leaves the gauge as the sample makes it (R117). -/
def State.envPulsed (s : State) (g : Gauge) : State := { s with
  gmu := { s.gmu with envelope := g }, ecc := { s.ecc with stallTimer := .running 100 } }

theorem State.envPulse_eq (hm : s.ecc.motor = true) {g : Gauge} {sigs : List GaugeSignal}
    (hp : s.gmu.envelope.pulse .envelope (s.set.gauge .envelope) a b none = (g, sigs))
    (h : s.gmu.envelope.item.isSome = true ∨ g.item.isSome = true) :
    s.envPulse a b = sigs.foldl State.envSignal (s.envPulsed g) := by
  have hb : (s.gmu.envelope.item.isSome || g.item.isSome) = true := by simpa using h
  simp only [State.envPulse, hm, if_true, hp, hb]
  rfl

/-- A gap sample outside a leader (R29). -/
theorem State.envPulse_of_gap (hm : s.ecc.motor = true) (hl : s.ecc.state ≠ .leader)
    (hi : s.gmu.envelope.item = none) {g : Gauge} (hg : g.item = none)
    (hp : s.gmu.envelope.pulse .envelope (s.set.gauge .envelope) a b none = (g, [])) :
    s.envPulse a b = s.envPulsed g := by
  have hlp : (s.envPulsed g).envLeaderPulse = s.envPulsed g := by
    simp [State.envLeaderPulse, State.envPulsed, hl]
  rw [← hlp]
  simp only [State.envPulse, hm, if_true, hp, hi, hg, Option.isSome_none, Bool.or_self, Bool.false_eq_true, if_false,
    List.foldl_nil]
  rfl

/-- An item that starts in MEASURING is the envelope's (R109). -/
theorem State.envItemStart_of_measuring {e : CurrentEnv} (hs : s.ecc.state = .measuring)
    (hc : s.ecc.current = some e) (he : e.itemEnded = false) :
    s.envItemStart = { s with ecc := { s.ecc with
      intakeTimer := .stopped, current := some { e with itemStarted := true } } } := by
  simp [State.envItemStart, hs, hc, he, State.onCurrent, State.onEcc]

/-- A sample that starts an item (R30). -/
theorem State.envPulse_of_start (hm : s.ecc.motor = true) (hr : s.gmu.envelope.run = true)
    (ht : s.gmu.envelope.measuring = true) (hi : s.gmu.envelope.item = none) (hw : s.gmu.envelope.winA ≠ [])
    (hd : (s.set.gauge .envelope).threshold ≤ difference a s.gmu.envelope.winA
      ∨ (s.set.gauge .envelope).threshold ≤ difference b s.gmu.envelope.winB) :
    s.envPulse a b = (s.envPulsed { s.gmu.envelope with
      index := s.gmu.envelope.index + 1
      item := some ⟨s.gmu.envelope.index,
        startEdge (s.set.gauge .envelope).threshold s.gmu.envelope.index (difference a s.gmu.envelope.winA),
        startEdge (s.set.gauge .envelope).threshold s.gmu.envelope.index (difference b s.gmu.envelope.winB),
        none, false⟩ }).envItemStart :=
  State.envPulse_eq hm ((Gauge.pulse_of_none hr ht hi .envelope none).trans
    (Gauge.gapSample_of_edge hw hd none)) (.inr rfl)

/-- The state once a sample of an item is taken: the item, the index stepped, the encoder-stall limit anew. -/
def State.envOn (s : State) (it : GaugeItem) : State :=
  s.envPulsed { s.gmu.envelope with index := s.gmu.envelope.index + 1, item := some it }

theorem State.envOn_set (s : State) (it : GaugeItem) : (s.envOn it).set = s.set := rfl

theorem State.envOn_sampling (hm : s.ecc.motor = true) (hr : s.gmu.envelope.run = true)
    (ht : s.gmu.envelope.measuring = true) (it : GaugeItem) : (s.envOn it).sampling .envelope = true := by
  simp [State.sampling, State.envOn, State.envPulsed, Gmu.get, hm, hr, ht]

theorem State.envOn_sampledItem (hm : s.ecc.motor = true) (hr : s.gmu.envelope.run = true)
    (ht : s.gmu.envelope.measuring = true) (it : GaugeItem) : (s.envOn it).sampledItem .envelope = some it :=
  State.sampledItem_of_sampling (State.envOn_sampling hm hr ht it)

section
variable (hm : s.ecc.motor = true) (hr : s.gmu.envelope.run = true) (ht : s.gmu.envelope.measuring = true)
  (hi : s.gmu.envelope.item = some it)
include hm hr ht hi

theorem State.envPulse_of_item {g : Gauge} {sigs : List GaugeSignal}
    (hp : s.gmu.envelope.itemSample (s.set.gauge .envelope) it a b true = (g, sigs)) :
    s.envPulse a b = sigs.foldl State.envSignal (s.envPulsed g) := by
  have hpulse : s.gmu.envelope.pulse .envelope (s.set.gauge .envelope) a b none = (g, sigs) := by
    rw [Gauge.pulse_of_item hr ht hi, ← hp]
    rfl
  exact State.envPulse_eq hm hpulse (.inl (by rw [hi]; rfl))

/-- A sample that ends the item is the row of its end (R31, R43). -/
theorem State.envPulse_of_end (h : (s.gmu.envelope.sampleItem (s.set.gauge .envelope) it a b).ended = true) :
    s.envPulse a b = (s.envOn (s.gmu.envelope.sampleItem (s.set.gauge .envelope) it a b)).envEnds
      ((s.gmu.envelope.sampleItem (s.set.gauge .envelope) it a b).measure s.gmu.envelope.index
        (s.set.gauge .envelope).gainA (s.set.gauge .envelope).gainB) := by
  rw [State.envPulse_of_item hm hr ht hi (Gauge.itemSample_of_ended h _)]
  simp only [State.envEnds, State.envOn_sampledItem hm hr ht]
  cases hc : it.classified <;> simp [Gauge.sampleItem, hc, State.envSignal] <;> rfl

/-- A sample at the length limit is the limit's row (R32, R42). -/
theorem State.envPulse_of_lengthLimit (h : (s.gmu.envelope.sampleItem (s.set.gauge .envelope) it a b).ended = false)
    (hc : it.classified = false) (hl : s.gmu.envelope.index = it.start + 640) {m : Measure}
    (hme : (s.gmu.envelope.sampleItem (s.set.gauge .envelope) it a b).measure s.gmu.envelope.index
      (s.set.gauge .envelope).gainA (s.set.gauge .envelope).gainB = m) (hs : m.short = false) :
    s.envPulse a b
      = (s.envOn (s.gmu.envelope.sampleItem (s.set.gauge .envelope) it a b)).envAtLimit m.t m.skew := by
  have hp := Gauge.itemSample_of_limit h hc (show s.gmu.envelope.index - it.start = 640 by omega)
  have hstart : (s.gmu.envelope.sampleItem (s.set.gauge .envelope) it a b).start + 640 = s.gmu.envelope.index :=
    hl.symm
  rw [State.envPulse_of_item hm hr ht hi hp, hme,
    State.envAtLimit_eq (State.envOn_sampling hm hr ht _) rfl (by exact hc), hstart]
  have hm' : (⟨m.ls, m.t, m.skew, false⟩ : Measure) = m := by rw [← hs]
  rw [State.envOn_set, hme, hm']
  rfl

/-- A sample of an item that neither ends it nor is at the length limit (R32). -/
theorem State.envPulse_of_on (h : (s.gmu.envelope.sampleItem (s.set.gauge .envelope) it a b).ended = false)
    (hl : s.gmu.envelope.index - it.start ≠ 640 ∨ it.classified = true) :
    s.envPulse a b = if s.gmu.envelope.index - it.start = 900
      then (s.envOn (s.gmu.envelope.sampleItem (s.set.gauge .envelope) it a b)).envJam
      else s.envOn (s.gmu.envelope.sampleItem (s.set.gauge .envelope) it a b) := by
  rw [State.envPulse_of_item hm hr ht hi (Gauge.itemSample_of_on h hl _)]
  by_cases hp : s.gmu.envelope.index - it.start = 900
  · rw [if_pos hp, if_pos (by exact hp)]
    rfl
  · rw [if_neg hp, if_neg (by exact hp)]
    rfl

end

/-! ## A track's edges -/

/-- Four samples in a row below the threshold begin at a place of the list (R31). -/
def quietAt (threshold : Nat) (l : List Nat) (n : Nat) : Prop :=
  n + 4 ≤ l.length ∧ ∀ d ∈ (l.drop n).take 4, d < threshold

/-- How many samples below the threshold the list ends with. -/
def quietTail (threshold : Nat) (l : List Nat) : Nat :=
  (l.reverse.takeWhile fun d => decide (d < threshold)).length

theorem quietAt_append (threshold : Nat) (p l : List Nat) (n : Nat) :
    quietAt threshold (p ++ l) (p.length + n) ↔ quietAt threshold l n := by
  simp only [quietAt, List.drop_append, List.length_append, List.drop_of_length_le (Nat.le_add_right _ n),
    List.nil_append, Nat.add_sub_cancel_left, Nat.add_assoc, Nat.add_le_add_iff_left]

/-- A further sample does not touch the places before it. -/
theorem quietAt_snoc_of_le {threshold : Nat} {l : List Nat} {n : Nat} (h : n + 4 ≤ l.length) (x : Nat) :
    quietAt threshold (l ++ [x]) n ↔ quietAt threshold l n := by
  have htake : ((l ++ [x]).drop n).take 4 = (l.drop n).take 4 := by
    rw [List.drop_append_of_le_length (by omega), List.take_append_of_le_length (by simp; omega)]
  unfold quietAt
  rw [htake, List.length_append]
  exact ⟨fun ⟨_, hq⟩ => ⟨h, hq⟩, fun ⟨_, hq⟩ => ⟨by omega, hq⟩⟩

theorem quietTail_snoc (threshold : Nat) (l : List Nat) (x : Nat) :
    quietTail threshold (l ++ [x]) = if x < threshold then quietTail threshold l + 1 else 0 := by
  unfold quietTail
  rw [List.reverse_append, List.reverse_singleton, List.singleton_append, List.takeWhile_cons]
  by_cases h : x < threshold <;> simp [h]

theorem quietTail_le (threshold : Nat) (l : List Nat) : quietTail threshold l ≤ l.length := by
  simpa [quietTail] using (List.takeWhile_sublist (l := l.reverse) fun d => decide (d < threshold)).length_le

theorem le_quietTail_iff {threshold : Nat} {l : List Nat} {n : Nat} (h : n ≤ l.length) :
    n ≤ quietTail threshold l ↔ ∀ d ∈ l.drop (l.length - n), d < threshold := by
  induction l using List.reverseRecOn generalizing n with
  | nil => simp_all
  | append_singleton l x ih =>
    cases n with
    | zero => simp
    | succ n =>
      simp only [List.length_append, List.length_singleton] at h
      have hdrop : (l ++ [x]).drop ((l ++ [x]).length - (n + 1)) = l.drop (l.length - n) ++ [x] := by
        rw [List.drop_append_of_le_length (by simp)]
        simp
      rw [quietTail_snoc, hdrop, List.forall_mem_append, List.forall_mem_singleton, ← ih (by omega)]
      by_cases hx : x < threshold <;> simp [hx]

/-- The list's last four samples. -/
theorem quietAt_last_iff {threshold : Nat} {l : List Nat} {n : Nat} (h : n + 4 = l.length) :
    quietAt threshold l n ↔ 4 ≤ quietTail threshold l := by
  have hn : l.length - 4 = n := by omega
  rw [le_quietTail_iff (by omega), hn, quietAt, List.take_of_length_le (by simp; omega)]
  exact ⟨fun ⟨_, hq⟩ => hq, fun hq => ⟨by omega, hq⟩⟩

/-- What a track holds of an item after its samples (R30, R31): nothing, a leading edge, or both edges. The samples
before the leading edge are `pre`, the one at it is `d`, and `tail` comes after. -/
inductive TrackItem.Followed (threshold start : Nat) : List Nat → TrackItem → Prop
  | unseen {ds} (h : ∀ d ∈ ds, d < threshold) : Followed threshold start ds ⟨none, 0, none, []⟩
  | present {pre d tail} (hpre : ∀ x ∈ pre, x < threshold) (hd : threshold ≤ d)
      (hq : ∀ n, ¬ quietAt threshold tail n) :
      Followed threshold start (pre ++ d :: tail)
        ⟨some (start + pre.length), quietTail threshold tail, none, (d :: tail).reverse⟩
  | gone {pre d tail n} (hpre : ∀ x ∈ pre, x < threshold) (hd : threshold ≤ d)
      (hn : quietAt threshold tail n) (hq : ∀ m < n, ¬ quietAt threshold tail m) :
      Followed threshold start (pre ++ d :: tail)
        ⟨some (start + pre.length), 4, some (start + pre.length + 1 + n), (d :: tail.take (n + 4)).reverse⟩

/-- A sample between the edges (R31). -/
theorem TrackItem.sample_of_present (threshold index l : Nat) (tail diffs : List Nat) (x : Nat) :
    (⟨some l, quietTail threshold tail, none, diffs⟩ : TrackItem).sample threshold index x
      = ⟨some l, quietTail threshold (tail ++ [x]),
          if quietTail threshold (tail ++ [x]) = 4 then some (index + 1 - 4) else none, x :: diffs⟩ := by
  rw [quietTail_snoc]
  rfl

/-- A sample keeps what a track holds. -/
theorem TrackItem.Followed.sample {threshold start : Nat} {ds : List Nat} {tr : TrackItem}
    (h : tr.Followed threshold start ds) (x : Nat) :
    (tr.sample threshold (start + ds.length) x).Followed threshold start (ds ++ [x]) := by
  cases h with
  | unseen h =>
    by_cases hx : threshold ≤ x
    · have := TrackItem.Followed.present (start := start) (tail := []) h hx (by simp [quietAt])
      simpa [TrackItem.sample, hx, quietTail] using this
    · have hall : ∀ d ∈ ds ++ [x], d < threshold :=
        List.forall_mem_append.mpr ⟨h, List.forall_mem_singleton.mpr (Nat.lt_of_not_le hx)⟩
      simpa [TrackItem.sample, hx] using TrackItem.Followed.unseen (start := start) hall
  | @present pre d tail hpre hd hq =>
    have hsmall : quietTail threshold tail < 4 := by
      by_contra h
      have hlen := quietTail_le threshold tail
      exact hq (tail.length - 4) ((quietAt_last_iff (by omega)).mpr (by omega))
    have hstep := quietTail_snoc threshold tail x
    have hlen := quietTail_le threshold (tail ++ [x])
    rw [List.length_append, List.length_singleton] at hlen
    have hfour (n : Nat) (h : quietAt threshold (tail ++ [x]) n) :
        n + 4 = tail.length + 1 ∧ quietTail threshold (tail ++ [x]) = 4 := by
      have hn := h.1
      rw [List.length_append, List.length_singleton] at hn
      have hlast : n + 4 = tail.length + 1 := by
        by_contra hne
        exact hq n ((quietAt_snoc_of_le (by omega) x).mp h)
      have hge := (quietAt_last_iff (by simpa using hlast)).mp h
      refine ⟨hlast, ?_⟩
      split at hstep <;> omega
    rw [TrackItem.sample_of_present, List.append_assoc, List.cons_append]
    by_cases hf : quietTail threshold (tail ++ [x]) = 4
    · have hn : tail.length - 3 + 4 = tail.length + 1 := by omega
      have hquiet := (quietAt_last_iff (threshold := threshold) (l := tail ++ [x]) (n := tail.length - 3)
        (by simpa using hn)).mpr hf.ge
      have hfirst : ∀ m < tail.length - 3, ¬ quietAt threshold (tail ++ [x]) m := fun m hm h => by
        have := (hfour m h).1
        omega
      have hgone := TrackItem.Followed.gone (start := start) hpre hd hquiet hfirst
      have htrail : start + (pre ++ d :: tail).length + 1 - 4 = start + pre.length + 1 + (tail.length - 3) := by
        simp only [List.length_append, List.length_cons]
        omega
      rw [if_pos hf, hf, htrail]
      rw [hn, List.take_of_length_le (by simp)] at hgone
      simpa using hgone
    · have hgoes := TrackItem.Followed.present (start := start) hpre hd fun n h => hf (hfour n h).2
      rw [if_neg hf]
      simpa using hgoes
  | @gone pre d tail n hpre hd hn hq =>
    have hn' := (quietAt_snoc_of_le hn.1 x).mpr hn
    have hq' : ∀ m < n, ¬ quietAt threshold (tail ++ [x]) m := fun m hm => by
      rw [quietAt_snoc_of_le (by have := hn.1; omega)]
      exact hq m hm
    have := TrackItem.Followed.gone (start := start) hpre hd hn' hq'
    rw [List.take_append_of_le_length hn.1] at this
    rwa [List.append_assoc, List.cons_append]

theorem TrackItem.follow_followed (threshold start : Nat) (ds : List Nat) :
    (TrackItem.follow threshold start ds).Followed threshold start ds := by
  induction ds using List.reverseRecOn with
  | nil => exact .unseen (by simp)
  | append_singleton ds x ih =>
    have hstep : TrackItem.follow threshold start (ds ++ [x])
        = (TrackItem.follow threshold start ds).sample threshold (start + ds.length) x := by
      simp [TrackItem.follow, List.zipIdx_append, List.foldl_append]
    rw [hstep]
    exact ih.sample x

/-- The leading edge is the first difference at or above the threshold (R30). -/
theorem leading_iff {threshold start : Nat} {pre tail : List Nat} {d : Nat} (hpre : ∀ x ∈ pre, x < threshold)
    (hd : threshold ≤ d) (l : Nat) :
    start + pre.length = l ↔ start ≤ l ∧ (∃ x, (pre ++ d :: tail)[l - start]? = some x ∧ threshold ≤ x)
      ∧ ∀ x ∈ (pre ++ d :: tail).take (l - start), x < threshold := by
  constructor
  · rintro rfl
    rw [Nat.add_sub_cancel_left, List.take_left']
    exact ⟨Nat.le_add_right .., ⟨d, by simp, hd⟩, hpre⟩
    rfl
  · rintro ⟨hl, ⟨x, hx, hxd⟩, hbefore⟩
    rcases Nat.lt_trichotomy (l - start) pre.length with h | h | h
    · rw [List.getElem?_append_left h] at hx
      exact absurd (hpre x (List.mem_of_getElem? hx)) (Nat.not_lt.mpr hxd)
    · omega
    · have hmem : d ∈ (pre ++ d :: tail).take (l - start) := by
        rw [List.take_append, List.mem_append]
        obtain ⟨i, hi⟩ : ∃ i, l - start - pre.length = i + 1 := ⟨l - start - pre.length - 1, by omega⟩
        right
        simp [hi]
      exact absurd (hbefore d hmem) (Nat.not_lt.mpr hd)

/-- A place after the leading edge is quiet where the samples after the edge are. -/
theorem quiet_after_iff {threshold start : Nat} {pre tail : List Nat} {d k : Nat} (hk : start + pre.length < k) :
    (start ≤ k ∧ k + 4 ≤ start + (pre ++ d :: tail).length
        ∧ ∀ x ∈ ((pre ++ d :: tail).drop (k - start)).take 4, x < threshold)
      ↔ quietAt threshold tail (k - start - pre.length - 1) := by
  have hap := quietAt_append threshold (pre ++ [d]) tail (k - start - pre.length - 1)
  have hidx : (pre ++ [d]).length + (k - start - pre.length - 1) = k - start := by
    simp only [List.length_append, List.length_singleton]
    omega
  rw [hidx, List.append_assoc, List.singleton_append] at hap
  rw [← hap, quietAt]
  exact ⟨fun ⟨_, h, hq⟩ => ⟨by omega, hq⟩, fun ⟨h, hq⟩ => ⟨by omega, by omega, hq⟩⟩

theorem TrackItem.follow_lead (threshold start : Nat) (ds : List Nat) (l : Nat) :
    (TrackItem.follow threshold start ds).lead = some l ↔
      start ≤ l ∧ (∃ d, ds[l - start]? = some d ∧ threshold ≤ d)
        ∧ ∀ d ∈ ds.take (l - start), d < threshold := by
  have hf := TrackItem.follow_followed threshold start ds
  generalize TrackItem.follow threshold start ds = tr at hf
  cases hf with
  | unseen h =>
    refine ⟨nofun, fun ⟨_, ⟨d, hd, hle⟩, _⟩ => ?_⟩
    exact absurd (h d (List.mem_of_getElem? hd)) (Nat.not_lt.mpr hle)
  | present hpre hd hq => exact Option.some_inj.trans (leading_iff hpre hd l)
  | gone hpre hd hn hq => exact Option.some_inj.trans (leading_iff hpre hd l)

/-- The trailing edge is the first of four differences in a row below the threshold after the leading edge (R31). -/
theorem TrackItem.follow_trail (threshold start : Nat) (ds : List Nat) (e : Nat) :
    (TrackItem.follow threshold start ds).trail = some e ↔
      ∃ l, (TrackItem.follow threshold start ds).lead = some l ∧ l < e
        ∧ (start ≤ e ∧ e + 4 ≤ start + ds.length ∧ ∀ d ∈ (ds.drop (e - start)).take 4, d < threshold)
        ∧ ∀ k, l < k → k < e →
          ¬ (start ≤ k ∧ k + 4 ≤ start + ds.length ∧ ∀ d ∈ (ds.drop (k - start)).take 4, d < threshold) := by
  have hf := TrackItem.follow_followed threshold start ds
  generalize TrackItem.follow threshold start ds = tr at hf
  cases hf with
  | unseen h => exact ⟨nofun, nofun⟩
  | present hpre hd hq =>
    refine ⟨nofun, fun ⟨l, hl, hle, hquiet, _⟩ => ?_⟩
    cases hl
    exact absurd ((quiet_after_iff hle).mp hquiet) (hq _)
  | @gone pre d tail n hpre hd hn hq =>
    constructor
    · intro he
      cases he
      have hat : start + pre.length + 1 + n - start - pre.length - 1 = n := by omega
      refine ⟨_, rfl, by omega, (quiet_after_iff (by omega)).mpr (by rwa [hat]), fun k hk hke hquiet => ?_⟩
      exact hq _ (by omega) ((quiet_after_iff hk).mp hquiet)
    · rintro ⟨l, hl, hle, hquiet, hfirst⟩
      cases hl
      have he := (quiet_after_iff hle).mp hquiet
      have hge : n ≤ e - start - pre.length - 1 := Nat.le_of_not_lt fun h => hq _ h he
      have hle' : ¬ start + pre.length + 1 + n < e := fun h => by
        have hat : start + pre.length + 1 + n - start - pre.length - 1 = n := by omega
        exact hfirst (start + pre.length + 1 + n) (by omega) h ((quiet_after_iff (by omega)).mpr (by rwa [hat]))
      exact congrArg some (by omega)

/-! ## The measures -/

/-- A track's length from its edges (R33). -/
theorem TrackItem.length_eq (tr : TrackItem) (limit : Nat) :
    tr.length limit = (tr.lead.map fun l => tr.trail.getD limit - l).getD 0 := by
  unfold TrackItem.length
  cases tr.lead <;> rfl

/-- The mean of the body's differences is that of the samples taken there (R34). -/
theorem TrackItem.meanDiff_follow (threshold start limit : Nat) (ds : List Nat) :
    let tr := TrackItem.follow threshold start ds
    tr.meanDiff (tr.length limit) = ((ds.drop (tr.lead.getD 0 + 8 - start)).take (tr.length limit - 16)).sum
      / (tr.length limit - 16) := by
  intro tr
  have hf : tr.Followed threshold start ds := TrackItem.follow_followed threshold start ds
  have hmean : tr.meanDiff (tr.length limit) = ((tr.diffs.reverse.drop 8).take (tr.length limit - 16)).sum
      / (tr.length limit - 16) := rfl
  rw [hmean]
  generalize tr = tr at hf
  cases hf with
  | unseen h => simp [TrackItem.length]
  | @present pre d tail hpre hd hq =>
    have hdrop : start + pre.length + 8 - start = pre.length + 8 := by omega
    simp only [List.reverse_reverse, Option.getD_some, hdrop, List.drop_length_add_append]
  | @gone pre d tail n hpre hd hn hq =>
    have hdrop : start + pre.length + 8 - start = pre.length + 8 := by omega
    have hlen : TrackItem.length ⟨some (start + pre.length), 4, some (start + pre.length + 1 + n),
        (d :: tail.take (n + 4)).reverse⟩ limit = n + 1 := by
      simp only [TrackItem.length, Option.getD_some]
      omega
    have htake : d :: tail.take (n + 4) = (d :: tail).take (n + 5) := rfl
    have hmin : min (n + 1 - 16) (n + 5 - 8) = n + 1 - 16 := by omega
    rw [hlen]
    simp only [List.reverse_reverse, Option.getD_some, hdrop, List.drop_length_add_append, htake, List.drop_take,
      List.take_take, hmin]

theorem isShort_iff (n : Nat) : isShort n = true ↔ n < 32 := decide_eq_true_iff

theorem GaugeItem.skew_of_some {it : GaugeItem} {x y : Nat} (ha : it.a.lead = some x) (hb : it.b.lead = some y) :
    it.skew = (x - y) + (y - x) := by
  simp only [GaugeItem.skew, ha, hb]
  omega

theorem GaugeItem.skew_of_none {it : GaugeItem} (h : it.a.lead = none ∨ it.b.lead = none) : it.skew = 0 := by
  unfold GaugeItem.skew
  cases ha : it.a.lead <;> cases hb : it.b.lead <;> simp_all

end Sys2Proof.Machine

/-- Settles O35. -/
theorem gapSamplesEnterTheWindows : Obligations.GapSamplesEnterTheWindows := by
  unfold Obligations.GapSamplesEnterTheWindows
  intro s a b gap sampled
  refine ⟨?noteGap, ?envGap, ?note, ?envelope, ?edges, ?measures⟩
  case noteGap =>
    intro hm hl hgap
    obtain ⟨hr, ht, hi, hw⟩ := hgap
    have hp := (Gauge.pulse_of_none hr ht hi .note s.startingStock).trans
      (Gauge.gapSample_of_gap (c := s.set.gauge .note) (a := a.toNat) (b := b.toNat) hw s.startingStock)
    show Outcome.next (s.notePulse a.toNat b.toNat) = _
    rw [State.notePulse_of_gap hm hl hi (by exact hi) hp, pushGap_eq, pushGap_eq]
    rfl
  case envGap =>
    intro hm hl hgap
    obtain ⟨hr, ht, hi, hw⟩ := hgap
    have hp := (Gauge.pulse_of_none hr ht hi .envelope none).trans
      (Gauge.gapSample_of_gap (c := s.set.gauge .envelope) (a := a.toNat) (b := b.toNat) hw none)
    show Outcome.next (s.envPulse a.toNat b.toNat) = _
    rw [State.envPulse_of_gap hm hl hi (by exact hi) hp, pushGap_eq, pushGap_eq]
    rfl
  case note =>
    intro g set da db edge on hm hr ht
    refine ⟨fun h st hi hw hd hs hpick hst => ?_, fun it hi => ?_⟩
    · have hstart : s.startingStock = some ⟨h, st.tRef, st.lRef⟩ := by
        simp only [State.startingStock, hpick, hst, Option.map_some]
      show Outcome.next (s.notePulse a.toNat b.toNat) = _
      rw [State.notePulse_of_start hm hr ht hi hw hd, hstart,
        State.noteItemStart_of_pick (by exact hs) (by exact hpick) (by exact hst)]
      rfl
    intro now m
    refine ⟨fun hend hwf => ?_, fun hend hc hst hl => ?_, fun hend hc hl => ?_, fun hend hl hp => ?_⟩
    all_goals show Outcome.next (s.notePulse a.toNat b.toNat) = _
    · rw [exec_itemEnd_note hwf, State.notePulse_of_end hm hr ht hi hend]
      rfl
    · rw [State.notePulse_of_lengthLimit hm hr ht hi hend hc hst hl]
      rfl
    · have hp : s.gmu.note.index - it.start = 1000 := Nat.sub_eq_of_eq_add' hl
      have hj : exec .notePresenceLimit (on now) = .next (on now).noteJam := by
        show Outcome.next (if ((s.noteOn now).sampledItem .note).isSome then _ else _) = _
        rw [State.noteOn_sampledItem hm hr ht]
        rfl
      rw [hj, State.notePulse_of_on hm hr ht hi hend (.inr hc), if_pos hp]
      rfl
    · rw [State.notePulse_of_on hm hr ht hi hend (.inl hl), if_neg hp]
      rfl
  case envelope =>
    intro g set da db edge on hm hr ht
    refine ⟨fun e hi hw hd hs hcur hie => ?_, fun it hi => ?_⟩
    · show Outcome.next (s.envPulse a.toNat b.toNat) = _
      rw [State.envPulse_of_start hm hr ht hi hw hd,
        State.envItemStart_of_measuring (by exact hs) (by exact hcur) hie]
      rfl
    intro now m
    refine ⟨fun hend hwf => ?_, fun hend hc hsh hth hl => ?_, fun hend hc hl => ?_, fun hend hl hp => ?_⟩
    all_goals show Outcome.next (s.envPulse a.toNat b.toNat) = _
    · rw [exec_itemEnd_envelope hwf, State.envPulse_of_end hm hr ht hi hend]
      rfl
    · rw [exec_envelopeLengthLimit hth, State.envPulse_of_lengthLimit hm hr ht hi hend hc hl rfl hsh]
      rfl
    · have hp : s.gmu.envelope.index - it.start = 900 := Nat.sub_eq_of_eq_add' hl
      have hj : exec .envelopePresenceLimit (on now) = .next (on now).envJam := by
        show Outcome.next (if ((s.envOn now).sampledItem .envelope).isSome then _ else _) = _
        rw [State.envOn_sampledItem hm hr ht]
        rfl
      rw [hj, State.envPulse_of_on hm hr ht hi hend (.inr hc), if_pos hp]
      rfl
    · rw [State.envPulse_of_on hm hr ht hi hend (.inl hl), if_neg hp]
      rfl
  case edges =>
    intro threshold start ds
    exact ⟨TrackItem.follow_lead threshold start ds, TrackItem.follow_trail threshold start ds⟩
  case measures =>
    intro it threshold limit gainA gainB da db ha hb hlen hlim span mean m
    have hspan (tr : TrackItem) : tr.length limit = span tr := tr.length_eq limit
    have hmean (tr : TrackItem) (ds : List Nat) (h : tr = TrackItem.follow threshold it.start ds) :
        tr.meanDiff (tr.length limit) = mean tr ds := by
      rw [h, TrackItem.meanDiff_follow, hspan]
    have hshort : m.short = true ↔ span it.a < 32 ∨ span it.b < 32 := by
      rw [← hspan, ← hspan, ← isShort_iff, ← isShort_iff]
      exact Bool.or_eq_true_iff
    refine ⟨by rw [← hspan, ← hspan]; rfl, hshort, ?_, fun x y => GaugeItem.skew_of_some, GaugeItem.skew_of_none⟩
    rw [← hmean it.a da ha, ← hmean it.b db hb]
    exact if_congr hshort rfl rfl
end

section
/-! PROOF. Plans by amount (R47 to R49): the depth-first search finds the lexicographically greatest vector of
counts that pays, the greedy maximum is the most that any vector pays, and the candidates stand in their order. -/

open Sys2Proof Sys2Proof.Machine

namespace Sys2Proof.Machine

/-! ## The search -/

theorem tryDown_eq_some {α : Type} (f : Nat → Option α) (n : Nat) (r : α) :
    tryDown f n = some r ↔ ∃ k, k ≤ n ∧ f k = some r ∧ ∀ j, k < j → j ≤ n → f j = none := by
  induction n with
  | zero =>
    refine ⟨fun h => ⟨0, le_rfl, h, fun j h0 h1 => by omega⟩, ?_⟩
    rintro ⟨k, hk, h, -⟩
    rwa [Nat.le_zero.mp hk] at h
  | succ n ih =>
    rw [tryDown]
    cases hf : f (n + 1) with
    | some x =>
      refine ⟨fun h => ⟨n + 1, le_rfl, by rw [hf]; exact h, fun j h0 h1 => by omega⟩, ?_⟩
      rintro ⟨k, hk, h, hlt⟩
      rcases Nat.lt_or_eq_of_le hk with hk | rfl
      · rw [hlt (n + 1) hk le_rfl] at hf
        cases hf
      · rw [← h, hf]
    | none =>
      show tryDown f n = some r ↔ _
      rw [ih]
      constructor
      · rintro ⟨k, hk, h, hlt⟩
        refine ⟨k, by omega, h, fun j h0 h1 => ?_⟩
        rcases Nat.lt_or_eq_of_le h1 with h1 | rfl
        · exact hlt j h0 (by omega)
        · exact hf
      · rintro ⟨k, hk, h, hlt⟩
        rcases Nat.lt_or_eq_of_le hk with hk | rfl
        · exact ⟨k, by omega, h, fun j h0 h1 => hlt j h0 (by omega)⟩
        · rw [hf] at h
          cases h

theorem tryDown_eq_none {α : Type} (f : Nat → Option α) (n : Nat) :
    tryDown f n = none ↔ ∀ k, k ≤ n → f k = none := by
  induction n with
  | zero => simp [tryDown]
  | succ n ih =>
    rw [tryDown]
    cases hf : f (n + 1) with
    | some x => simpa using ⟨n + 1, le_rfl, by simp [hf]⟩
    | none =>
      show tryDown f n = none ↔ _
      rw [ih]
      refine ⟨fun h k hk => ?_, fun h k hk => h k (by omega)⟩
      rcases Nat.lt_or_eq_of_le hk with hk | rfl
      · exact h k (by omega)
      · exact hf

theorem pays_nil (v : List Nat) (amount notes : Nat) : pays [] v amount notes ↔ v = [] ∧ amount = 0 := by
  simp only [pays, List.length_nil, List.length_eq_zero_iff]
  constructor
  · rintro ⟨rfl, -, -, h⟩
    exact ⟨rfl, by simpa using h.symm⟩
  · rintro ⟨rfl, rfl⟩
    simp

/-- A vector pays when its first count is within the limits and the rest pays what is left. -/
theorem pays_cons (c : Candidate) (cs : List Candidate) (k : Nat) (ks : List Nat) (amount notes : Nat) :
    pays (c :: cs) (k :: ks) amount notes ↔
      (k ≤ c.available ∧ k * c.denom ≤ amount ∧ k ≤ notes)
        ∧ pays cs ks (amount - k * c.denom) (notes - k) := by
  simp only [pays, List.length_cons, List.zip_cons_cons, List.forall_mem_cons, List.sum_cons, List.map_cons,
    Nat.add_right_cancel_iff]
  constructor
  · rintro ⟨h1, ⟨h2, h3⟩, h4, h5⟩
    exact ⟨⟨h2, by omega, by omega⟩, h1, h3, by omega, by omega⟩
  · rintro ⟨⟨h1, h2, h3⟩, h4, h5, h6, h7⟩
    exact ⟨h4, ⟨h1, h5⟩, by omega, by omega⟩

theorem not_pays_cons_nil (c : Candidate) (cs : List Candidate) (amount notes : Nat) :
    ¬ pays (c :: cs) [] amount notes := fun h => by cases h.1

/-- What the search answers pays (R48). -/
theorem searchPlan_pays {cs : List Candidate} {amount notes : Nat} {v : List Nat}
    (h : searchPlan cs amount notes = some v) : pays cs v amount notes := by
  induction cs generalizing amount notes v with
  | nil =>
    rw [searchPlan] at h
    split at h
    · cases h
      exact (pays_nil _ _ _).mpr ⟨rfl, ‹_›⟩
    · cases h
  | cons c cs ih =>
    rw [searchPlan, tryDown_eq_some] at h
    obtain ⟨k, hk, hs, -⟩ := h
    obtain ⟨ks, hks, rfl⟩ := Option.map_eq_some_iff.mp hs
    have hd : k * c.denom ≤ amount :=
      le_trans (Nat.mul_le_mul_right _ (by omega)) (Nat.div_mul_le_self amount c.denom)
    exact (pays_cons _ _ _ _ _ _).mpr ⟨⟨by omega, hd, by omega⟩, ih hks⟩

/-- The search fails only where no vector pays (R48). -/
theorem searchPlan_complete {cs : List Candidate} (hcs : ∀ c ∈ cs, 0 < c.denom) {amount notes : Nat}
    (h : searchPlan cs amount notes = none) (w : List Nat) : ¬ pays cs w amount notes := by
  induction cs generalizing amount notes w with
  | nil =>
    rw [searchPlan] at h
    rw [pays_nil]
    split at h
    · cases h
    · exact fun hw => ‹¬ amount = 0› hw.2
  | cons c cs ih =>
    rw [searchPlan, tryDown_eq_none] at h
    cases w with
    | nil => exact not_pays_cons_nil _ _ _ _
    | cons k ks =>
      rw [pays_cons]
      rintro ⟨⟨h1, h2, h3⟩, hp⟩
      have hk := (Nat.le_div_iff_mul_le (hcs c List.mem_cons_self)).mpr h2
      exact ih (fun d hd => hcs d (List.mem_cons_of_mem _ hd))
        (Option.map_eq_none_iff.mp (h k (by omega))) ks hp

/-- What the search answers is no less than any vector that pays (R48). -/
theorem searchPlan_greatest {cs : List Candidate} (hcs : ∀ c ∈ cs, 0 < c.denom) {amount notes : Nat} {v : List Nat}
    (h : searchPlan cs amount notes = some v) {w : List Nat} (hw : pays cs w amount notes) : lexGe v w := by
  induction cs generalizing amount notes v w with
  | nil =>
    rw [((pays_nil _ _ _).mp hw).1]
    cases v <;> trivial
  | cons c cs ih =>
    have hcs' : ∀ d ∈ cs, 0 < d.denom := fun d hd => hcs d (List.mem_cons_of_mem _ hd)
    rw [searchPlan, tryDown_eq_some] at h
    obtain ⟨k, hk, hs, hlt⟩ := h
    obtain ⟨ks, hks, rfl⟩ := Option.map_eq_some_iff.mp hs
    cases w with
    | nil => trivial
    | cons j js =>
      obtain ⟨⟨h1, h2, h3⟩, hp⟩ := (pays_cons _ _ _ _ _ _).mp hw
      have hj := (Nat.le_div_iff_mul_le (hcs c List.mem_cons_self)).mpr h2
      rcases Nat.lt_trichotomy j k with hjk | rfl | hjk
      · exact .inl hjk
      · exact .inr ⟨rfl, ih hcs' hks hp⟩
      · exact absurd hp (searchPlan_complete hcs' (Option.map_eq_none_iff.mp (hlt j hjk (by omega))) js)

theorem lexGe_antisymm {v w : List Nat} (hl : v.length = w.length) (h : lexGe v w) (h' : lexGe w v) : v = w := by
  induction v generalizing w with
  | nil => exact (List.length_eq_zero_iff.mp hl.symm).symm
  | cons a as ih =>
    cases w with
    | nil => cases hl
    | cons b bs =>
      rcases h with h | ⟨rfl, h⟩ <;> rcases h' with h' | ⟨hab, h'⟩
      · omega
      · omega
      · omega
      · rw [ih (Nat.succ.inj hl) h h']

/-! ## The greedy maximum -/

/-- Some more notes pay at most the highest denomination each. -/
theorem greedyMaximum_add_le (cs : List Candidate) {d : Nat} (hd : ∀ c ∈ cs, c.denom ≤ d) (n j : Nat) :
    greedyMaximum cs (n + j) ≤ greedyMaximum cs n + j * d := by
  induction cs generalizing n j with
  | nil => simp [greedyMaximum]
  | cons c cs ih =>
    obtain ⟨i, hi⟩ := Nat.exists_eq_add_of_le (show min c.available n ≤ min c.available (n + j) by omega)
    have hrest : n + j - min c.available (n + j) = n - min c.available n + (j - i) := by omega
    have hij : j = i + (j - i) := by omega
    have hmore := ih (fun e he => hd e (List.mem_cons_of_mem _ he)) (n - min c.available n) (j - i)
    have hc : i * c.denom ≤ i * d := Nat.mul_le_mul_left _ (hd c List.mem_cons_self)
    calc greedyMaximum (c :: cs) (n + j)
        = min c.available n * c.denom + i * c.denom
          + greedyMaximum cs (n - min c.available n + (j - i)) := by
          rw [greedyMaximum, hrest, hi, Nat.add_mul]
      _ ≤ min c.available n * c.denom + i * d
          + (greedyMaximum cs (n - min c.available n) + (j - i) * d) := by omega
      _ = greedyMaximum (c :: cs) n + (i + (j - i)) * d := by
          rw [greedyMaximum, Nat.add_mul]
          omega
      _ = greedyMaximum (c :: cs) n + j * d := by rw [← hij]

theorem exists_pays_greedyMaximum (cs : List Candidate) (notes : Nat) :
    ∃ v, pays cs v (greedyMaximum cs notes) notes := by
  induction cs generalizing notes with
  | nil => exact ⟨[], (pays_nil _ _ _).mpr ⟨rfl, rfl⟩⟩
  | cons c cs ih =>
    obtain ⟨v, hv⟩ := ih (notes - min c.available notes)
    refine ⟨min c.available notes :: v, (pays_cons _ _ _ _ _ _).mpr ⟨⟨by omega, ?_, by omega⟩, ?_⟩⟩
    · exact Nat.le_add_right _ _
    · rwa [greedyMaximum, Nat.add_sub_cancel_left]

/-- No vector pays more than the greedy maximum (R49): a note kept back at the first candidate is worth at most as
much at a later one. -/
theorem pays_le_greedyMaximum {cs : List Candidate} (hs : cs.Pairwise fun c d => d.denom ≤ c.denom) {v : List Nat}
    {amount notes : Nat} (h : pays cs v amount notes) : amount ≤ greedyMaximum cs notes := by
  induction cs generalizing v amount notes with
  | nil => exact ((pays_nil _ _ _).mp h).2 ▸ Nat.zero_le _
  | cons c cs ih =>
    cases v with
    | nil => exact absurd h (not_pays_cons_nil _ _ _ _)
    | cons k ks =>
      obtain ⟨hfirst, hrest⟩ := List.pairwise_cons.mp hs
      obtain ⟨⟨h1, h2, h3⟩, hp⟩ := (pays_cons _ _ _ _ _ _).mp h
      obtain ⟨j, hj⟩ := Nat.exists_eq_add_of_le (show k ≤ min c.available notes by omega)
      have hn : notes - k = notes - min c.available notes + j := by omega
      have hle := (ih hrest hp).trans (hn ▸ greedyMaximum_add_le cs hfirst (notes - min c.available notes) j)
      calc amount ≤ k * c.denom + (greedyMaximum cs (notes - min c.available notes) + j * c.denom) := by omega
        _ = (k + j) * c.denom + greedyMaximum cs (notes - min c.available notes) := by
          rw [Nat.add_mul]
          omega
        _ = greedyMaximum (c :: cs) notes := by rw [greedyMaximum, hj]

/-! ## The candidates -/

/-- One candidate stands before another (R47). -/
def Candidate.before (c d : Candidate) : Prop :=
  d.denom < c.denom ∨ (c.denom = d.denom ∧ c.pos.num < d.pos.num)

theorem mem_insertCandidate (c d : Candidate) (l : List Candidate) :
    d ∈ insertCandidate c l ↔ d = c ∨ d ∈ l := by
  induction l with
  | nil => simp [insertCandidate]
  | cons e l ih =>
    rw [insertCandidate]
    split
    · simp
    · simp only [List.mem_cons, ih]
      tauto

/-- A candidate of a lower position than all of some ordered ones takes its place among them. -/
theorem insertCandidate_pairwise {c : Candidate} {l : List Candidate} (hl : l.Pairwise Candidate.before)
    (hc : ∀ d ∈ l, c.pos.num < d.pos.num) : (insertCandidate c l).Pairwise Candidate.before := by
  induction l with
  | nil => simp [insertCandidate]
  | cons e l ih =>
    obtain ⟨he, hl'⟩ := List.pairwise_cons.mp hl
    rw [insertCandidate]
    split
    · next hec =>
      have hce : c.before e := by
        rcases Nat.lt_or_eq_of_le hec with h | h
        · exact .inl h
        · exact .inr ⟨h.symm, hc e List.mem_cons_self⟩
      refine List.pairwise_cons.mpr ⟨?_, hl⟩
      refine List.forall_mem_cons.mpr ⟨hce, fun d hd => ?_⟩
      have hcd := hc d (List.mem_cons_of_mem _ hd)
      rcases he d hd with h | ⟨h, -⟩
      · exact .inl (by omega)
      · rcases Nat.lt_or_eq_of_le hec with h' | h'
        · exact .inl (by omega)
        · exact .inr ⟨by omega, hcd⟩
    · next hec =>
      refine List.pairwise_cons.mpr ⟨fun d hd => ?_, ih hl' fun d hd => hc d (List.mem_cons_of_mem _ hd)⟩
      rcases (mem_insertCandidate c d l).mp hd with rfl | hd
      · exact .inl (by omega)
      · exact he d hd

theorem mem_foldr_insertCandidate (l : List Candidate) (d : Candidate) :
    d ∈ l.foldr insertCandidate [] ↔ d ∈ l := by
  induction l with
  | nil => simp
  | cons e l ih => rw [List.foldr_cons, mem_insertCandidate, ih, List.mem_cons]

theorem foldr_insertCandidate_pairwise {l : List Candidate} (hl : l.Pairwise fun c d => c.pos.num < d.pos.num) :
    (l.foldr insertCandidate []).Pairwise Candidate.before := by
  induction l with
  | nil => exact .nil
  | cons c l ih =>
    obtain ⟨hc, hl'⟩ := List.pairwise_cons.mp hl
    exact insertCandidate_pairwise (ih hl') fun d hd => hc d ((mem_foldr_insertCandidate l d).mp hd)

/-- The candidate at a position is its live stock when that is neither DOUBTFUL nor held (R47). -/
theorem State.candidateAt_eq_some {s : State} {p : CassettePos} {c : Candidate} :
    s.candidateAt p = some c ↔ c.pos = p ∧ ∃ st, s.ct.stockAt p = some (c.handle, st)
      ∧ st.quality.isDoubtful = false ∧ s.ct.holdDispenser = 0
      ∧ c.denom = st.denom ∧ c.available = st.available := by
  unfold State.candidateAt
  cases hs : s.ct.stockAt p with
  | none => simp
  | some x =>
    obtain ⟨k, st⟩ := x
    obtain ⟨h, q, d, a⟩ := c
    simp only [Option.some.injEq, Prod.mk.injEq]
    split
    · next hbad =>
      simp only [reduceCtorEq, false_iff]
      rintro ⟨-, _, ⟨-, rfl⟩, hq, hh, -⟩
      simp [hq, hh] at hbad
    · next hok =>
      simp only [Bool.or_eq_true, bne_iff_ne, ne_eq, not_or, Bool.not_eq_true, not_not] at hok
      obtain ⟨hq, hh⟩ := hok
      constructor
      · intro he
        cases he
        exact ⟨rfl, st, ⟨rfl, rfl⟩, hq, hh, rfl, rfl⟩
      · rintro ⟨rfl, _, ⟨rfl, rfl⟩, -, -, rfl, rfl⟩
        rfl

theorem State.mem_candidates {s : State} {c : Candidate} :
    c ∈ s.candidates ↔ s.candidateAt c.pos = some c := by
  rw [State.candidates, mem_foldr_insertCandidate, List.mem_filterMap]
  constructor
  · rintro ⟨p, -, hp⟩
    rwa [(State.candidateAt_eq_some.mp hp).1]
  · exact fun h => ⟨c.pos, by cases c.pos <;> decide, h⟩

theorem State.candidates_pairwise (s : State) : s.candidates.Pairwise Candidate.before := by
  refine foldr_insertCandidate_pairwise ?_
  have hall : CassettePos.all.Pairwise fun p q => p.num < q.num := by decide
  refine hall.filterMap _ fun p q hpq c hc d hd => ?_
  rw [(State.candidateAt_eq_some.mp hc).1, (State.candidateAt_eq_some.mp hd).1]
  exact hpq

end Sys2Proof.Machine

/-- Settles O36: the search tries each candidate's counts from the largest down, so that what it finds first is the
greatest, and the bound on a count leaves out no vector that pays. -/
theorem searchFindsTheGreatestPlan : Obligations.SearchFindsTheGreatestPlan := by
  intro cs amount notes hcs
  have hnone : searchPlan cs amount notes = none ↔ ∀ w, ¬ pays cs w amount notes := by
    refine ⟨fun h w => searchPlan_complete hcs h w, fun h => ?_⟩
    cases hs : searchPlan cs amount notes with
    | none => rfl
    | some v => exact absurd (searchPlan_pays hs) (h v)
  refine ⟨fun v => ⟨fun h => ⟨searchPlan_pays h, fun w => searchPlan_greatest hcs h⟩, ?_⟩, hnone⟩
  rintro ⟨hv, hmax⟩
  cases hs : searchPlan cs amount notes with
  | none => exact absurd hv (hnone.mp hs v)
  | some u =>
    have hu := searchPlan_pays hs
    rw [lexGe_antisymm (hu.1.trans hv.1.symm) (searchPlan_greatest hcs hs hv) (hmax u hu)]

/-- Settles O37. -/
theorem candidatesAndGreedyMaximum : Obligations.CandidatesAndGreedyMaximum := by
  refine ⟨fun s => ⟨s.candidates_pairwise, fun c => ?_⟩, fun cs notes hcs =>
    ⟨exists_pays_greedyMaximum cs notes, fun v amount => pays_le_greedyMaximum hcs⟩⟩
  rw [State.mem_candidates, State.candidateAt_eq_some]
  exact and_iff_right rfl

end

section
/-! PROOF. What one step can do, said once: a millisecond passes, the station link alone changes, or a row of the table
is executed. A request that came as bytes is a request row of the table, or is refused for its BODY (R166). -/

open Sys2Proof Sys2Proof.Machine Host

namespace Sys2Proof.Machine

/-- What taking a request's bytes comes to: a row of the table other than the two that take bytes, or a response. -/
def State.TakesRow (s : State) (o : Outcome State Fault Refusal) : Prop :=
  (∃ code r, o = .next (s.respond code r)) ∨ ∃ c, takesRaw c = false ∧ o = exec c s

theorem State.takesRow_exec {s : State} {c : Instr} (h : takesRaw c = false) : s.TakesRow (exec c s) :=
  .inr ⟨c, h, rfl⟩

/-- A request with no selector is refused (R166). -/
theorem State.firstChecks_none {α : Type} (s : State) (code : Nat) (auth : Byte) (op : Half) :
    ∃ st, s.firstChecks code auth op (none : Option α) = .error st := by
  have hlast (r : Role) : ∃ st, r.lastChecks code (none : Option α) = .error st := by
    unfold Role.lastChecks
    split <;> exact ⟨_, rfl⟩
  unfold State.firstChecks
  split
  · exact ⟨_, rfl⟩
  · split
    · exact ⟨_, rfl⟩
    · split
      · split
        · exact hlast _
        · exact ⟨_, rfl⟩
      · exact hlast _

theorem State.badBody_takesRow (s : State) (code : Nat) (auth : Byte) (op : Half) :
    s.TakesRow (s.badBody code auth op) := by
  obtain ⟨st, h⟩ := s.firstChecks_none (α := Unit) code auth op
  refine .inl ⟨code, .refuse st, ?_⟩
  simp only [State.badBody, State.request, h]

theorem State.takesRow_ite {s : State} {p : Prop} [Decidable p] {o o' : Outcome State Fault Refusal}
    (h : s.TakesRow o) (h' : s.TakesRow o') : s.TakesRow (if p then o else o') := by
  split
  · exact h
  · exact h'

/-- A read of the table (10, section 10.4), by its CODE and the length of its BODY. -/
theorem State.takeRead_takesRow (s : State) (auth : Byte) (op : Half) {code : Nat} (hc : code ∈ requestCodes)
    (h20 : code < 0x20) (body : List Byte) : s.TakesRow (s.takeRead auth op code body) := by
  have hcode : code = 0x01 ∨ code = 0x02 ∨ code = 0x03 ∨ code = 0x04 ∨ code = 0x05 ∨ code = 0x06 ∨ code = 0x07 ∨ code = 0x08 ∨ code = 0x09 ∨ code = 0x0A ∨ code = 0x0B := by
    simp only [requestCodes, List.mem_cons, List.not_mem_nil, or_false] at hc
    omega
  rcases hcode with rfl | rfl | rfl | rfl | rfl | rfl | rfl | rfl | rfl | rfl | rfl
  · rcases body with _ | ⟨z, l⟩ <;> first
      | exact s.badBody_takesRow _ _ _
      | exact takesRow_exec (c := .identify auth op) rfl
  · rcases body with _ | ⟨z, l⟩ <;> first
      | exact s.badBody_takesRow _ _ _
      | exact takesRow_exec (c := .readEvents auth op) rfl
  · rcases body with _ | ⟨a, _ | ⟨b, _ | ⟨z, l⟩⟩⟩ <;> first
      | exact s.badBody_takesRow _ _ _
      | exact takesRow_exec (c := .readSetting auth op a b) rfl
  · rcases body with _ | ⟨a, _ | ⟨b, _ | ⟨z, l⟩⟩⟩ <;> first
      | exact s.badBody_takesRow _ _ _
      | exact takesRow_exec (c := .readRecord auth op (half a b)) rfl
  · rcases body with _ | ⟨a, _ | ⟨b, _ | ⟨z, l⟩⟩⟩ <;> first
      | exact s.badBody_takesRow _ _ _
      | exact takesRow_exec (c := .findByLocation auth op a b) rfl
  · rcases body with _ | ⟨a, _ | ⟨b, _ | ⟨c, _ | ⟨d, _ | ⟨z, l⟩⟩⟩⟩⟩ <;> first
      | exact s.badBody_takesRow _ _ _
      | exact takesRow_exec (c := .findEnvelope auth op (quad a b c d)) rfl
  · rcases body with _ | ⟨a, _ | ⟨z, l⟩⟩ <;> first
      | exact s.badBody_takesRow _ _ _
      | exact takesRow_exec (c := .listLane auth op a) rfl
  · rcases body with _ | ⟨z, l⟩ <;> first
      | exact s.badBody_takesRow _ _ _
      | exact takesRow_exec (c := .readTotals auth op) rfl
  · rcases body with _ | ⟨a, _ | ⟨z, l⟩⟩ <;> first
      | exact s.badBody_takesRow _ _ _
      | exact takesRow_exec (c := .readDrawer auth op a) rfl
  · rcases body with _ | ⟨a, _ | ⟨z, l⟩⟩
    · exact s.badBody_takesRow _ _ _
    · exact takesRow_ite (takesRow_exec (c := .readTransportNote auth op) rfl)
        (takesRow_ite (takesRow_exec (c := .readTransportEnvelope auth op) rfl) (s.badBody_takesRow _ _ _))
    · exact s.badBody_takesRow _ _ _
  · rcases body with _ | ⟨z, l⟩ <;> first
      | exact s.badBody_takesRow _ _ _
      | exact takesRow_exec (c := .readAlarms auth op) rfl

theorem State.takeDispense_takesRow (s : State) (auth : Byte) (op : Half) (body : List Byte) :
    s.TakesRow (s.takeDispense auth op body) := by
  unfold State.takeDispense
  split
  case h_1 l _ a b c d =>
    exact takesRow_ite (takesRow_exec (c := .dispenseAmount auth op l (quad a b c d)) rfl) (s.badBody_takesRow _ _ _)
  case h_2 l _ a b c d e =>
    exact takesRow_ite (takesRow_exec (c := .dispenseMix auth op l a b c d e) rfl) (s.badBody_takesRow _ _ _)
  case h_3 => exact s.badBody_takesRow _ _ _

/-- A planning, drawer or claim request of the table. -/
theorem State.takeTeller_takesRow (s : State) (auth : Byte) (op : Half) {code : Nat} (hc : code ∈ requestCodes)
    (h20 : 0x20 ≤ code) (h50 : code < 0x50) (body : List Byte) : s.TakesRow (s.takeTeller auth op code body) := by
  have hcode : code = 0x20 ∨ code = 0x21 ∨ code = 0x22 ∨ code = 0x23 ∨ code = 0x30 ∨ code = 0x31 ∨ code = 0x32 ∨ code = 0x33 ∨ code = 0x34 ∨ code = 0x35 ∨ code = 0x36 ∨ code = 0x40 ∨ code = 0x41 := by
    simp only [requestCodes, List.mem_cons, List.not_mem_nil, or_false] at hc
    omega
  rcases hcode with rfl | rfl | rfl | rfl | rfl | rfl | rfl | rfl | rfl | rfl | rfl | rfl | rfl
  · rcases body with _ | ⟨l, _ | ⟨a, _ | ⟨b, _ | ⟨c, _ | ⟨d, _ | ⟨z, y⟩⟩⟩⟩⟩⟩ <;> first
      | exact s.badBody_takesRow _ _ _
      | exact takesRow_exec (c := .quote auth op l (quad a b c d)) rfl
  · rcases body with _ | ⟨a, _ | ⟨b, _ | ⟨z, l⟩⟩⟩ <;> first
      | exact s.badBody_takesRow _ _ _
      | exact takesRow_exec (c := .commit auth op a b) rfl
  · exact s.takeDispense_takesRow auth op body
  · rcases body with _ | ⟨a, _ | ⟨b, _ | ⟨z, l⟩⟩⟩ <;> first
      | exact s.badBody_takesRow _ _ _
      | exact takesRow_exec (c := .cancelBundle auth op (half a b)) rfl
  · rcases body with _ | ⟨a, _ | ⟨z, l⟩⟩ <;> first
      | exact s.badBody_takesRow _ _ _
      | exact takesRow_exec (c := .presentDrawer auth op a) rfl
  · rcases body with _ | ⟨a, _ | ⟨z, l⟩⟩ <;> first
      | exact s.badBody_takesRow _ _ _
      | exact takesRow_exec (c := .retractDrawer auth op a) rfl
  · rcases body with _ | ⟨a, _ | ⟨b, _ | ⟨c, _ | ⟨d, _ | ⟨e, _ | ⟨z, l⟩⟩⟩⟩⟩⟩ <;> first
      | exact s.badBody_takesRow _ _ _
      | exact takesRow_exec (c := .declareTransit auth op a (quad b c d e)) rfl
  · rcases body with _ | ⟨a, _ | ⟨b, _ | ⟨z, l⟩⟩⟩ <;> first
      | exact s.badBody_takesRow _ _ _
      | exact takesRow_exec (c := .resolveRetract auth op (half a b)) rfl
  · rcases body with _ | ⟨a, _ | ⟨b, _ | ⟨c, _ | ⟨d, _ | ⟨e, _ | ⟨f, _ | ⟨z, l⟩⟩⟩⟩⟩⟩⟩ <;> first
      | exact s.badBody_takesRow _ _ _
      | exact takesRow_exec (c := .acceptDeposit auth op (half a b) (quad c d e f)) rfl
  · rcases body with _ | ⟨a, _ | ⟨z, l⟩⟩ <;> first
      | exact s.badBody_takesRow _ _ _
      | exact takesRow_exec (c := .resumeLane auth op a) rfl
  · rcases body with _ | ⟨a, _ | ⟨z, l⟩⟩ <;> first
      | exact s.badBody_takesRow _ _ _
      | exact takesRow_exec (c := .laneReset auth op a) rfl
  · rcases body with _ | ⟨a, _ | ⟨b, _ | ⟨z, l⟩⟩⟩ <;> first
      | exact s.badBody_takesRow _ _ _
      | exact takesRow_exec (c := .claimEnvelope auth op (half a b)) rfl
  · rcases body with _ | ⟨a, _ | ⟨b, _ | ⟨z, l⟩⟩⟩ <;> first
      | exact s.badBody_takesRow _ _ _
      | exact takesRow_exec (c := .releaseClaim auth op (half a b)) rfl

/-- An exchange request of the table. -/
theorem State.takeExchange_takesRow (s : State) (auth : Byte) (op : Half) {code : Nat} (hc : code ∈ requestCodes)
    (h50 : 0x50 ≤ code) (h60 : code < 0x60) (body : List Byte) : s.TakesRow (s.takeExchange auth op code body) := by
  have hcode : code = 0x50 ∨ code = 0x51 ∨ code = 0x52 ∨ code = 0x53 ∨ code = 0x54 ∨ code = 0x55 ∨ code = 0x56 ∨ code = 0x57 := by
    simp only [requestCodes, List.mem_cons, List.not_mem_nil, or_false] at hc
    omega
  rcases hcode with rfl | rfl | rfl | rfl | rfl | rfl | rfl | rfl
  · rcases body with _ | ⟨p, _ | ⟨d, _ | ⟨e, _ | ⟨f, _ | ⟨g, _ | ⟨h, _ | ⟨i, _ | ⟨j, _ | ⟨k, _ | ⟨m, _ | ⟨n, _ | ⟨z, l⟩⟩⟩⟩⟩⟩⟩⟩⟩⟩⟩⟩ <;> first
      | exact s.badBody_takesRow _ _ _
      | exact takesRow_exec (c := .loadCassette auth op p (quad d e f g) (half h i) (half j k) (half m n)) rfl
  · rcases body with _ | ⟨p, _ | ⟨z, l⟩⟩ <;> first
      | exact s.badBody_takesRow _ _ _
      | exact takesRow_exec (c := .unloadCassette auth op p) rfl
  · rcases body with _ | ⟨p, _ | ⟨a, _ | ⟨b, _ | ⟨z, l⟩⟩⟩⟩ <;> first
      | exact s.badBody_takesRow _ _ _
      | exact takesRow_exec (c := .reconcile auth op p (half a b)) rfl
  · rcases body with _ | ⟨z, l⟩ <;> first
      | exact s.badBody_takesRow _ _ _
      | exact takesRow_exec (c := .emptyRejectVault auth op) rfl
  · rcases body with _ | ⟨a, _ | ⟨b, _ | ⟨z, l⟩⟩⟩ <;> first
      | exact s.badBody_takesRow _ _ _
      | exact takesRow_exec (c := .reconcileRv auth op (half a b)) rfl
  · rcases body with _ | ⟨b, _ | ⟨z, l⟩⟩ <;> first
      | exact s.badBody_takesRow _ _ _
      | exact takesRow_exec (c := .collectBin auth op b) rfl
  · rcases body with _ | ⟨b, _ | ⟨z, l⟩⟩ <;> first
      | exact s.badBody_takesRow _ _ _
      | exact takesRow_exec (c := .insertBin auth op b) rfl
  · rcases body with _ | ⟨a, _ | ⟨z, l⟩⟩
    · exact s.badBody_takesRow _ _ _
    · exact takesRow_ite (takesRow_exec (c := .clearTransportNote auth op) rfl)
        (takesRow_ite (takesRow_exec (c := .clearTransportEnvelope auth op) rfl) (s.badBody_takesRow _ _ _))
    · exact s.badBody_takesRow _ _ _

/-- A zone, grant or setting request of the table. -/
theorem State.takeZone_takesRow (s : State) (auth : Byte) (op : Half) {code : Nat} (hc : code ∈ requestCodes)
    (h60 : 0x60 ≤ code) (body : List Byte) : s.TakesRow (s.takeZone auth op code body) := by
  have hcode : code = 0x60 ∨ code = 0x61 ∨ code = 0x62 ∨ code = 0x63 ∨ code = 0x64 ∨ code = 0x65 ∨ code = 0x68 ∨ code = 0x69 ∨ code = 0x6A ∨ code = 0x70 := by
    simp only [requestCodes, List.mem_cons, List.not_mem_nil, or_false] at hc
    omega
  rcases hcode with rfl | rfl | rfl | rfl | rfl | rfl | rfl | rfl | rfl | rfl
  · rcases body with _ | ⟨a, _ | ⟨z, l⟩⟩ <;> first
      | exact s.badBody_takesRow _ _ _
      | exact takesRow_exec (c := .restoreZone auth op a) rfl
  · rcases body with _ | ⟨a, _ | ⟨b, _ | ⟨z, l⟩⟩⟩ <;> first
      | exact s.badBody_takesRow _ _ _
      | exact takesRow_exec (c := .setZoneEnable auth op (half a b)) rfl
  · rcases body with _ | ⟨a, _ | ⟨b, _ | ⟨z, l⟩⟩⟩ <;> first
      | exact s.badBody_takesRow _ _ _
      | exact takesRow_exec (c := .clearZoneEnable auth op (half a b)) rfl
  · rcases body with _ | ⟨a, _ | ⟨b, _ | ⟨z, l⟩⟩⟩ <;> first
      | exact s.badBody_takesRow _ _ _
      | exact takesRow_exec (c := .setDelegation auth op a b) rfl
  · rcases body with _ | ⟨z, _ | ⟨a, _ | ⟨b, l⟩⟩⟩
    · exact s.badBody_takesRow _ _ _
    · exact s.badBody_takesRow _ _ _
    · exact takesRow_ite (takesRow_exec (c := .setZoneModeArmed auth op z) rfl)
        (takesRow_ite (takesRow_exec (c := .setZoneModeTest auth op z) rfl) (s.badBody_takesRow _ _ _))
    · exact s.badBody_takesRow _ _ _
  · rcases body with _ | ⟨a, _ | ⟨z, l⟩⟩ <;> first
      | exact s.badBody_takesRow _ _ _
      | exact takesRow_exec (c := .injectTrip auth op a) rfl
  · rcases body with _ | ⟨a, _ | ⟨z, l⟩⟩ <;> first
      | exact s.badBody_takesRow _ _ _
      | exact takesRow_exec (c := .openGrant auth op a) rfl
  · rcases body with _ | ⟨a, _ | ⟨z, l⟩⟩ <;> first
      | exact s.badBody_takesRow _ _ _
      | exact takesRow_exec (c := .confirmGrant auth op a) rfl
  · rcases body with _ | ⟨a, _ | ⟨z, l⟩⟩ <;> first
      | exact s.badBody_takesRow _ _ _
      | exact takesRow_exec (c := .closeGrant auth op a) rfl
  · rcases body with _ | ⟨a, _ | ⟨b, _ | ⟨c, _ | ⟨d, _ | ⟨z, l⟩⟩⟩⟩⟩ <;> first
      | exact s.badBody_takesRow _ _ _
      | exact takesRow_exec (c := .writeSetting auth op a b (half c d)) rfl

theorem State.takeRequest_takesRow (s : State) (auth : Byte) (op : Half) (code : Byte) (body : List Byte) :
    s.TakesRow (s.takeRequest auth op code body) := by
  unfold State.takeRequest
  dsimp only
  split
  · next hc =>
    have hc := List.contains_iff_mem.mp hc
    split
    · next h20 => exact s.takeRead_takesRow _ _ hc h20 _
    · split
      · next h20 h50 => exact s.takeTeller_takesRow _ _ hc (by omega) h50 _
      · split
        · next h50 h60 => exact s.takeExchange_takesRow _ _ hc (by omega) h60 _
        · next h60 => exact s.takeZone_takesRow _ _ hc (by omega) _
  · exact takesRow_exec (c := .unknownRequest auth op code) rfl

/-! ## The step -/

/-- Two states that differ in the station link and the queue of commands alone. -/
def State.LinkOnly (s t : State) : Prop := ∃ p q, t = { s with slp := p, pending := q }

theorem State.LinkOnly.refl (s : State) : s.LinkOnly s := ⟨s.slp, s.pending, rfl⟩

theorem State.LinkOnly.trans {s t u : State} (h : s.LinkOnly t) (h' : t.LinkOnly u) : s.LinkOnly u := by
  obtain ⟨p, q, rfl⟩ := h
  obtain ⟨p', q', rfl⟩ := h'
  exact ⟨p', q', rfl⟩

theorem State.linkOnly_onSlp (s : State) (f : Slp → Slp) : s.LinkOnly (s.onSlp f) := ⟨f s.slp, s.pending, rfl⟩

/-- What a command on the link comes to: the link alone changes, or with the link changed a row is executed. -/
def State.LinkOrRow (s t : State) : Prop :=
  s.LinkOnly t ∨ ∃ u c, s.LinkOnly u ∧ takesRaw c = false ∧ exec c u = .next t

theorem State.LinkOnly.linkOrRow {s t u : State} (h : s.LinkOnly t) (h' : t.LinkOrRow u) : s.LinkOrRow u := by
  rcases h' with h' | ⟨v, c, hv, hc, he⟩
  · exact .inl (h.trans h')
  · exact .inr ⟨v, c, h.trans hv, hc, he⟩

theorem State.takeRaw_linkOrRow (s : State) (raw : RawRequest) : s.LinkOrRow (s.takeRaw raw) := by
  unfold State.takeRaw
  split
  · next auth lo hi code body =>
    rcases s.takeRequest_takesRow auth (half lo hi) code body with ⟨k, r, h⟩ | ⟨c, hc, h⟩
    · rw [h]
      exact .inl ⟨(s.respond k r).slp, s.pending, rfl⟩
    · rw [h]
      cases he : exec c s with
      | next t => exact .inr ⟨s, c, .refl s, hc, he⟩
      | fault r => exact .inl (.refl s)
      | refused r => exact .inl (.refl s)
  · exact .inl (.refl s)

theorem State.await_linkOnly (s : State) (raw : RawRequest) : s.LinkOnly (s.await raw) := by
  unfold State.await
  split
  · exact s.linkOnly_onSlp _
  · exact .refl s

theorem State.receive_linkOrRow (s : State) (b : Byte) (stop : Bool) : s.LinkOrRow (s.receive b stop) := by
  have hcheck (n : Nat) (bytes : List Byte) (check : Half) : s.LinkOrRow (s.checkFrame n bytes check) := by
    have hr : s.LinkOnly s.resetReceiver := s.linkOnly_onSlp _
    unfold State.checkFrame
    dsimp only
    split
    · refine hr.linkOrRow ?_
      unfold State.requestWhole
      split
      · exact State.takeRaw_linkOrRow _ _
      · exact .inl (State.await_linkOnly _ _)
    · exact .inl hr
  unfold State.receive
  split
  · split
    · split
      · exact .inl (s.linkOnly_onSlp _)
      · exact .inl (.refl s)
    · split <;> exact .inl (s.linkOnly_onSlp _)
    · exact .inl (s.linkOnly_onSlp _)
    · exact .inl (s.linkOnly_onSlp _)
    · exact hcheck _ _ _
  · exact .inl (s.linkOnly_onSlp _)

theorem State.responseSent_linkOrRow (s : State) : s.LinkOrRow s.responseSent := by
  unfold State.responseSent
  split
  · exact .inl (s.linkOnly_onSlp _)
  · exact (s.linkOnly_onSlp _).linkOrRow (State.takeRaw_linkOrRow _ _)

/-- What a step can do: a millisecond passes, the link alone changes, or with the link changed a row is executed that
takes no bytes. -/
theorem step_cases {s t : State} (h : step s = .next t) : t = s.tick ∨ s.LinkOrRow t := by
  unfold step at h
  split at h
  · exact .inl (Outcome.next.inj h).symm
  · next c rest _ =>
    have hlink : s.LinkOnly { s with pending := rest } := ⟨s.slp, rest, rfl⟩
    refine .inr (hlink.linkOrRow ?_)
    cases hc : takesRaw c with
    | false => exact .inr ⟨_, c, .refl _, hc, h⟩
    | true =>
      cases c with
      | byteReceived b stop => exact Outcome.next.inj h ▸ State.receive_linkOrRow _ b stop
      | responseSent => exact Outcome.next.inj h ▸ State.responseSent_linkOrRow _
      | _ => cases hc

end Sys2Proof.Machine
end

section
/-! PROOF. The quote table (R51 to R53): what stands in it is each live quote's tag, lane and age, and the law of
the table is a law of that alone. A quote that becomes INVALID changes nothing of it, a new quote takes a free entry
or its lane's OLDER one, and a freed one leaves its lane's other quote NEWER. -/

open Sys2Proof Sys2Proof.Machine

namespace Sys2Proof.Machine

/-! ## Quotes that become INVALID -/

/-- Every live quote is changed. -/
def Dpl.mapQuotes (d : Dpl) (f : Quote → Quote) : Dpl := { d with quotes := d.quotes.map fun q => q.map f }

theorem Dpl.mapQuotes_liveQuotes (d : Dpl) (f : Quote → Quote) : (d.mapQuotes f).liveQuotes = d.liveQuotes.map f := by
  rw [Dpl.liveQuotes, Dpl.liveQuotes, Dpl.mapQuotes, Vector.toList_map, List.filterMap_map, List.map_filterMap]
  rfl

/-- The quotes that meet a condition become INVALID (R52). -/
def Dpl.lapse (d : Dpl) (p : Quote → Bool) : Dpl :=
  d.mapQuotes fun e => if p e then { e with valid := false } else e

theorem State.invalidateQuotes_eq (s : State) (h : Handle) :
    s.invalidateQuotes h = s.onDpl fun d => d.lapse fun e => e.parts.any (·.stock = h) := rfl

theorem State.invalidateAllQuotes_eq (s : State) :
    s.invalidateAllQuotes = s.onDpl fun d => d.lapse fun _ => true := rfl

/-- A quote that is still VALID after some became INVALID is as it was, and met no condition for it. -/
theorem Dpl.mem_lapse_of_valid {d : Dpl} {p : Quote → Bool} {q : Quote} (hq : q ∈ (d.lapse p).liveQuotes)
    (hv : q.valid = true) : q ∈ d.liveQuotes ∧ p q = false := by
  rw [Dpl.lapse, Dpl.mapQuotes_liveQuotes, List.mem_map] at hq
  obtain ⟨e, he, rfl⟩ := hq
  by_cases hp : p e = true
  · simp [hp] at hv
  · rw [if_neg hp]
    exact ⟨he, Bool.not_eq_true _ ▸ hp⟩

/-! ## What stands in the table -/

/-- What the table's law reads of a quote: its tag, its lane and whether it is NEWER. -/
def Quote.standing (q : Quote) : Nat × Lane × Bool := (q.tag, q.lane, q.newer)

/-- What stands in the table. -/
def Dpl.standing (d : Dpl) : List (Nat × Lane × Bool) := d.liveQuotes.map Quote.standing

/-- The quotes of a lane among those that stand. -/
def inLane (x : List (Nat × Lane × Bool)) (l : Lane) : Nat := x.countP (·.2.1 = l)

/-- The NEWER quotes of a lane among those that stand. -/
def newerIn (x : List (Nat × Lane × Bool)) (l : Lane) : Nat := x.countP fun e => e.2.1 = l && e.2.2

theorem Dpl.length_quotesOf (d : Dpl) (l : Lane) : (d.quotesOf l).length = inLane d.standing l := by
  rw [inLane, Dpl.standing, List.countP_map, Dpl.quotesOf, ← List.countP_eq_length_filter]
  rfl

theorem Dpl.standing_tags (d : Dpl) : d.standing.map (·.1) = d.liveQuotes.map (·.tag) := by
  rw [Dpl.standing, List.map_map]
  rfl

/-- The law of R51 in terms of what stands: distinct tags, the next one free, and of each lane at most two, of which
one is NEWER. -/
theorem Dpl.quotesLegal_iff (d : Dpl) :
    d.quotesLegal = true ↔ (d.standing.map (·.1)).Nodup ∧ d.nextTag ∉ d.standing.map (·.1)
      ∧ ∀ l, inLane d.standing l ≤ 2 ∧ (inLane d.standing l < 2 ∨ newerIn d.standing l = 1) := by
  have htags : d.tags = d.standing.map (·.1) := d.standing_tags.symm
  have hnewer (l : Lane) : ((d.quotesOf l).filter (·.newer)).length = newerIn d.standing l := by
    rw [newerIn, Dpl.standing, List.countP_map, ← List.countP_eq_length_filter, Dpl.quotesOf, List.countP_filter]
    exact List.countP_congr fun e _ => by rw [Bool.and_comm]; exact Iff.rfl
  have hall (p : Lane → Prop) : (∀ l ∈ Lane.all, p l) ↔ ∀ l, p l :=
    ⟨fun h l => h l (by cases l <;> decide), fun h l _ => h l⟩
  simp only [Dpl.quotesLegal, htags, Bool.and_eq_true, List.all_eq_true, Bool.or_eq_true, decide_eq_true_eq,
    Bool.not_eq_true', List.contains_eq_mem, decide_eq_false_iff_not, d.length_quotesOf, hnewer, hall, and_assoc]

/-- Two tables in which the same stands under the same next tag. -/
def Dpl.Alike (d e : Dpl) : Prop := e.standing = d.standing ∧ e.nextTag = d.nextTag

theorem Dpl.Alike.refl (d : Dpl) : d.Alike d := ⟨rfl, rfl⟩

theorem Dpl.Alike.trans {d e f : Dpl} (h : d.Alike e) (h' : e.Alike f) : d.Alike f :=
  ⟨h'.1.trans h.1, h'.2.trans h.2⟩

theorem Dpl.Alike.of_quotes {d e : Dpl} (hq : e.quotes = d.quotes) (ht : e.nextTag = d.nextTag) : d.Alike e :=
  ⟨by simp only [Dpl.standing, Dpl.liveQuotes, hq], ht⟩

theorem Dpl.Alike.quotesLegal {d e : Dpl} (h : d.Alike e) (hd : d.quotesLegal = true) : e.quotesLegal = true := by
  rw [Dpl.quotesLegal_iff] at hd ⊢
  rwa [h.1, h.2]

/-- A quote that becomes INVALID keeps its place in the table (R52). -/
theorem Dpl.lapse_alike (d : Dpl) (p : Quote → Bool) : d.Alike (d.lapse p) := by
  refine ⟨?_, rfl⟩
  rw [Dpl.standing, Dpl.lapse, Dpl.mapQuotes_liveQuotes, List.map_map]
  refine List.map_congr_left fun e _ => ?_
  simp only [Function.comp_apply, Quote.standing]
  split <;> rfl

/-! ## The next tag -/

/-- The tag some steps after a tag. -/
def tagAfter (t : Nat) : Nat → Nat
  | 0 => t
  | k + 1 => tagAfter (stepTag t) k

theorem tagAfter_succ (t k : Nat) : tagAfter t (k + 1) = stepTag (tagAfter t k) := by
  induction k generalizing t with
  | zero => rfl
  | succ k ih => exact ih (stepTag t)

/-- The next tag is free, or every tag up to it is held. -/
theorem nextTagFrom_not_mem (tags : List Nat) (fuel t : Nat) :
    nextTagFrom tags fuel t ∉ tags ∨ ∀ k, k ≤ fuel → tagAfter t (k + 1) ∈ tags := by
  induction fuel generalizing t with
  | zero =>
    by_cases h : stepTag t ∈ tags
    · exact .inr fun k hk => by rwa [Nat.le_zero.mp hk]
    · exact .inl h
  | succ fuel ih =>
    rw [nextTagFrom]
    by_cases h : stepTag t ∈ tags
    · rw [if_pos (by simpa using h)]
      refine (ih (stepTag t)).imp_right fun hall k hk => ?_
      cases k with
      | zero => exact h
      | succ k => exact hall k (by omega)
    · rw [if_neg (by simpa using h)]
      exact .inl h

theorem one_le_stepTag (t : Nat) : 1 ≤ stepTag t ∧ stepTag t ≤ 255 := by
  unfold stepTag
  split <;> omega

/-- The steps run through 1 to 255 in turn. -/
theorem tagAfter_eq (t k : Nat) : tagAfter t (k + 1) = (stepTag t - 1 + k) % 255 + 1 := by
  have h := one_le_stepTag t
  induction k with
  | zero => simp only [tagAfter]; omega
  | succ k ih =>
    rw [tagAfter_succ, ih]
    generalize stepTag t = u at h
    unfold stepTag
    split <;> omega

/-- With at most eight tags held the next tag is free (R51). -/
theorem nextTagFrom_free {tags : List Nat} (h : tags.length ≤ 8) (t : Nat) : nextTagFrom tags 8 t ∉ tags := by
  refine (nextTagFrom_not_mem tags 8 t).resolve_right fun hall => ?_
  have hinj : Set.InjOn (fun k => tagAfter t (k + 1)) (Finset.range 9 : Set Nat) := by
    intro i hi j hj hij
    simp only [Finset.coe_range, Set.mem_Iio] at hi hj
    simp only [tagAfter_eq] at hij
    omega
  have hsub : (Finset.range 9).image (fun k => tagAfter t (k + 1)) ⊆ tags.toFinset := by
    intro x hx
    obtain ⟨k, hk, rfl⟩ := Finset.mem_image.mp hx
    exact List.mem_toFinset.mpr (hall k (by simpa [Nat.lt_succ_iff] using hk))
  have hcard := Finset.card_le_card hsub
  rw [Finset.card_image_of_injOn hinj, Finset.card_range] at hcard
  exact absurd (hcard.trans (List.toFinset_card_le tags)) (by omega)

/-! ## A new quote -/

/-- What a lane's quotes are once they are no longer NEWER. -/
def Quote.aged (l : Lane) (e : Quote) : Quote := if e.lane = l then { e with newer := false } else e

@[simp] theorem Quote.aged_tag (l : Lane) (e : Quote) : (e.aged l).tag = e.tag := by
  unfold Quote.aged; split <;> rfl

@[simp] theorem Quote.aged_lane (l : Lane) (e : Quote) : (e.aged l).lane = e.lane := by
  unfold Quote.aged; split <;> rfl

@[simp] theorem Quote.aged_parts (l : Lane) (e : Quote) : (e.aged l).parts = e.parts := by
  unfold Quote.aged; split <;> rfl

/-- The table around an entry: the live quotes before it and after it and what the entry holds; and what they are
when each is changed and the entry filled. -/
theorem Dpl.liveQuotes_split (d : Dpl) {i : Nat} (hi : i < 8) (f : Quote → Quote) :
    ∃ pre post, d.liveQuotes = pre ++ (d.quotes[i]).toList ++ post
      ∧ ∀ e n, ({ d with quotes := (d.mapQuotes f).quotes.setIfInBounds i (some e), nextTag := n } : Dpl).liveQuotes
          = pre.map f ++ e :: post.map f := by
  have hl : i < d.quotes.toList.length := by simpa using hi
  refine ⟨(d.quotes.toList.take i).filterMap id, (d.quotes.toList.drop (i + 1)).filterMap id, ?_, fun e n => ?_⟩
  · have hsplit : d.quotes.toList = d.quotes.toList.take i ++ d.quotes[i] :: d.quotes.toList.drop (i + 1) := by
      rw [show d.quotes[i] = d.quotes.toList[i] by simp, List.getElem_cons_drop, List.take_append_drop]
    unfold Dpl.liveQuotes
    conv_lhs => rw [hsplit, List.filterMap_append]
    cases d.quotes[i] <;> simp
  · simp only [Dpl.liveQuotes, Dpl.mapQuotes, Vector.toList_setIfInBounds, Vector.toList_map,
      List.set_eq_take_append_cons_drop, List.length_map, if_pos hl, List.filterMap_append, List.filterMap_cons,
      id_eq, ← List.map_take, ← List.map_drop, List.filterMap_map, List.map_filterMap]
    rfl

theorem length_eq_sum_inLane (x : List (Nat × Lane × Bool)) :
    x.length = inLane x .l1 + inLane x .l2 + inLane x .l3 + inLane x .l4 := by
  induction x with
  | nil => rfl
  | cons e x ih =>
    obtain ⟨t, l, b⟩ := e
    simp only [inLane, List.countP_cons, List.length_cons] at ih ⊢
    cases l <;> simp <;> omega

theorem Dpl.length_standing_le (d : Dpl) : d.standing.length ≤ 8 := by
  have h := List.length_filterMap_le id d.quotes.toList
  simpa [Dpl.standing, Dpl.liveQuotes] using h

/-- While some lane holds fewer than two quotes an entry is free. -/
theorem Dpl.exists_free_entry {d : Dpl} (h : d.quotesLegal = true) {l : Lane} (hl : inLane d.standing l < 2) :
    ∃ q ∈ d.quotes.toList, q.isNone = true := by
  by_contra hno
  have hsome : ∀ q ∈ d.quotes.toList, (id q : Option Quote).isSome = true := by
    intro q hq
    cases q with
    | none => exact absurd ⟨none, hq, rfl⟩ hno
    | some e => rfl
  have hlen : d.standing.length = 8 := by
    rw [Dpl.standing, List.length_map, Dpl.liveQuotes, List.length_filterMap_eq_countP,
      List.countP_eq_length.mpr hsome, Vector.length_toList]
  have hsum := length_eq_sum_inLane d.standing
  obtain ⟨-, -, hlanes⟩ := d.quotesLegal_iff.mp h
  have h1 := (hlanes .l1).1
  have h2 := (hlanes .l2).1
  have h3 := (hlanes .l3).1
  have h4 := (hlanes .l4).1
  cases l <;> omega

/-- The lane's OLDER quote, when it holds two (R51). -/
theorem Dpl.exists_older {d : Dpl} (h : d.quotesLegal = true) {l : Lane} (hl : 2 ≤ inLane d.standing l) :
    ∃ e ∈ d.liveQuotes, e.lane = l ∧ e.newer = false := by
  by_contra hno
  obtain ⟨-, -, hlanes⟩ := d.quotesLegal_iff.mp h
  have heq : newerIn d.standing l = inLane d.standing l := by
    refine List.countP_congr fun x hx => ?_
    obtain ⟨e, he, rfl⟩ := List.mem_map.mp hx
    cases hn : e.newer with
    | true => simp [Quote.standing, hn]
    | false =>
      have : e.lane ≠ l := fun c => hno ⟨e, he, c, hn⟩
      simp [Quote.standing, this]
  obtain ⟨h1, h2⟩ := hlanes l
  omega

/-- The entry that a new quote takes is free, with fewer than two quotes of its lane in the table, or holds one of
two quotes of its lane (R51). -/
theorem Dpl.entryFor_spec {d : Dpl} (h : d.quotesLegal = true) (l : Lane) :
    ∃ hi : d.entryFor l < 8, (d.quotes[d.entryFor l] = none ∧ inLane d.standing l < 2)
      ∨ ∃ e, d.quotes[d.entryFor l] = some e ∧ e.lane = l ∧ inLane d.standing l = 2 := by
  have hlane : (d.liveQuotes.filter (·.lane = l)).length = inLane d.standing l := d.length_quotesOf l
  have hle := ((d.quotesLegal_iff.mp h).2.2 l).1
  by_cases hl : inLane d.standing l < 2
  · have hfind : d.entryFor l = d.quotes.toList.findIdx (·.isNone) := by rw [Dpl.entryFor, hlane, if_pos hl]
    have hlt := List.findIdx_lt_length_of_exists (d.exists_free_entry h hl)
    have hget := List.findIdx_getElem (w := hlt)
    simp only [hfind]
    exact ⟨by simpa using hlt, .inl ⟨by simpa using hget, hl⟩⟩
  · have hfind : d.entryFor l = d.quotes.toList.findIdx fun q => q.any fun e => e.lane = l && !e.newer := by
      rw [Dpl.entryFor, hlane, if_neg hl]
      congr 1
      funext q
      cases q <;> rfl
    obtain ⟨e, he, hel, hen⟩ := d.exists_older h (Nat.le_of_not_lt hl)
    have hlt := List.findIdx_lt_length_of_exists
      (p := fun q : Option Quote => q.any fun e => e.lane = l && !e.newer) (xs := d.quotes.toList)
      ⟨some e, by simpa [Dpl.liveQuotes] using he, by simp [hel, hen]⟩
    have hget := List.findIdx_getElem (w := hlt)
    obtain ⟨e', he', hlane'⟩ := (Option.any_eq_true _ _).mp hget
    simp only [hfind]
    exact ⟨by simpa using hlt, .inr ⟨e', by simpa using he', by simpa using (Bool.and_eq_true_iff.mp hlane').1,
      by omega⟩⟩

/-- The table with a new quote: the quote stands between the aged ones, the next tag is free, and what the quote's
entry held stood with the others, nothing or one of two quotes of the lane (R51). -/
theorem Dpl.addQuote_liveQuotes {d : Dpl} (h : d.quotesLegal = true) (l : Lane) (amount : Nat)
    (parts : List QuotePart) :
    ∃ pre out post, d.liveQuotes = pre ++ out ++ post
      ∧ (d.addQuote l amount parts).liveQuotes
          = pre.map (·.aged l) ++ ⟨d.nextTag, l, amount, parts, true, true⟩ :: post.map (·.aged l)
      ∧ (d.addQuote l amount parts).nextTag ∉ (d.addQuote l amount parts).standing.map (·.1)
      ∧ ((out = [] ∧ inLane d.standing l < 2) ∨ ∃ e, out = [e] ∧ e.lane = l ∧ inLane d.standing l = 2) := by
  obtain ⟨hi, hentry⟩ := d.entryFor_spec h l
  obtain ⟨pre, post, hsplit, hset⟩ := d.liveQuotes_split hi (Quote.aged l)
  refine ⟨pre, _, post, hsplit, hset _ _, ?_, ?_⟩
  · have hle := Dpl.length_standing_le (d.addQuote l amount parts)
    rw [← List.length_map (·.1), Dpl.standing_tags] at hle
    rw [Dpl.standing_tags]
    exact nextTagFrom_free hle d.nextTag
  · rcases hentry with ⟨he, hl⟩ | ⟨e, he, hel, hl⟩
    · exact .inl ⟨by rw [he]; rfl, hl⟩
    · exact .inr ⟨e, by rw [he]; rfl, hel, hl⟩

theorem inLane_append (x y : List (Nat × Lane × Bool)) (l : Lane) : inLane (x ++ y) l = inLane x l + inLane y l :=
  List.countP_append

theorem newerIn_append (x y : List (Nat × Lane × Bool)) (l : Lane) :
    newerIn (x ++ y) l = newerIn x l + newerIn y l := List.countP_append

theorem inLane_cons (e : Quote) (x : List (Nat × Lane × Bool)) (l : Lane) :
    inLane (e.standing :: x) l = inLane x l + if e.lane = l then 1 else 0 := by
  simp [inLane, List.countP_cons, Quote.standing]

theorem newerIn_cons (e : Quote) (x : List (Nat × Lane × Bool)) (l : Lane) :
    newerIn (e.standing :: x) l = newerIn x l + if e.lane = l ∧ e.newer = true then 1 else 0 := by
  simp [newerIn, List.countP_cons, Quote.standing]

theorem inLane_aged (x : List Quote) (l k : Lane) :
    inLane ((x.map (·.aged l)).map Quote.standing) k = inLane (x.map Quote.standing) k := by
  induction x with
  | nil => rfl
  | cons e x ih => simp only [List.map_cons, inLane_cons, ih, Quote.aged_lane]

/-- No aged quote of the lane is NEWER, and the other lanes' are as they were. -/
theorem newerIn_aged (x : List Quote) (l k : Lane) :
    newerIn ((x.map (·.aged l)).map Quote.standing) k = if k = l then 0 else newerIn (x.map Quote.standing) k := by
  induction x with
  | nil => simp [newerIn]
  | cons e x ih =>
    simp only [List.map_cons, newerIn_cons, ih, Quote.aged_lane]
    by_cases hk : k = l
    · subst hk
      by_cases he : e.lane = k <;> simp [he, Quote.aged]
    · by_cases he : e.lane = l
      · have : e.lane ≠ k := fun c => hk (c.symm.trans he)
        simp [hk, this]
      · simp [hk, he, Quote.aged]

/-- A new quote keeps the table's law (R51). -/
theorem Dpl.addQuote_quotesLegal {d : Dpl} (h : d.quotesLegal = true) (l : Lane) (amount : Nat)
    (parts : List QuotePart) : (d.addQuote l amount parts).quotesLegal = true := by
  obtain ⟨pre, out, post, hold, hnew, hnext, hout⟩ := d.addQuote_liveQuotes h l amount parts
  obtain ⟨htags, hfree, hlanes⟩ := d.quotesLegal_iff.mp h
  have hs : d.standing = pre.map Quote.standing ++ out.map Quote.standing ++ post.map Quote.standing := by
    rw [Dpl.standing, hold, List.map_append, List.map_append]
  have hs' : (d.addQuote l amount parts).standing = (pre.map (·.aged l)).map Quote.standing
      ++ (⟨d.nextTag, l, amount, parts, true, true⟩ : Quote).standing :: (post.map (·.aged l)).map Quote.standing := by
    rw [Dpl.standing, hnew, List.map_append, List.map_cons]
  refine (Dpl.quotesLegal_iff _).mpr ⟨?_, hnext, fun k => ?_⟩
  · rw [Dpl.standing_tags, hold] at htags hfree
    rw [Dpl.standing_tags, hnew]
    simp only [List.map_append, List.map_map, List.map_cons, Function.comp_def, Quote.aged_tag, List.mem_append,
      not_or] at htags hfree ⊢
    obtain ⟨⟨hpre, -⟩, hpost⟩ := hfree
    have hkept : (pre.map (·.tag) ++ post.map (·.tag)).Nodup :=
      htags.sublist (List.Sublist.append_right (List.sublist_append_left _ _) _)
    refine List.nodup_middle.mpr (List.nodup_cons.mpr ⟨?_, hkept⟩)
    exact fun hmem => (List.mem_append.mp hmem).elim hpre hpost
  · have hk := hlanes k
    simp only [hs, inLane_append, newerIn_append] at hk hout
    simp only [hs', inLane_append, newerIn_append, inLane_cons, newerIn_cons, inLane_aged, newerIn_aged]
    have hnil (j : Lane) : inLane (List.map Quote.standing []) j = 0 ∧ newerIn (List.map Quote.standing []) j = 0 :=
      ⟨rfl, rfl⟩
    rcases hout with ⟨rfl, hl⟩ | ⟨e, rfl, hel, hl⟩ <;> rcases eq_or_ne k l with rfl | hne
    · simp only [hnil] at hl
      simp only [eq_self, if_true, and_self, or_true, and_true]
      omega
    · simp only [hnil] at hk
      simp only [if_neg hne, Ne.symm hne, false_and, if_false]
      omega
    · simp only [List.map_cons, inLane_cons, hnil, hel, if_true] at hl
      simp only [eq_self, if_true, and_self, or_true, and_true]
      omega
    · simp only [List.map_cons, inLane_cons, newerIn_cons, hnil, hel, Ne.symm hne, false_and, if_false] at hk
      simp only [if_neg hne, Ne.symm hne, false_and, if_false]
      omega

/-! ## A freed quote -/

/-- What a lane's quotes are once its other quote is freed. -/
def Quote.renewed (l : Lane) (e : Quote) : Quote := if e.lane = l then { e with newer := true } else e

@[simp] theorem Quote.renewed_tag (l : Lane) (e : Quote) : (e.renewed l).tag = e.tag := by
  unfold Quote.renewed; split <;> rfl

@[simp] theorem Quote.renewed_lane (l : Lane) (e : Quote) : (e.renewed l).lane = e.lane := by
  unfold Quote.renewed; split <;> rfl

@[simp] theorem Quote.renewed_parts (l : Lane) (e : Quote) : (e.renewed l).parts = e.parts := by
  unfold Quote.renewed; split <;> rfl

@[simp] theorem Quote.renewed_valid (l : Lane) (e : Quote) : (e.renewed l).valid = e.valid := by
  unfold Quote.renewed; split <;> rfl

theorem Dpl.freeQuote_liveQuotes (d : Dpl) (l : Lane) (tag : Nat) :
    (d.freeQuote l tag).liveQuotes = (d.liveQuotes.filter fun e => e.tag ≠ tag).map (·.renewed l) := by
  rw [Dpl.liveQuotes, Dpl.liveQuotes, Dpl.freeQuote, Vector.toList_map, List.filterMap_map, ← List.filterMap_eq_filter,
    List.map_filterMap, List.filterMap_filterMap]
  refine List.filterMap_congr fun q _ => ?_
  cases q with
  | none => rfl
  | some e =>
    by_cases he : e.tag = tag <;> simp [he, Quote.renewed, Option.guard]

theorem inLane_renewed (x : List Quote) (l k : Lane) :
    inLane ((x.map (·.renewed l)).map Quote.standing) k = inLane (x.map Quote.standing) k := by
  induction x with
  | nil => rfl
  | cons e x ih => simp only [List.map_cons, inLane_cons, ih, Quote.renewed_lane]

theorem newerIn_renewed {l k : Lane} (hk : k ≠ l) (x : List Quote) :
    newerIn ((x.map (·.renewed l)).map Quote.standing) k = newerIn (x.map Quote.standing) k := by
  induction x with
  | nil => rfl
  | cons e x ih =>
    simp only [List.map_cons, newerIn_cons, ih, Quote.renewed_lane]
    by_cases he : e.lane = l
    · have : e.lane ≠ k := fun c => hk (c.symm.trans he)
      simp [this]
    · simp [he, Quote.renewed]

/-- Freeing a quote of a lane keeps the table's law (R53). -/
theorem Dpl.freeQuote_quotesLegal {d : Dpl} (h : d.quotesLegal = true) {l : Lane} {tag : Nat}
    (hq : ∃ q ∈ d.liveQuotes, q.tag = tag ∧ q.lane = l) : (d.freeQuote l tag).quotesLegal = true := by
  obtain ⟨htags, hfree, hlanes⟩ := d.quotesLegal_iff.mp h
  obtain ⟨q, hmem, rfl, rfl⟩ := hq
  obtain ⟨pre, post, hold⟩ := List.append_of_mem hmem
  rw [Dpl.standing_tags, hold] at htags hfree
  simp only [List.map_append, List.map_cons, List.mem_append, List.mem_cons, not_or] at htags hfree
  obtain ⟨hq', hkept⟩ := List.nodup_cons.mp (List.nodup_middle.mp htags)
  have hother : ∀ e, e ∈ pre ∨ e ∈ post → e.tag ≠ q.tag := by
    rintro e (he | he) c <;> refine hq' (List.mem_append.mpr ?_)
    · exact .inl (List.mem_map.mpr ⟨e, he, c⟩)
    · exact .inr (List.mem_map.mpr ⟨e, he, c⟩)
  have hnew : (d.freeQuote q.lane q.tag).liveQuotes = (pre ++ post).map (·.renewed q.lane) := by
    rw [Dpl.freeQuote_liveQuotes, hold, List.filter_append, List.filter_cons_of_neg (by simp),
      List.filter_eq_self.mpr fun e he => by simpa using hother e (.inl he),
      List.filter_eq_self.mpr fun e he => by simpa using hother e (.inr he)]
  refine (Dpl.quotesLegal_iff _).mpr ⟨?_, ?_, fun k => ?_⟩
  · simpa [Dpl.standing_tags, hnew, Function.comp_def] using hkept
  · rw [Dpl.standing_tags, hnew]
    simp only [List.map_map, Function.comp_def, Quote.renewed_tag, List.map_append, List.mem_append, not_or]
    exact ⟨hfree.1, hfree.2.2⟩
  · have hk := hlanes k
    simp only [Dpl.standing, hold, List.map_append, List.map_cons, inLane_append, newerIn_append, inLane_cons,
      newerIn_cons] at hk
    rw [Dpl.standing, hnew, inLane_renewed, List.map_append, inLane_append]
    rcases eq_or_ne k q.lane with rfl | hne
    · simp only [if_true] at hk
      omega
    · rw [newerIn_renewed hne, List.map_append, newerIn_append]
      simp only [Ne.symm hne, false_and, if_false] at hk
      omega

end Sys2Proof.Machine
end

section
/-! PROOF. What a plan stands on (R52, R56, R62): which changes of the custody table leave every plan honoured, and
what the changes of a stock, of the queue and of the quote table keep of the law. The law is stated with two
exceptions that stand only inside one change: stocks that are being doubted, whose QUEUED bundles are being cancelled,
and bundles being committed that have yet to join the queue. -/

open Sys2Proof Sys2Proof.Machine

namespace Sys2Proof.Machine

/-! ## Stocks and bundles among the records -/

/-- The stock that a record is. -/
def Record.stock? : Record → Option Stock
  | .stock st => some st
  | _ => none

/-- The bundle that a record is. -/
def Record.bundle? : Record → Option Bundle
  | .bundle b => some b
  | _ => none

theorem Ct.stock?_eq (ct : Ct) (h : Handle) : ct.stock? h = (ct.find h).bind Record.stock? := by
  unfold Ct.stock?
  cases ct.find h with
  | none => rfl
  | some r => cases r <;> rfl

theorem Ct.bundle?_eq (ct : Ct) (h : Handle) : ct.bundle? h = (ct.find h).bind Record.bundle? := by
  unfold Ct.bundle?
  cases ct.find h with
  | none => rfl
  | some r => cases r <;> rfl

/-- A handle that names a stock names no bundle. -/
theorem Ct.bundle?_of_stock? {ct : Ct} {h : Handle} {st : Stock} (hs : ct.stock? h = some st) : ct.bundle? h = none := by
  rw [Ct.bundle?_eq, Ct.stock?_eq_some.mp hs]
  rfl

theorem Ct.generationsLegal_iff (ct : Ct) : ct.generationsLegal = true ↔ ∀ sl ∈ ct.slots.toList, sl.gen ≠ 0 := by
  rw [Ct.generationsLegal, List.all_eq_true]
  exact forall₂_congr fun _ _ => bne_iff_ne

theorem Ct.generationsLegal_set {ct : Ct} (hg : ct.generationsLegal = true) (i : Nat) {sl : Slot} (h : sl.gen ≠ 0) :
    ({ ct with slots := ct.slots.setIfInBounds i sl } : Ct).generationsLegal = true := by
  rw [Ct.generationsLegal_iff] at hg ⊢
  intro x hx
  rw [Vector.toList_setIfInBounds] at hx
  rcases List.mem_or_eq_of_mem_set hx with hx | rfl
  · exact hg x hx
  · exact h

theorem nextGen_ne_zero (g : Byte) : nextGen g ≠ 0 := by
  unfold nextGen
  split
  · decide
  · bv_omega

theorem Ct.generationsLegal_retire {ct : Ct} (hg : ct.generationsLegal = true) (h : Handle) :
    (ct.retire h).generationsLegal = true := by
  unfold Ct.retire
  split
  · exact hg
  · exact Ct.generationsLegal_set hg _ (nextGen_ne_zero _)

theorem Ct.generationsLegal_create {ct : Ct} (hg : ct.generationsLegal = true) (r : Record) :
    (ct.create r).1.generationsLegal = true := by
  unfold Ct.create
  split
  · exact hg
  · split
    · exact hg
    · next sl hsl =>
      rw [← Vector.getElem?_toList] at hsl
      exact Ct.generationsLegal_set hg _ ((Ct.generationsLegal_iff _).mp hg sl (List.mem_of_getElem? hsl))

/-! ## Changes that spare the plans -/

/-- A change of the custody table that leaves every stock honouring what it honoured, and adds no QUEUED bundle and
no stock to a QUEUED bundle's plan but one that a plan may name. -/
def Ct.Spares (c c' : Ct) : Prop :=
  c.generationsLegal = true →
    c'.generationsLegal = true
      ∧ (∀ h n, c.honours h n → c'.honours h n)
      ∧ ∀ h b, c'.bundle? h = some b → b.state = .queued →
          ∃ b₀, c.bundle? h = some b₀ ∧ b₀.state = .queued
            ∧ ∀ p ∈ b.parts, c'.honours p.stock 0 ∨ ∃ q ∈ b₀.parts, q.stock = p.stock

theorem Ct.Spares.refl (c : Ct) : c.Spares c := fun hg =>
  ⟨hg, fun _ _ h => h, fun _ b hb hq => ⟨b, hb, hq, fun p hp => .inr ⟨p, hp, rfl⟩⟩⟩

theorem Ct.Spares.trans {c c' c'' : Ct} (h : c.Spares c') (h' : c'.Spares c'') : c.Spares c'' := by
  intro hg
  obtain ⟨hg', hon, hbun⟩ := h hg
  obtain ⟨hg'', hon', hbun'⟩ := h' hg'
  refine ⟨hg'', fun k n hk => hon' k n (hon k n hk), fun k b hb hq => ?_⟩
  obtain ⟨b₁, hb₁, hq₁, hp₁⟩ := hbun' k b hb hq
  obtain ⟨b₀, hb₀, hq₀, hp₀⟩ := hbun k b₁ hb₁ hq₁
  refine ⟨b₀, hb₀, hq₀, fun p hp => ?_⟩
  rcases hp₁ p hp with hp | ⟨q, hq, hqp⟩
  · exact .inl hp
  · exact hqp ▸ (hp₀ q hq).imp_left (hon' _ _)

/-- A change that keeps the generations legal, every live stock's count and quality, and makes no bundle QUEUED. -/
theorem Ct.spares_of_lookups {c c' : Ct} (hg : c.generationsLegal = true → c'.generationsLegal = true)
    (hs : c.generationsLegal = true → ∀ h st, c.stock? h = some st → ∃ st', c'.stock? h = some st'
      ∧ st'.quality = st.quality ∧ st.available ≤ st'.available)
    (hb : c.generationsLegal = true → ∀ h b, c'.bundle? h = some b → b.state = .queued → c.bundle? h = some b) :
    c.Spares c' := by
  intro hc
  refine ⟨hg hc, ?_, fun h b hb' hq => ⟨b, hb hc h b hb' hq, hq, fun p hp => .inr ⟨p, hp, rfl⟩⟩⟩
  rintro h n ⟨st, hst, hd, hn⟩
  obtain ⟨st', hst', hq, ha⟩ := hs hc h st hst
  exact ⟨st', hst', hq ▸ hd, hn.trans ha⟩

/-- Only the hold sets and the last outcomes change (R18, R25). -/
theorem Ct.spares_of_slots {c c' : Ct} (h : c'.slots = c.slots) : c.Spares c' := by
  have hf (k : Handle) : c'.find k = c.find k := by simp only [Ct.find, h]
  refine Ct.spares_of_lookups (fun hg => ?_) (fun _ k st hst => ⟨st, ?_, rfl, le_rfl⟩) fun _ k b hb _ => ?_
  · rwa [Ct.generationsLegal, h]
  · rwa [Ct.stock?_eq, hf, ← Ct.stock?_eq]
  · rwa [Ct.bundle?_eq, ← hf, ← Ct.bundle?_eq]

theorem Ct.stock?_write {c : Ct} {h : Handle} {x : Record} (hx : c.find h = some x) (r : Record) (k : Handle) :
    (c.write h r).stock? k = if k = h then r.stock? else c.stock? k := by
  rw [Ct.stock?_eq, Ct.find_write c hx, Ct.stock?_eq]
  split <;> rfl

theorem Ct.bundle?_write {c : Ct} {h : Handle} {x : Record} (hx : c.find h = some x) (r : Record) (k : Handle) :
    (c.write h r).bundle? k = if k = h then r.bundle? else c.bundle? k := by
  rw [Ct.bundle?_eq, Ct.find_write c hx, Ct.bundle?_eq]
  split <;> rfl

theorem Ct.stock?_retire {c : Ct} {h : Handle} {x : Record} (hx : c.find h = some x) (k : Handle) :
    (c.retire h).stock? k = if k = h then none else c.stock? k := by
  rw [Ct.stock?_eq, Ct.find_retire c hx, Ct.stock?_eq]
  split <;> rfl

theorem Ct.bundle?_retire {c : Ct} {h : Handle} {x : Record} (hx : c.find h = some x) (k : Handle) :
    (c.retire h).bundle? k = if k = h then none else c.bundle? k := by
  rw [Ct.bundle?_eq, Ct.find_retire c hx, Ct.bundle?_eq]
  split <;> rfl

/-- A record that is neither a stock nor a bundle is written anew as one that is neither. -/
theorem Ct.spares_write {c : Ct} {h : Handle} {x r : Record} (hx : c.find h = some x) (hxs : x.stock? = none)
    (hrb : r.bundle? = none) : c.Spares (c.write h r) := by
  refine Ct.spares_of_lookups (fun hg => Ct.generationsLegal_write hg h r) (fun _ k st hst => ⟨st, ?_, rfl, le_rfl⟩)
    fun _ k b hb _ => ?_
  · have hkh : k ≠ h := by
      rintro rfl
      rw [Ct.stock?_eq, hx, Option.bind_some, hxs] at hst
      cases hst
    rwa [Ct.stock?_write hx, if_neg hkh]
  · rw [Ct.bundle?_write hx] at hb
    split at hb
    · rw [hrb] at hb
      cases hb
    · exact hb

/-- A bundle's record is written anew, QUEUED only if it was, its plan naming what it named or what a plan may
name. -/
theorem Ct.spares_write_bundle {c : Ct} {h : Handle} {b b' : Bundle} (hb : c.bundle? h = some b)
    (hq : b'.state = .queued → b.state = .queued)
    (hp : c.generationsLegal = true → ∀ p ∈ b'.parts, c.honours p.stock 0 ∨ ∃ q ∈ b.parts, q.stock = p.stock) :
    c.Spares (c.write h (.bundle b')) := by
  have hx := Ct.bundle?_eq_some.mp hb
  have hon : ∀ k n, c.honours k n → (c.write h (.bundle b')).honours k n := by
    rintro k n ⟨st, hst, hd, hn⟩
    exact ⟨st, by rwa [Ct.stock?_write hx, if_neg (Ct.bundle_ne_stock hst hb).symm], hd, hn⟩
  refine fun hg => ⟨Ct.generationsLegal_write hg _ _, hon, fun k b₁ hb₁ hq₁ => ?_⟩
  rw [Ct.bundle?_write hx] at hb₁
  split at hb₁
  · next hkh =>
    subst hkh
    cases hb₁
    exact ⟨b, hb, hq hq₁, fun p hp' => (hp hg p hp').imp_left (hon _ _)⟩
  · exact ⟨b₁, hb₁, hq₁, fun p hp' => .inr ⟨p, hp', rfl⟩⟩

/-- A record other than a stock is retired. -/
theorem Ct.spares_retire {c : Ct} {h : Handle} (hs : c.stock? h = none) : c.Spares (c.retire h) := by
  cases hx : c.find h with
  | none =>
    rw [Ct.retire_of_none c hx]
    exact .refl c
  | some x =>
    refine Ct.spares_of_lookups (fun hg => Ct.generationsLegal_retire hg h) (fun _ k st hst => ⟨st, ?_, rfl, le_rfl⟩)
      fun _ k b hb _ => ?_
    · have hkh : k ≠ h := by
        rintro rfl
        rw [hs] at hst
        cases hst
      rwa [Ct.stock?_retire hx, if_neg hkh]
    · rw [Ct.bundle?_retire hx] at hb
      split at hb
      · cases hb
      · exact hb

/-- What the handles name after a creation: the new handle, which named nothing, the new record (R2, R4). -/
theorem Ct.find_create_cases {c : Ct} (hg : c.generationsLegal = true) (r : Record) :
    (c.create r).1 = c ∨ c.find (c.create r).2 = none
      ∧ ∀ k, (c.create r).1.find k = if k = (c.create r).2 then some r else c.find k := by
  cases hf : c.freeSlot with
  | none => exact .inl (by rw [Ct.create_of_full c hf])
  | some i =>
    obtain ⟨sl, hsl, hnone, -⟩ := (c.freeSlot_eq_some i).1 hf
    have hmem : sl ∈ c.slots.toList := by
      rw [← Vector.getElem?_toList] at hsl
      exact List.mem_of_getElem? hsl
    have h0 := (Ct.generationsLegal_iff c).mp hg sl hmem
    have hcr := Ct.find_create c hf r hsl h0
    have hi : i < 256 := (Vector.getElem?_eq_some_iff.mp hsl).1
    rw [(hcr 0).1]
    refine .inr ⟨?_, fun k => (hcr k).2⟩
    cases hx : c.find (handleOf sl.gen i) with
    | none => rfl
    | some x =>
      obtain ⟨sl', hsl', -, -, hr⟩ := (c.find_eq_some _ x).1 hx
      rw [handleSlot_handleOf _ hi, hsl] at hsl'
      cases hsl'
      rw [hnone] at hr
      cases hr

theorem Ct.honours_create {c : Ct} (hg : c.generationsLegal = true) (r : Record) {h : Handle} {n : Nat}
    (hh : c.honours h n) : (c.create r).1.honours h n := by
  obtain ⟨st, hst, hd, hn⟩ := hh
  refine ⟨st, ?_, hd, hn⟩
  rcases Ct.find_create_cases hg r with he | ⟨hnone, hf⟩
  · rwa [he]
  · have hne : h ≠ (c.create r).2 := by
      intro he
      rw [Ct.stock?_eq, he, hnone] at hst
      cases hst
    rwa [Ct.stock?_eq, hf, if_neg hne, ← Ct.stock?_eq]

/-- A record other than a QUEUED bundle is created. -/
theorem Ct.spares_create (c : Ct) {r : Record} (hr : r.bundle? = none) : c.Spares (c.create r).1 := by
  refine fun hg => ⟨Ct.generationsLegal_create hg r, fun h n => Ct.honours_create hg r, fun h b hb hq =>
    ⟨b, ?_, hq, fun p hp => .inr ⟨p, hp, rfl⟩⟩⟩
  rcases Ct.find_create_cases hg r with he | ⟨-, hf⟩
  · rwa [← he]
  · rw [Ct.bundle?_eq, hf] at hb
    split at hb
    · rw [Option.bind_some, hr] at hb
      cases hb
    · rwa [Ct.bundle?_eq]

theorem Ct.find_mapRecords (c : Ct) (f : Record → Record) (h : Handle) :
    (c.mapRecords f).find h = (c.find h).map f := by
  simp only [Ct.find, Ct.mapRecords, Vector.getElem?_map]
  cases c.slots[handleSlot h]? with
  | none => rfl
  | some sl =>
    simp only [Option.map_some]
    split <;> rfl

/-- Every record changes, stocks at most in what no plan reads and bundles not at all. -/
theorem Ct.spares_mapRecords (c : Ct) {f : Record → Record}
    (hs : ∀ st, ∃ st', f (.stock st) = .stock st' ∧ st'.quality = st.quality ∧ st'.available = st.available)
    (hb : ∀ r, (f r).bundle? = r.bundle?) : c.Spares (c.mapRecords f) := by
  refine Ct.spares_of_lookups (fun hg => ?_) (fun _ h st hst => ?_) fun _ h b hb' _ => ?_
  · rw [Ct.generationsLegal_iff] at hg ⊢
    intro sl hsl
    simp only [Ct.mapRecords, Vector.toList_map, List.mem_map] at hsl
    obtain ⟨sl, hmem, rfl⟩ := hsl
    exact hg sl hmem
  · obtain ⟨st', hf, hq, ha⟩ := hs st
    refine ⟨st', ?_, hq, ha.ge⟩
    rw [Ct.stock?_eq, Ct.find_mapRecords, Ct.stock?_eq_some.mp hst, Option.map_some, hf]
    rfl
  · rw [Ct.bundle?_eq, Ct.find_mapRecords] at hb'
    rw [Ct.bundle?_eq]
    cases hx : c.find h with
    | none => simp [hx] at hb'
    | some r => simpa [hx, hb] using hb'

/-! ## The law of plans -/

/-- The law of plans but for some stocks that are being doubted and some bundles that have yet to join the queue. -/
structure PlansHold (doubted joining : Handle → Prop) (ct : Ct) (d : Dpl) : Prop where
  gens : ct.generationsLegal = true
  quotes : ∀ q ∈ d.liveQuotes, q.valid = true → ∀ p ∈ q.parts, ct.honours p.stock p.count
  queued : ∀ h b, ct.bundle? h = some b → b.state = .queued → h ∈ d.queue ∨ joining h
  parts : ∀ h b, ct.bundle? h = some b → b.state = .queued → ∀ p ∈ b.parts, ct.honours p.stock 0 ∨ doubted p.stock

/-- No exception. -/
def never (_ : Handle) : Prop := False

theorem State.plansHonourable_iff (s : State) : s.plansHonourable ↔ PlansHold never never s.ct s.dpl := by
  constructor
  · rintro ⟨hg, hq, hb⟩
    exact ⟨hg, hq, fun h b hb' hs => .inl (hb h b hb' hs).1, fun h b hb' hs p hp => .inl ((hb h b hb' hs).2 p hp)⟩
  · rintro ⟨hg, hq, hqueue, hp⟩
    exact ⟨hg, hq, fun h b hb hs => ⟨(hqueue h b hb hs).resolve_right id,
      fun p hp' => (hp h b hb hs p hp').resolve_right id⟩⟩

variable {doubted joining : Handle → Prop} {c c' : Ct} {d d' : Dpl}

/-- The law outlasts a change that spares the plans, makes no quote VALID but one of which the stocks honour each part,
and takes no QUEUED bundle out of the queue. -/
theorem PlansHold.change (h : PlansHold doubted joining c d) (hs : c.Spares c')
    (hq : ∀ q ∈ d'.liveQuotes, q.valid = true →
      (∃ q₀ ∈ d.liveQuotes, q₀.valid = true ∧ q₀.parts = q.parts) ∨ ∀ p ∈ q.parts, c.honours p.stock p.count)
    (hqueue : ∀ k ∈ d.queue, k ∈ d'.queue ∨ ∀ b, c'.bundle? k = some b → b.state ≠ .queued) :
    PlansHold doubted joining c' d' := by
  obtain ⟨hg, hon, hbun⟩ := hs h.gens
  refine ⟨hg, fun q hmem hv p hp => hon _ _ ?_, fun k b hb hst => ?_, fun k b hb hst p hp => ?_⟩
  · rcases hq q hmem hv with ⟨q₀, hmem₀, hv₀, hparts⟩ | hnew
    · exact h.quotes q₀ hmem₀ hv₀ p (hparts ▸ hp)
    · exact hnew p hp
  · obtain ⟨b₀, hb₀, hst₀, -⟩ := hbun k b hb hst
    refine (h.queued k b₀ hb₀ hst₀).imp_left fun hk => (hqueue k hk).resolve_right fun hno => hno b hb hst
  · obtain ⟨b₀, hb₀, hst₀, hparts⟩ := hbun k b hb hst
    rcases hparts p hp with hh | ⟨q, hq, hqp⟩
    · exact .inl hh
    · exact hqp ▸ (h.parts k b₀ hb₀ hst₀ q hq).imp_left (hon _ _)

theorem PlansHold.spares (h : PlansHold doubted joining c d) (hs : c.Spares c') : PlansHold doubted joining c' d :=
  h.change hs (fun q hq hv => .inl ⟨q, hq, hv, rfl⟩) fun _ hk => .inl hk

/-- Quotes became INVALID and nothing else of the planner changed. -/
structure Dpl.Lapsed (d d' : Dpl) : Prop where
  alike : d.Alike d'
  quotes : ∀ q ∈ d'.liveQuotes, q.valid = true → q ∈ d.liveQuotes
  queue : d'.queue = d.queue

theorem Dpl.Lapsed.refl (d : Dpl) : d.Lapsed d := ⟨.refl d, fun _ hq _ => hq, rfl⟩

theorem Dpl.Lapsed.trans {d d' d'' : Dpl} (h : d.Lapsed d') (h' : d'.Lapsed d'') : d.Lapsed d'' :=
  ⟨h.alike.trans h'.alike, fun q hq hv => h.quotes q (h'.quotes q hq hv) hv, h'.queue.trans h.queue⟩

theorem Dpl.lapse_lapsed (d : Dpl) (p : Quote → Bool) : d.Lapsed (d.lapse p) :=
  ⟨d.lapse_alike p, fun _ hq hv => (Dpl.mem_lapse_of_valid hq hv).1, rfl⟩

theorem PlansHold.lapsed (h : PlansHold doubted joining c d) (hd : d.Lapsed d') : PlansHold doubted joining c d' :=
  h.change (.refl c) (fun q hq hv => .inl ⟨q, hd.quotes q hq hv, hv, rfl⟩) fun _ hk => .inl (hd.queue ▸ hk)

/-- An exception goes where nothing needs it. -/
theorem PlansHold.settle {doubted' joining' : Handle → Prop} (h : PlansHold doubted joining c d)
    (hj : ∀ k b, c.bundle? k = some b → b.state = .queued → joining k → k ∈ d.queue ∨ joining' k)
    (hd : ∀ k b, c.bundle? k = some b → b.state = .queued → ∀ p ∈ b.parts, doubted p.stock →
      c.honours p.stock 0 ∨ doubted' p.stock) : PlansHold doubted' joining' c d :=
  ⟨h.gens, h.quotes, fun k b hb hs => (h.queued k b hb hs).elim .inl (hj k b hb hs),
    fun k b hb hs p hp => (h.parts k b hb hs p hp).elim .inl (hd k b hb hs p hp)⟩

/-! ## A stock's change -/

variable {s : State}

/-- A stock's change tells the planner of what it alters alone (R9, R52). -/
theorem State.putStock_dpl {h : Handle} {old : Stock} (hs : s.ct.stock? h = some old) (new : Stock) :
    (s.putStock h new).dpl = if old.reportedChange (Stock.evalLow old new s.set.lowMark)
      then (s.invalidateQuotes h).dpl else s.dpl := by
  simp only [State.putStock, hs]
  (repeat' split) <;> simp_all [State.invalidateQuotes]

theorem State.putStock_of_none {h : Handle} (hs : s.ct.stock? h = none) (new : Stock) : s.putStock h new = s := by
  simp only [State.putStock, hs]

theorem State.putStock_lapsed (s : State) (h : Handle) (new : Stock) : s.dpl.Lapsed (s.putStock h new).dpl := by
  cases hs : s.ct.stock? h with
  | none => rw [State.putStock_of_none hs]; exact .refl _
  | some old =>
    rw [State.putStock_dpl hs]
    split
    · exact Dpl.lapse_lapsed _ _
    · exact .refl _

theorem State.putStock_stock? {h : Handle} {old : Stock} (hs : s.ct.stock? h = some old) (new : Stock) (k : Handle) :
    (s.putStock h new).ct.stock? k = if k = h then some (Stock.evalLow old new s.set.lowMark) else s.ct.stock? k := by
  rw [State.putStock_ct hs, Ct.stock?_write (Ct.stock?_eq_some.mp hs)]
  rfl

/-- A stock's change leaves every bundle as it was. -/
theorem State.putStock_bundle? (s : State) (h : Handle) (new : Stock) (k : Handle) :
    (s.putStock h new).ct.bundle? k = s.ct.bundle? k := by
  cases hs : s.ct.stock? h with
  | none => rw [State.putStock_of_none hs]
  | some old =>
    rw [State.putStock_ct hs, Ct.bundle?_write (Ct.stock?_eq_some.mp hs)]
    split
    · next hk => rw [hk, Ct.bundle?_of_stock? hs]; rfl
    · rfl

theorem Stock.evalLow_available (old new : Stock) (mark : Nat) : (Stock.evalLow old new mark).available = new.available := by
  unfold Stock.evalLow
  split <;> rfl

theorem Stock.evalLow_remaining (old new : Stock) (mark : Nat) : (Stock.evalLow old new mark).remaining = new.remaining := by
  unfold Stock.evalLow
  split <;> rfl

/-- An unreported change is one of what no plan reads. -/
theorem Stock.of_not_reportedChange {old new : Stock} (h : ¬ old.reportedChange new = true) :
    new.quality = old.quality ∧ new.available = old.available := by
  simp only [Stock.reportedChange, Bool.or_eq_true, bne_iff_ne, ne_eq, not_or, not_not] at h
  obtain ⟨⟨hrem, hres⟩, hq⟩ := h
  exact ⟨hq.symm, by rw [Stock.available, Stock.available, hrem, hres]⟩

/-- A stock's change keeps the law of plans, the stock doubted by it excepted (R52). -/
theorem State.putStock_plansHold {h : Handle} {old new : Stock} (hp : PlansHold doubted joining s.ct s.dpl)
    (hs : s.ct.stock? h = some old)
    (hq : new.quality.isDoubtful = true → old.quality.isDoubtful = true ∨ doubted h) :
    PlansHold doubted joining (s.putStock h new).ct (s.putStock h new).dpl := by
  have hlapsed := s.putStock_lapsed h new
  have hst := State.putStock_stock? hs new
  have hother {k : Handle} {n : Nat} (hk : k ≠ h) (hh : s.ct.honours k n) : (s.putStock h new).ct.honours k n := by
    obtain ⟨st, hst', hrest⟩ := hh
    exact ⟨st, by rw [hst, if_neg hk, hst'], hrest⟩
  refine ⟨?_, fun q hmem hv p hpq => ?_, fun k b hb hqd => ?_, fun k b hb hqd p hpb => ?_⟩
  · rw [State.putStock_ct hs]
    exact Ct.generationsLegal_write hp.gens _ _
  · have hold := hp.quotes q (hlapsed.quotes q hmem hv) hv p hpq
    by_cases hr : old.reportedChange (Stock.evalLow old new s.set.lowMark) = true
    · rw [State.putStock_dpl hs, if_pos hr] at hmem
      exact hother (s.invalidateQuotes_spares h q hmem hv p hpq) hold
    · by_cases hk : p.stock = h
      · obtain ⟨st, hst', hd, hn⟩ := hold
        rw [hk, hs] at hst'
        cases hst'
        obtain ⟨hqual, havail⟩ := Stock.of_not_reportedChange hr
        exact ⟨_, by rw [hst, if_pos hk], by rw [hqual, hd], by rw [havail]; exact hn⟩
      · exact hother hk hold
  · rw [State.putStock_bundle?] at hb
    rw [hlapsed.queue]
    exact hp.queued k b hb hqd
  · rw [State.putStock_bundle?] at hb
    by_cases hk : p.stock = h
    · rcases hp.parts k b hb hqd p hpb with ⟨st, hst', hd, -⟩ | hdoubt
      · rw [hk, hs] at hst'
        cases hst'
        cases hn : new.quality.isDoubtful with
        | true => exact .inr (hk ▸ (hq hn).resolve_left (by simp [hd]))
        | false =>
          exact .inl ⟨_, by rw [hst, if_pos hk], by rw [Stock.evalLow_quality, hn], Nat.zero_le _⟩
      · exact .inr hdoubt
    · exact (hp.parts k b hb hqd p hpb).imp_left (hother hk)

/-- What a tally keeps, a change of stocks that doubts none: the planner but for quotes that become INVALID, every
bundle, and the law of plans. -/
structure State.Tallied (s t : State) : Prop where
  lapsed : s.dpl.Lapsed t.dpl
  bundle? : ∀ k, t.ct.bundle? k = s.ct.bundle? k
  plansHold : ∀ {doubted joining}, PlansHold doubted joining s.ct s.dpl → PlansHold doubted joining t.ct t.dpl

theorem State.Tallied.refl (s : State) : s.Tallied s := ⟨.refl _, fun _ => rfl, id⟩

theorem State.Tallied.trans {s t u : State} (h : s.Tallied t) (h' : t.Tallied u) : s.Tallied u :=
  ⟨h.lapsed.trans h'.lapsed, fun k => (h'.bundle? k).trans (h.bundle? k), fun hp => h'.plansHold (h.plansHold hp)⟩

/-- A change of a stock that makes none DOUBTFUL. -/
def Undoubting (f : Stock → Stock) : Prop := ∀ st, (f st).quality.isDoubtful = true → st.quality.isDoubtful = true

theorem State.tallyStock_tallied (s : State) (h : Handle) {f : Stock → Stock} (hf : Undoubting f) :
    s.Tallied (s.tallyStock h f) := by
  unfold State.tallyStock
  split
  · exact .refl s
  · next old hs =>
    exact ⟨s.putStock_lapsed h _, s.putStock_bundle? h _,
      fun hp => State.putStock_plansHold hp hs fun hd => .inl (hf old hd)⟩

theorem foldl_tallied {α : Type} (l : List α) {f : State → α → State} (hf : ∀ (s : State) a, s.Tallied (f s a))
    (s : State) :
    s.Tallied (l.foldl f s) := by
  induction l generalizing s with
  | nil => exact .refl s
  | cons a l ih => exact (hf s a).trans (ih _)

theorem State.releaseParts_tallied (s : State) (parts : List Part) : s.Tallied (s.releaseParts parts) :=
  foldl_tallied parts (fun s p => s.tallyStock_tallied p.stock (f := fun st => st.release (p.target - p.stacked))
    fun _ h => h) s

theorem State.moveStacked_tallied (s : State) (parts : List Part) {move : Stock → Nat → Stock}
    (hm : ∀ n, Undoubting fun st => move st n) : s.Tallied (s.moveStacked parts move) :=
  foldl_tallied parts (fun s p => s.tallyStock_tallied p.stock (hm p.stacked)) s

/-! ## A bundle's end -/

theorem State.retireBundle_of_none {h : Handle} (hb : s.ct.bundle? h = none) (e : Ending) : s.retireBundle h e = s := by
  simp only [State.retireBundle, hb]

theorem State.retireBundle_ct {h : Handle} {b : Bundle} (hb : s.ct.bundle? h = some b) (e : Ending) :
    ∃ last, (s.retireBundle h e).ct = ({ s.ct with last := last } : Ct).retire h := by
  simp only [State.retireBundle, hb, (State.setLaneFlag_frame _ _ _).1, State.onCt_ct]
  exact ⟨_, rfl⟩

theorem State.retireBundle_spares (s : State) (h : Handle) (e : Ending) : s.ct.Spares (s.retireBundle h e).ct := by
  cases hb : s.ct.bundle? h with
  | none => rw [State.retireBundle_of_none hb]; exact .refl _
  | some b =>
    obtain ⟨last, hct⟩ := State.retireBundle_ct hb e
    rw [hct]
    refine (Ct.spares_of_slots rfl).trans (Ct.spares_retire (c := { s.ct with last := last }) ?_)
    show s.ct.stock? h = none
    rw [Ct.stock?_eq, Ct.bundle?_eq_some.mp hb]
    rfl

theorem State.retireBundle_bundle? (s : State) (h : Handle) (e : Ending) (k : Handle) :
    (s.retireBundle h e).ct.bundle? k = if k = h then none else s.ct.bundle? k := by
  cases hb : s.ct.bundle? h with
  | none =>
    rw [State.retireBundle_of_none hb]
    split
    · next hk => rw [hk, hb]
    · rfl
  | some b =>
    obtain ⟨last, hct⟩ := State.retireBundle_ct hb e
    rw [hct]
    exact Ct.bundle?_retire (c := { s.ct with last := last }) (x := .bundle b) (Ct.bundle?_eq_some.mp hb) k

theorem State.cancelQueued_of_none {h : Handle} (hb : s.ct.bundle? h = none) : s.cancelQueued h = s := by
  simp only [State.cancelQueued, hb]

/-- The state in which a cancelled bundle's reservations are released (R61). -/
def State.unreserved (s : State) (h : Handle) (b : Bundle) : State :=
  (s.onDpl fun d => { d with queue := d.queue.filter (· != h) }).releaseParts b.parts

theorem State.cancelQueued_of_some {h : Handle} {b : Bundle} (hb : s.ct.bundle? h = some b) :
    s.cancelQueued h = (s.unreserved h b).retireBundle h .cancelled := by
  simp only [State.cancelQueued, hb, State.unreserved]

/-- A bundle that leaves the queue to be cancelled has its lane's quotes and the other entries as they were (R61). -/
theorem State.cancelQueued_dpl (s : State) (h : Handle) :
    s.dpl.Alike (s.cancelQueued h).dpl
      ∧ (∀ q ∈ (s.cancelQueued h).dpl.liveQuotes, q.valid = true → q ∈ s.dpl.liveQuotes)
      ∧ ((s.cancelQueued h).dpl.queue = s.dpl.queue
        ∨ (s.cancelQueued h).dpl.queue = s.dpl.queue.filter (· != h)) := by
  cases hb : s.ct.bundle? h with
  | none =>
    rw [State.cancelQueued_of_none hb]
    exact ⟨.refl _, fun _ hq _ => hq, .inl rfl⟩
  | some b =>
    rw [State.cancelQueued_of_some hb, (State.retireBundle_frame _ _ _).1]
    have ht := (s.onDpl fun d => { d with queue := d.queue.filter (· != h) }).releaseParts_tallied b.parts
    exact ⟨(Dpl.Alike.of_quotes rfl rfl).trans ht.lapsed.alike, ht.lapsed.quotes, .inr ht.lapsed.queue⟩

theorem State.cancelQueued_bundle? (s : State) (h k : Handle) :
    (s.cancelQueued h).ct.bundle? k = if k = h then none else s.ct.bundle? k := by
  cases hb : s.ct.bundle? h with
  | none =>
    rw [State.cancelQueued_of_none hb]
    split
    · next hk => rw [hk, hb]
    · rfl
  | some b =>
    have ht := (s.onDpl fun d => { d with queue := d.queue.filter (· != h) }).releaseParts_tallied b.parts
    rw [State.cancelQueued_of_some hb, State.retireBundle_bundle?, State.unreserved, ht.bundle?]
    rfl

/-- A cancelled bundle leaves the law of plans standing (R61). -/
theorem State.cancelQueued_plansHold (hp : PlansHold doubted joining s.ct s.dpl) (h : Handle) :
    PlansHold doubted joining (s.cancelQueued h).ct (s.cancelQueued h).dpl := by
  cases hb : s.ct.bundle? h with
  | none => rwa [State.cancelQueued_of_none hb]
  | some b =>
    have hleft : PlansHold doubted (fun k => joining k ∨ k = h) s.ct
        { s.dpl with queue := s.dpl.queue.filter (· != h) } := by
      refine ⟨hp.gens, hp.quotes, fun k b hb hq => ?_, hp.parts⟩
      rcases hp.queued k b hb hq with hk | hk
      · by_cases hkh : k = h
        · exact .inr (.inr hkh)
        · exact .inl (List.mem_filter.mpr ⟨hk, by simpa using hkh⟩)
      · exact .inr (.inl hk)
    have ht := (s.onDpl fun d => { d with queue := d.queue.filter (· != h) }).releaseParts_tallied b.parts
    have hend := (ht.plansHold hleft).spares (State.retireBundle_spares _ h .cancelled)
    rw [State.cancelQueued_of_some hb, (State.retireBundle_frame _ _ _).1]
    refine hend.settle (fun k b' hb' _ hk => ?_) fun _ _ _ _ _ _ hd => .inr hd
    rw [State.retireBundle_bundle?] at hb'
    split at hb'
    · cases hb'
    · next hkh => exact .inr (hk.resolve_right hkh)

/-! ## A stock that becomes DOUBTFUL -/

/-- What a cancellation of the queue's entries that draw on a stock leaves (R62). -/
structure State.Cancelled (s t : State) (h : Handle) (entries : List Handle) : Prop where
  alike : s.dpl.Alike t.dpl
  queue : ∀ k ∈ t.dpl.queue, k ∈ s.dpl.queue
  bundle? : ∀ k b, t.ct.bundle? k = some b → s.ct.bundle? k = some b
  gone : ∀ k ∈ entries, ∀ b, t.ct.bundle? k = some b → b.names h = false
  plansHold : ∀ {doubted joining}, PlansHold doubted joining s.ct s.dpl → PlansHold doubted joining t.ct t.dpl

/-- One entry of the queue, cancelled when its bundle draws on the stock (R62). -/
def State.cancelEntry (h : Handle) (s : State) (k : Handle) : State :=
  match s.ct.bundle? k with
  | some b => if b.names h then s.cancelQueued k else s
  | none => s

theorem State.cancelDrawing_eq (s : State) (h : Handle) : s.cancelDrawing h = s.dpl.queue.foldl (State.cancelEntry h) s :=
  rfl

theorem State.cancelEntry_cancelled (s : State) (h k : Handle) : s.Cancelled (s.cancelEntry h k) h [k] := by
  have hsame (hk : ∀ b, s.ct.bundle? k = some b → b.names h = false) : s.Cancelled s h [k] :=
    ⟨.refl _, fun _ hk => hk, fun _ _ hb => hb, fun j hj b hb => hk b (List.mem_singleton.mp hj ▸ hb), id⟩
  unfold State.cancelEntry
  split
  · next b hb =>
    split
    · refine ⟨(s.cancelQueued_dpl k).1, fun j hj => ?_, fun j b hb => ?_, fun j hj b hb => ?_,
        fun hp => State.cancelQueued_plansHold hp k⟩
      · rcases (s.cancelQueued_dpl k).2.2 with hq | hq <;> rw [hq] at hj
        · exact hj
        · exact List.mem_of_mem_filter hj
      · rw [State.cancelQueued_bundle?] at hb
        split at hb
        · cases hb
        · exact hb
      · rw [State.cancelQueued_bundle?, if_pos (List.mem_singleton.mp hj)] at hb
        cases hb
    · next hn =>
      refine hsame fun b' hb' => ?_
      rw [hb] at hb'
      cases hb'
      exact Bool.eq_false_iff.mpr hn
  · next hb =>
    refine hsame fun b' hb' => ?_
    rw [hb] at hb'
    cases hb'

theorem foldl_cancelEntry_cancelled (h : Handle) (entries : List Handle) (s : State) :
    s.Cancelled (entries.foldl (State.cancelEntry h) s) h entries := by
  induction entries generalizing s with
  | nil => exact ⟨.refl _, fun _ hk => hk, fun _ _ hb => hb, fun _ hk => absurd hk List.not_mem_nil, id⟩
  | cons k entries ih =>
    have h₁ := s.cancelEntry_cancelled h k
    have h₂ := ih (s.cancelEntry h k)
    refine ⟨h₁.alike.trans h₂.alike, fun j hj => h₁.queue j (h₂.queue j hj),
      fun j b hb => h₁.bundle? j b (h₂.bundle? j b hb), fun j hj b hb => ?_, fun hp => h₂.plansHold (h₁.plansHold hp)⟩
    rcases List.mem_cons.mp hj with rfl | hj
    · exact h₁.gone j List.mem_cons_self b (h₂.bundle? j b hb)
    · exact h₂.gone j hj b hb

theorem State.cancelDrawing_cancelled (s : State) (h : Handle) : s.Cancelled (s.cancelDrawing h) h s.dpl.queue :=
  foldl_cancelEntry_cancelled h _ s

/-- With the QUEUED bundles that draw on it cancelled, a stock's doubt leaves the law of plans standing (R62). -/
theorem State.cancelDrawing_plansHold {h : Handle} (hp : PlansHold (· = h) never s.ct s.dpl) :
    PlansHold never never (s.cancelDrawing h).ct (s.cancelDrawing h).dpl := by
  have hc := s.cancelDrawing_cancelled h
  have hend := hc.plansHold hp
  refine hend.settle (fun _ _ _ _ hk => .inr hk) fun k b hb hq p hpb hph => ?_
  have hk := hc.queue k ((hend.queued k b hb hq).resolve_right id)
  have hn := hc.gone k hk b hb
  rw [Bundle.names, List.any_eq_false] at hn
  exact absurd (by simpa using hph) (hn p hpb)

theorem State.changeStock_alike (s : State) (h : Handle) (f : Stock → Stock) : s.dpl.Alike (s.changeStock h f).dpl := by
  unfold State.changeStock
  split
  · exact .refl _
  · next old hs =>
    dsimp only
    split
    · exact (s.putStock_lapsed h _).alike.trans (State.cancelDrawing_cancelled _ h).alike
    · exact (s.putStock_lapsed h _).alike

/-- Any change of a stock leaves the law of plans standing (R52, R62). -/
theorem State.changeStock_plansHold (hp : PlansHold never never s.ct s.dpl) (h : Handle) (f : Stock → Stock) :
    PlansHold never never (s.changeStock h f).ct (s.changeStock h f).dpl := by
  unfold State.changeStock
  split
  · exact hp
  · next old hs =>
    dsimp only
    split
    · refine State.cancelDrawing_plansHold (State.putStock_plansHold ?_ hs fun _ => .inr rfl)
      exact hp.settle (fun _ _ _ _ hk => .inr hk) fun _ _ _ _ _ _ hk => hk.elim
    · next hno =>
      refine State.putStock_plansHold hp hs fun hd => .inl ?_
      cases ho : old.quality.isDoubtful with
      | true => rfl
      | false => exact absurd (by simp [ho, hd]) hno

/-! ## A commit -/

/-- The bundle of a plan that is being committed (R54). -/
def State.planned (s : State) (l : Lane) (amount : Nat) (parts : List QuotePart) : Bundle :=
  ⟨l, amount, s.dpl.sequence, parts.map fun p => ⟨p.stock, p.count, 0⟩, 0, .queued⟩

/-- A committed plan's state before its bundle joins the queue (R53, R54). -/
def State.reserved (s : State) (l : Lane) (amount : Nat) (parts : List QuotePart) : State :=
  parts.foldl (fun s p => s.tallyStock p.stock fun st => st.reserve p.count)
    (s.createRecord (.bundle (s.planned l amount parts))).1

theorem State.commitPlan_eq (s : State) (l : Lane) (amount : Nat) (parts : List QuotePart) :
    s.commitPlan l amount parts =
      ((s.reserved l amount parts).onDpl fun d => { d with
        sequence := stepSequence d.sequence
        queue := d.queue ++ [(s.createRecord (.bundle (s.planned l amount parts))).2] },
      (s.createRecord (.bundle (s.planned l amount parts))).2) := rfl

theorem State.reserved_tallied (s : State) (l : Lane) (amount : Nat) (parts : List QuotePart) :
    (s.createRecord (.bundle (s.planned l amount parts))).1.Tallied (s.reserved l amount parts) :=
  foldl_tallied parts (fun s p => s.tallyStock_tallied p.stock (f := fun st => st.reserve p.count) fun _ h => h) _

theorem State.commitPlan_alike (s : State) (l : Lane) (amount : Nat) (parts : List QuotePart) :
    s.dpl.Alike (s.commitPlan l amount parts).1.dpl := by
  rw [State.commitPlan_eq]
  exact (s.reserved_tallied l amount parts).lapsed.alike.trans (.of_quotes rfl rfl)

/-- The plan of a commit stands on sound stocks, and so then does its bundle (R54, R56). -/
theorem State.commitPlan_plansHold (hp : PlansHold never never s.ct s.dpl) (l : Lane) (amount : Nat)
    {parts : List QuotePart} (hparts : ∀ p ∈ parts, s.ct.honours p.stock 0) :
    PlansHold never never (s.commitPlan l amount parts).1.ct (s.commitPlan l amount parts).1.dpl := by
  rw [State.commitPlan_eq]
  set c := s.createRecord (.bundle (s.planned l amount parts)) with hc
  have hon {h : Handle} {n : Nat} (hh : s.ct.honours h n) : c.1.ct.honours h n := Ct.honours_create hp.gens _ hh
  have hmade : PlansHold never (· = c.2) c.1.ct c.1.dpl := by
    have hbun (k : Handle) (b : Bundle) (hb : c.1.ct.bundle? k = some b) :
        s.ct.bundle? k = some b ∨ k = c.2 ∧ b = s.planned l amount parts := by
      rcases Ct.find_create_cases hp.gens (.bundle (s.planned l amount parts)) with he | ⟨-, hf⟩
      · exact .inl (by rwa [show c.1.ct = s.ct from he] at hb)
      · rw [Ct.bundle?_eq, show c.1.ct.find k = _ from hf k] at hb
        split at hb
        · next hk => exact .inr ⟨hk, (Option.some.inj hb).symm⟩
        · exact .inl (by rwa [Ct.bundle?_eq])
    refine ⟨Ct.generationsLegal_create hp.gens _, fun q hq hv p hpq => hon (hp.quotes q hq hv p hpq),
      fun k b hb hq => ?_, fun k b hb hq p hpb => .inl ?_⟩
    · rcases hbun k b hb with hb | ⟨hk, -⟩
      · exact (hp.queued k b hb hq).imp_right False.elim
      · exact .inr hk
    · rcases hbun k b hb with hb | ⟨-, rfl⟩
      · exact hon ((hp.parts k b hb hq p hpb).resolve_right id)
      · obtain ⟨q, hq', rfl⟩ := List.mem_map.mp hpb
        exact hon (hparts q hq')
  have hres := (s.reserved_tallied l amount parts).plansHold hmade
  refine ⟨hres.gens, hres.quotes, fun k b hb hq => .inl ?_, hres.parts⟩
  exact List.mem_append.mpr ((hres.queued k b hb hq).imp id fun hk => List.mem_singleton.mpr hk)

end Sys2Proof.Machine
end

section
/-! PROOF. What the operations of the custody table, the planner and the units keep of the quote table and of the law
of plans (R51, R52, R56, R62). -/

open Sys2Proof Sys2Proof.Machine

namespace Sys2Proof.Machine

/-! ## Records written and retired -/

variable {s : State}

theorem Ct.spares_write_of_not_stock {c : Ct} {h : Handle} {r : Record} (hs : c.stock? h = none)
    (hr : r.bundle? = none) : c.Spares (c.write h r) := by
  cases hx : c.find h with
  | none =>
    rw [Ct.write_of_none c hx]
    exact .refl c
  | some x =>
    refine Ct.spares_write hx ?_ hr
    rwa [Ct.stock?_eq, hx, Option.bind_some] at hs

/-- A live record that a lookup answers is the one that its handle names (R4). -/
theorem Ct.find_of_findSome {α : Type} {c : Ct} (hg : c.generationsLegal = true) {g : Handle × Record → Option (Handle × α)}
    {h : Handle} {a : α} (hf : c.live.findSome? g = some (h, a)) :
    ∃ k r, g (k, r) = some (h, a) ∧ c.find k = some r := by
  obtain ⟨⟨k, r⟩, hmem, hr⟩ := List.exists_of_findSome?_eq_some hf
  exact ⟨k, r, hr, (Ct.mem_live hg k r).mp hmem⟩

theorem Ct.find_stockAt {c : Ct} (hg : c.generationsLegal = true) {p : CassettePos} {h : Handle} {st : Stock}
    (hs : c.stockAt p = some (h, st)) : c.find h = some (.stock st) := by
  obtain ⟨k, r, hr, hf⟩ := Ct.find_of_findSome hg hs
  cases r with
  | stock x =>
    dsimp only at hr
    split at hr
    · cases hr
      exact hf
    · cases hr
  | _ => cases hr

theorem Ct.stock?_stockAt {c : Ct} (hg : c.generationsLegal = true) {p : CassettePos} {h : Handle} {st : Stock}
    (hs : c.stockAt p = some (h, st)) : c.stock? h = some st :=
  Ct.stock?_eq_some.mpr (Ct.find_stockAt hg hs)

theorem Ct.find_binAt {c : Ct} (hg : c.generationsLegal = true) {b : BinId} {h : Handle} {v : Bin}
    (hs : c.binAt b = some (h, v)) : c.find h = some (.bin v) := by
  obtain ⟨k, r, hr, hf⟩ := Ct.find_of_findSome hg hs
  cases r with
  | bin x =>
    dsimp only at hr
    split at hr
    · cases hr
      exact hf
    · cases hr
  | _ => cases hr

theorem Ct.stock?_eq_none {c : Ct} {h : Handle} {r : Record} (hf : c.find h = some r) (hr : r.stock? = none) :
    c.stock? h = none := by
  rw [Ct.stock?_eq, hf, Option.bind_some, hr]

theorem Ct.stock?_of_bundle? {c : Ct} {h : Handle} {b : Bundle} (hb : c.bundle? h = some b) : c.stock? h = none :=
  Ct.stock?_eq_none (Ct.bundle?_eq_some.mp hb) rfl

theorem Ct.find_of_transit? {c : Ct} {h : Handle} {t : Transit} (ht : c.transit? h = some t) :
    c.find h = some (.transit t) := by
  unfold Ct.transit? at ht
  split at ht
  · next hf =>
    cases ht
    exact hf
  · cases ht

/-! ## Operations of the custody table that spare the plans -/

theorem State.createRecord_spares (s : State) {r : Record} (hr : r.bundle? = none) :
    s.ct.Spares (s.createRecord r).1.ct := Ct.spares_create s.ct hr

theorem State.onVault_spares (s : State) (f : Vault → Vault) : s.ct.Spares (s.onVault f).ct := by
  intro hg
  unfold State.onVault
  split
  · exact Ct.Spares.refl _ hg
  · next hv => exact Ct.spares_write (Ct.find_vault hg hv) rfl rfl hg

theorem State.onBin_spares (s : State) (b : BinId) (f : Bin → Bin) : s.ct.Spares (s.onBin b f).ct := by
  intro hg
  unfold State.onBin
  split
  · exact Ct.Spares.refl _ hg
  · next hv => exact Ct.spares_write (Ct.find_binAt hg hv) rfl rfl hg

theorem State.setTransitState_spares (s : State) (h : Handle) (st : TransitState) :
    s.ct.Spares (s.setTransitState h st).ct := by
  unfold State.setTransitState
  split
  · exact .refl _
  · next ht =>
    rw [(State.setLaneFlag_frame _ _ _).1]
    exact Ct.spares_write (Ct.find_of_transit? ht) rfl rfl

theorem State.retireTransit_spares (s : State) (h : Handle) : s.ct.Spares (s.retireTransit h).ct := by
  unfold State.retireTransit
  split
  · exact .refl _
  · next ht =>
    rw [(State.setLaneFlag_frame _ _ _).1]
    exact Ct.spares_retire (Ct.stock?_eq_none (Ct.find_of_transit? ht) rfl)

/-- A bundle's change that makes it QUEUED only if it was, and that keeps the stocks of its plan. -/
theorem State.onBundle_spares (s : State) (h : Handle) {f : Bundle → Bundle}
    (hq : ∀ b, (f b).state = .queued → b.state = .queued)
    (hp : ∀ b, ∀ p ∈ (f b).parts, ∃ q ∈ b.parts, q.stock = p.stock) : s.ct.Spares (s.onBundle h f).ct := by
  unfold State.onBundle
  split
  · exact .refl _
  · next b hb => exact Ct.spares_write_bundle hb (hq b) fun _ p hp' => .inr (hp b p hp')

theorem State.setBundleState_spares (s : State) (h : Handle) {st : BundleState} (hst : st ≠ .queued) :
    s.ct.Spares (s.setBundleState h st).ct :=
  s.onBundle_spares h (fun _ hq => absurd hq hst) fun _ p hp => ⟨p, hp, rfl⟩

theorem Bundle.stackOne_stocks (b : Bundle) : ∀ p ∈ b.stackOne.parts, ∃ q ∈ b.parts, q.stock = p.stock := by
  intro p hp
  unfold Bundle.stackOne at hp
  split at hp
  · exact ⟨p, hp, rfl⟩
  · obtain ⟨j, hj⟩ := List.mem_iff_getElem?.mp hp
    rw [List.getElem?_modify] at hj
    obtain ⟨q, hq, rfl⟩ := Option.map_eq_some_iff.mp hj
    refine ⟨q, List.mem_of_getElem? hq, ?_⟩
    split <;> rfl

theorem Bundle.stackOne_state (b : Bundle) : b.stackOne.state = b.state := by
  unfold Bundle.stackOne
  split <;> rfl

/-! ## What a change keeps -/

/-- A change of the custody table and of the planner keeps the quote table legal, and the law of plans. -/
structure Keeps (c : Ct) (d : Dpl) (c' : Ct) (d' : Dpl) : Prop where
  table : d.quotesLegal = true → d'.quotesLegal = true
  plans : PlansHold never never c d → PlansHold never never c' d'

/-- `Keeps` as a truth value, which `simp` carries through an operation's frame as it carries an equation. -/
noncomputable def kept (c : Ct) (d : Dpl) (c' : Ct) (d' : Dpl) : Bool :=
  @decide (Keeps c d c' d') (Classical.propDecidable _)

variable {c c' c'' : Ct} {d d' d'' : Dpl}

theorem kept_iff : kept c d c' d' = true ↔ Keeps c d c' d' := by
  rw [kept, @decide_eq_true_iff _ (Classical.propDecidable _)]

theorem kept_refl (c : Ct) (d : Dpl) : kept c d c d := kept_iff.mpr ⟨id, id⟩

/-- A further change that keeps both laws by itself. -/
theorem kept_of (hk : kept c d c' d') (ht : d'.quotesLegal = true → d''.quotesLegal = true)
    (hp : PlansHold never never c' d' → PlansHold never never c'' d'') : kept c d c'' d'' :=
  have hk := kept_iff.mp hk
  kept_iff.mpr ⟨fun h => ht (hk.table h), fun h => hp (hk.plans h)⟩

/-- The custody table changes and the plans are spared. -/
theorem kept_custody (hk : kept c d c' d') (hs : c'.Spares c'') : kept c d c'' d' :=
  kept_of hk id fun hp => hp.spares hs

/-- Quotes become INVALID. -/
theorem kept_lapsed (hk : kept c d c' d') (hl : d'.Lapsed d'') : kept c d c' d'' :=
  kept_of hk hl.alike.quotesLegal fun hp => hp.lapsed hl

theorem kept_tallied {t : State} (hk : kept c d s.ct s.dpl) (ht : s.Tallied t) : kept c d t.ct t.dpl :=
  kept_of hk ht.lapsed.alike.quotesLegal ht.plansHold

theorem foldl_kept {α : Type} (l : List α) {f : State → α → State}
    (hf : ∀ (s : State) a, kept c d s.ct s.dpl → kept c d (f s a).ct (f s a).dpl) {s : State}
    (hk : kept c d s.ct s.dpl) : kept c d (l.foldl f s).ct (l.foldl f s).dpl := by
  induction l generalizing s with
  | nil => exact hk
  | cons a l ih => exact ih (hf s a hk)

theorem foldl_custody {α : Type} (l : List α) {f : State → α → State}
    (hf : ∀ (s : State) a, kept c d s.ct d' → kept c d (f s a).ct d') {s : State} (hk : kept c d s.ct d') :
    kept c d (l.foldl f s).ct d' := by
  induction l generalizing s with
  | nil => exact hk
  | cons a l ih => exact ih (hf s a hk)

@[simp] theorem whenDue_kept (hk : kept c d s.ct s.dpl) (t : Timer) (e : State → State)
    (he : ∀ s : State, kept c d s.ct s.dpl → kept c d (e s).ct (e s).dpl) :
    kept c d (s.whenDue t e).ct (s.whenDue t e).dpl := by
  unfold State.whenDue
  split
  · exact he s hk
  · exact hk

@[simp] theorem State.unless_kept (hk : kept c d s.ct s.dpl) (checks : List (Bool × Reply)) {taken : State × Reply}
    (ht : kept c d taken.1.ct taken.1.dpl) :
    kept c d (s.unless checks taken).1.ct (s.unless checks taken).1.dpl := by
  cases h : firstFailure checks with
  | none => rwa [State.unless_of_none h]
  | some r => rwa [State.unless_of_some h]

@[simp] theorem State.unless_custody (hk : kept c d s.ct d') (checks : List (Bool × Reply)) {taken : State × Reply}
    (ht : kept c d taken.1.ct d') : kept c d (s.unless checks taken).1.ct d' := by
  cases h : firstFailure checks with
  | none => rwa [State.unless_of_none h]
  | some r => rwa [State.unless_of_some h]

@[simp] theorem State.request_kept {α : Type} (hk : kept c d s.ct s.dpl) (code : Nat) (auth : Byte)
    (op : Half) (sel : Option α) {owner : State → Role → α → State × Reply}
    (ho : ∀ r a, kept c d (owner s r a).1.ct (owner s r a).1.dpl) :
    kept c d (s.request code auth op sel owner).ct (s.request code auth op sel owner).dpl := by
  unfold State.request
  split <;> simp [hk, ho]

@[simp] theorem State.inTurn_kept (hk : kept c d s.ct s.dpl) (i : Instr) {taken : State}
    (ht : kept c d taken.ct taken.dpl) : kept c d (s.inTurn i taken).ct (s.inTurn i taken).dpl := by
  unfold State.inTurn State.await
  (repeat' split) <;> simp [hk, ht]

/-! ## The custody table's operations -/

@[simp] theorem State.createRecord_kept (hk : kept c d s.ct d') {r : Record} (hr : r.bundle? = none) :
    kept c d (s.createRecord r).1.ct d' := kept_custody hk (s.createRecord_spares hr)

@[simp] theorem State.onVault_kept (hk : kept c d s.ct d') (f : Vault → Vault) : kept c d (s.onVault f).ct d' :=
  kept_custody hk (s.onVault_spares f)

@[simp] theorem State.worsenVault_kept (hk : kept c d s.ct d') (q : Quality) : kept c d (s.worsenVault q).ct d' :=
  State.onVault_kept hk _

@[simp] theorem State.addVault_kept (hk : kept c d s.ct d') (n : Nat) (q : Quality) :
    kept c d (s.addVault n q).ct d' := State.onVault_kept hk _

@[simp] theorem State.onBin_kept (hk : kept c d s.ct d') (b : BinId) (f : Bin → Bin) : kept c d (s.onBin b f).ct d' :=
  kept_custody hk (s.onBin_spares b f)

@[simp] theorem State.doubtBin_kept (hk : kept c d s.ct d') (b : BinId) (k : DoubtCause) :
    kept c d (s.doubtBin b k).ct d' := State.onBin_kept hk b _

@[simp] theorem State.doubtActiveBin_kept (hk : kept c d s.ct d') (k : DoubtCause) :
    kept c d (s.doubtActiveBin k).ct d' := by
  unfold State.doubtActiveBin
  split <;> simp [hk]

@[simp] theorem State.setBundleState_kept (hk : kept c d s.ct d') (h : Handle) {st : BundleState}
    (hst : st ≠ .queued) : kept c d (s.setBundleState h st).ct d' := kept_custody hk (s.setBundleState_spares h hst)

/-- A GOOD note is stacked. -/
@[simp] theorem State.stackOne_kept (hk : kept c d s.ct d') (h : Handle) :
    kept c d (s.onBundle h Bundle.stackOne).ct d' :=
  kept_custody hk (s.onBundle_spares h (fun b hb => b.stackOne_state ▸ hb) Bundle.stackOne_stocks)

/-- A note goes to the reject vault. -/
@[simp] theorem State.rejectOne_kept (hk : kept c d s.ct d') (h : Handle) :
    kept c d (s.onBundle h fun b => { b with rejects := b.rejects + 1 }).ct d' :=
  kept_custody hk (s.onBundle_spares h (fun _ hb => hb) fun _ p hp => ⟨p, hp, rfl⟩)

@[simp] theorem State.switchBins_kept (hk : kept c d s.ct d') (b : BinId) {t : State} (ht : kept c d t.ct d') :
    kept c d ((s.switchBins b).getD t).ct d' := by
  unfold State.switchBins
  (repeat' split) <;> simp [hk, ht]

@[simp] theorem State.setTransitState_kept (hk : kept c d s.ct d') (h : Handle) (st : TransitState) :
    kept c d (s.setTransitState h st).ct d' := kept_custody hk (s.setTransitState_spares h st)

@[simp] theorem State.retireTransit_kept (hk : kept c d s.ct d') (h : Handle) :
    kept c d (s.retireTransit h).ct d' := kept_custody hk (s.retireTransit_spares h)

@[simp] theorem State.retireBundle_kept (hk : kept c d s.ct d') (h : Handle) (e : Ending) :
    kept c d (s.retireBundle h e).ct d' := kept_custody hk (s.retireBundle_spares h e)

/-! ## Changes of many records -/

theorem Record.captureDoubt_bundle? (r : Record) : r.captureDoubt.bundle? = r.bundle? := by
  cases r with
  | envelope e =>
    simp only [Record.captureDoubt]
    split <;> rfl
  | _ => rfl

theorem Ct.captureDoubt_spares (c : Ct) : c.Spares (c.mapRecords Record.captureDoubt) :=
  c.spares_mapRecords (fun st => ⟨st, rfl, rfl, rfl⟩) Record.captureDoubt_bundle?

theorem Record.markLow_bundle? (mark : Nat) (r : Record) : (r.markLow mark).bundle? = r.bundle? := by
  cases r <;> rfl

theorem Ct.markLow_spares (c : Ct) (mark : Nat) : c.Spares (c.mapRecords (Record.markLow mark)) :=
  c.spares_mapRecords (fun st => ⟨st.markLow mark, rfl, rfl, rfl⟩) (Record.markLow_bundle? mark)

theorem Ct.stock?_retire_of_none {c : Ct} {k : Handle} (hk : c.stock? k = none) (h : Handle) :
    (c.retire h).stock? k = none := by
  cases hx : c.find h with
  | none => rwa [Ct.retire_of_none c hx]
  | some x =>
    rw [Ct.stock?_retire hx]
    split
    · rfl
    · exact hk

theorem Ct.stock?_write_of_none {c : Ct} {k : Handle} (hk : c.stock? k = none) (h : Handle) {r : Record}
    (hr : r.stock? = none) : (c.write h r).stock? k = none := by
  cases hx : c.find h with
  | none => rwa [Ct.write_of_none c hx]
  | some x =>
    rw [Ct.stock?_write hx]
    split
    · exact hr
    · exact hk

/-- A change that spares the plans and makes no stock of what was none. -/
def Ct.Clears (c c' : Ct) : Prop := c.Spares c' ∧ ∀ k, c.stock? k = none → c'.stock? k = none

theorem Ct.Clears.trans {c c' c'' : Ct} (h : c.Clears c') (h' : c'.Clears c'') : c.Clears c'' :=
  ⟨h.1.trans h'.1, fun k hk => h'.2 k (h.2 k hk)⟩

/-- The same change for each of some records that are no stocks. -/
theorem foldl_clears {α : Type} {f : Ct → Handle × α → Ct} (hf : ∀ (c : Ct) p, c.stock? p.1 = none → c.Clears (f c p))
    (l : List (Handle × α)) {c : Ct} (hl : ∀ p ∈ l, c.stock? p.1 = none) : c.Clears (l.foldl f c) := by
  induction l generalizing c with
  | nil => exact ⟨.refl c, fun _ h => h⟩
  | cons p l ih =>
    have h₁ := hf c p (hl p List.mem_cons_self)
    exact h₁.trans (ih fun q hq => h₁.2 q.1 (hl q (List.mem_cons_of_mem p hq)))

theorem Ct.stock?_envelopesIn {c : Ct} (hg : c.generationsLegal = true) (h : Handle) :
    ∀ p ∈ c.envelopesIn h, c.stock? p.1 = none := by
  intro p hp
  obtain ⟨⟨k, r⟩, hmem, hr⟩ := List.mem_filterMap.mp (List.mem_of_mem_filter hp)
  have hf := (Ct.mem_live hg k r).mp hmem
  cases r with
  | envelope e =>
    cases hr
    exact Ct.stock?_eq_none hf rfl
  | _ => cases hr

theorem Ct.emptyBin_clears {c : Ct} (hg : c.generationsLegal = true) (h : Handle) : c.Clears (c.emptyBin h) := by
  have hall := Ct.stock?_envelopesIn hg h
  have hret : c.Clears (((c.envelopesIn h).filter fun p => !p.2.claimed).foldl (fun ct p => ct.retire p.1) c) :=
    foldl_clears (fun _ _ hs => ⟨Ct.spares_retire hs, fun _ hk => Ct.stock?_retire_of_none hk _⟩) _
      fun p hp => hall p (List.mem_of_mem_filter hp)
  refine hret.trans (foldl_clears (fun _ _ hs => ⟨Ct.spares_write_of_not_stock hs rfl,
    fun _ hk => Ct.stock?_write_of_none hk _ rfl⟩) _ fun p hp => hret.2 _ (hall p (List.mem_of_mem_filter hp)))

/-- A bin is collected: its envelopes leave it and its record is retired (R21, R130). -/
theorem Ct.collect_spares {c : Ct} {b : BinId} {h : Handle} {v : Bin} (hv : c.binAt b = some (h, v)) :
    c.Spares ((c.emptyBin h).retire h) := by
  intro hg
  have hc := Ct.emptyBin_clears hg h
  exact (hc.1.trans (Ct.spares_retire (hc.2 h (Ct.stock?_eq_none (Ct.find_binAt hg hv) rfl)))) hg

theorem Ct.foldl_slots (l : List ZoneId) {f : Ct → ZoneId → Ct} (hf : ∀ c z, (f c z).slots = c.slots) (c : Ct) :
    (l.foldl f c).slots = c.slots := by
  induction l generalizing c with
  | nil => rfl
  | cons z l ih => exact (ih _).trans (hf c z)

/-! ## Tallies, doubts and the queue -/

@[simp] theorem State.invalidateQuotes_kept (hk : kept c d c' s.dpl) (h : Handle) :
    kept c d c' (s.invalidateQuotes h).dpl := kept_lapsed hk (Dpl.lapse_lapsed _ _)

@[simp] theorem State.invalidateAllQuotes_kept (hk : kept c d c' s.dpl) :
    kept c d c' s.invalidateAllQuotes.dpl := kept_lapsed hk (Dpl.lapse_lapsed _ fun _ => true)

@[simp] theorem State.releaseParts_kept (hk : kept c d s.ct s.dpl) (parts : List Part) :
    kept c d (s.releaseParts parts).ct (s.releaseParts parts).dpl := kept_tallied hk (s.releaseParts_tallied parts)

@[simp] theorem State.cancelQueued_kept (hk : kept c d s.ct s.dpl) (h : Handle) :
    kept c d (s.cancelQueued h).ct (s.cancelQueued h).dpl :=
  kept_of hk (s.cancelQueued_dpl h).1.quotesLegal fun hp => State.cancelQueued_plansHold hp h

@[simp] theorem State.changeStock_kept (hk : kept c d s.ct s.dpl) (h : Handle) (f : Stock → Stock) :
    kept c d (s.changeStock h f).ct (s.changeStock h f).dpl :=
  kept_of hk (s.changeStock_alike h f).quotesLegal fun hp => State.changeStock_plansHold hp h f

@[simp] theorem State.doubtStock_kept (hk : kept c d s.ct s.dpl) (h : Handle) (k : DoubtCause) :
    kept c d (s.doubtStock h k).ct (s.doubtStock h k).dpl := State.changeStock_kept hk h _

@[simp] theorem State.doubtPlan_kept (hk : kept c d s.ct s.dpl) (b : Bundle) (k : DoubtCause) :
    kept c d (s.doubtPlan b k).ct (s.doubtPlan b k).dpl :=
  foldl_kept b.parts (fun _ p hk => State.doubtStock_kept hk p.stock k) hk

/-- The mark of a full vault is no part of the quotes and of the queue (R59). -/
theorem Dpl.lapsed_blocked (d : Dpl) (b : Bool) : d.Lapsed { d with rvBlocked := b } :=
  ⟨.of_quotes rfl rfl, fun _ hq _ => hq, rfl⟩

/-- Notes move from stocks to where the bundle's end sends them. -/
theorem State.moveStacked_kept (hk : kept c d s.ct s.dpl) (parts : List Part) {move : Stock → Nat → Stock}
    (hm : ∀ n, Undoubting fun st => move st n) :
    kept c d (s.moveStacked parts move).ct (s.moveStacked parts move).dpl :=
  kept_tallied hk (s.moveStacked_tallied parts hm)

@[simp] theorem State.takeBundle_kept (hk : kept c d s.ct s.dpl) (h : Handle) (b : Bundle) :
    kept c d (s.takeBundle h b).ct (s.takeBundle h b).dpl := by
  have hm := State.moveStacked_kept hk b.parts (move := Stock.toPaid) fun _ _ hd => hd
  simp [State.takeBundle, hm]

@[simp] theorem State.handBundle_kept (hk : kept c d s.ct s.dpl) (h : Handle) (b : Bundle) :
    kept c d (s.handBundle h b).ct (s.handBundle h b).dpl := by
  have hm := State.moveStacked_kept hk b.parts (move := Stock.toHanded) fun _ _ hd => hd
  simp [State.handBundle, hm]

@[simp] theorem State.rejectStacked_kept (hk : kept c d s.ct s.dpl) (b : Bundle) :
    kept c d (s.rejectStacked b).ct (s.rejectStacked b).dpl := by
  have hm := State.moveStacked_kept hk b.parts (move := Stock.toRejected) fun _ _ hd => hd
  simp [State.rejectStacked, hm]

/-- The bundle that the note transport takes leaves the queue and is QUEUED no more (R57). -/
@[simp] theorem State.takeFromQueue_kept (hk : kept c d s.ct s.dpl) (h : Handle) :
    kept c d (s.takeFromQueue h).ct (s.takeFromQueue h).dpl := by
  have hdpl : (s.takeFromQueue h).dpl = { s.dpl with queue := s.dpl.queue.filter (· != h), rvBlocked := false } := by
    simp [State.takeFromQueue]
  have hct : (s.takeFromQueue h).ct = (s.setBundleState h .picking).ct := by
    simp [State.takeFromQueue, State.setBundleState, State.onBundle]
    split <;> simp
  rw [hdpl, hct]
  refine kept_of hk (Dpl.Alike.of_quotes rfl rfl).quotesLegal fun hp => ?_
  refine hp.change (s.setBundleState_spares h (by decide)) (fun q hq hv => .inl ⟨q, hq, hv, rfl⟩) fun k hkq => ?_
  by_cases hkh : k = h
  · refine .inr fun b hb => ?_
    subst hkh
    rw [State.setBundleState, State.onBundle] at hb
    split at hb
    · next hn =>
      rw [hn] at hb
      cases hb
    · next b₀ hb₀ =>
      rw [State.onCt_ct, Ct.bundle?_write (Ct.bundle?_eq_some.mp hb₀), if_pos rfl] at hb
      cases hb
      exact nofun
  · exact .inl (List.mem_filter.mpr ⟨hkq, by simpa using hkh⟩)

@[simp] theorem State.examineQueue_kept (hk : kept c d s.ct s.dpl) :
    kept c d s.examineQueue.ct s.examineQueue.dpl := by
  unfold State.examineQueue
  dsimp only
  (repeat' split) <;> simp [hk, kept_lapsed hk (Dpl.lapsed_blocked _ _)]

@[simp] theorem State.enterNoteIdle_kept (hk : kept c d s.ct s.dpl) :
    kept c d s.enterNoteIdle.ct s.enterNoteIdle.dpl := by
  simp [State.enterNoteIdle, hk]

/-! ## The plans that are committed -/

/-- A candidate's stock honours what the candidate has available (R47). -/
theorem State.candidate_honours (hg : s.ct.generationsLegal = true) {e : Candidate} (he : e ∈ s.candidates) {n : Nat}
    (hn : n ≤ e.available) : s.ct.honours e.handle n := by
  obtain ⟨-, st, hst, hd, -, -, ha⟩ := State.candidateAt_eq_some.mp (State.mem_candidates.mp he)
  exact ⟨st, Ct.stock?_stockAt hg hst, hd, ha ▸ hn⟩

/-- The stocks of a plan by amount honour its parts (R48). -/
theorem State.planAmount_honours (hg : s.ct.generationsLegal = true) {amount : Nat} {parts : List QuotePart}
    (hp : s.planAmount amount = .ok parts) : ∀ p ∈ parts, s.ct.honours p.stock p.count := by
  unfold State.planAmount at hp
  split at hp
  · cases hp
  · split at hp
    · next counts hs =>
      cases hp
      intro p hmem
      obtain ⟨⟨e, n⟩, hen, rfl⟩ := List.mem_map.mp hmem
      have hen := List.mem_of_mem_filter hen
      exact State.candidate_honours hg (List.of_mem_zip hen).1 ((searchPlan_pays hs).2.1 _ hen)
    · cases hp

theorem State.checkMixAt_honours (hg : s.ct.generationsLegal = true) {p : CassettePos} {n : Nat} {q : QuotePart}
    (hp : s.checkMixAt p n = .ok q) : s.ct.honours q.stock q.count := by
  unfold State.checkMixAt at hp
  split at hp
  · cases hp
  · next h st hst =>
    (repeat' split at hp) <;> try cases hp
    next hd _ hn => exact ⟨st, Ct.stock?_stockAt hg hst, Bool.eq_false_iff.mpr hd, Nat.le_of_not_lt hn⟩

theorem State.checkMix_honours (hg : s.ct.generationsLegal = true) (l : List (CassettePos × Nat)) {parts : List QuotePart}
    (hp : s.checkMix l = .ok parts) : ∀ p ∈ parts, s.ct.honours p.stock p.count := by
  induction l generalizing parts with
  | nil =>
    cases hp
    exact fun _ hq => absurd hq List.not_mem_nil
  | cons x l ih =>
    obtain ⟨p, n⟩ := x
    simp only [State.checkMix] at hp
    (repeat' split at hp) <;> try cases hp
    · exact ih hp
    · next hat _ rest hrest =>
      intro q hq
      rcases List.mem_cons.mp hq with rfl | hq
      · exact State.checkMixAt_honours hg hat
      · exact ih hrest q hq

/-- The stocks of a plan by mix honour its parts (R50). -/
theorem State.planMix_honours (hg : s.ct.generationsLegal = true) {m : PerPos Nat} {parts : List QuotePart}
    (hp : s.planMix m = .ok parts) : ∀ p ∈ parts, s.ct.honours p.stock p.count := by
  unfold State.planMix at hp
  dsimp only at hp
  (repeat' split at hp) <;> try cases hp
  next hm _ => exact State.checkMix_honours hg _ hm

theorem Ct.honours.some {ct : Ct} {h : Handle} {n : Nat} (hh : ct.honours h n) : ct.honours h 0 := by
  obtain ⟨st, hst, hd, -⟩ := hh
  exact ⟨st, hst, hd, Nat.zero_le _⟩

/-- A plan is committed, its stocks sound (R53, R54). -/
theorem State.commitPlan_kept (hk : kept c d s.ct s.dpl) (l : Lane) (amount : Nat) {parts : List QuotePart}
    (hparts : PlansHold never never s.ct s.dpl → ∀ p ∈ parts, s.ct.honours p.stock p.count) :
    kept c d (s.commitPlan l amount parts).1.ct (s.commitPlan l amount parts).1.dpl :=
  kept_of hk (s.commitPlan_alike l amount parts).quotesLegal fun hp =>
    State.commitPlan_plansHold hp l amount fun p hpp => (hparts hp p hpp).some

theorem Quote.aged_valid (l : Lane) (e : Quote) : (e.aged l).valid = e.valid := by
  unfold Quote.aged
  split <;> rfl

/-- Every quote of the table to which one was added is that one, or one that stood in it (R51). -/
theorem Dpl.mem_addQuote {l : Lane} {amount : Nat} {parts : List QuotePart} {q : Quote}
    (hq : q ∈ (d.addQuote l amount parts).liveQuotes) :
    q = ⟨d.nextTag, l, amount, parts, true, true⟩ ∨ ∃ e ∈ d.liveQuotes, q = e.aged l := by
  simp only [Dpl.addQuote, Dpl.liveQuotes, Vector.toList_setIfInBounds, Vector.toList_map, List.mem_filterMap, id_eq,
    exists_eq_right] at hq ⊢
  rcases List.mem_or_eq_of_mem_set hq with hq | hq
  · obtain ⟨o, ho, hoq⟩ := List.mem_map.mp hq
    obtain ⟨e, rfl, rfl⟩ := Option.map_eq_some_iff.mp hoq
    exact .inr ⟨e, ho, rfl⟩
  · exact .inl (Option.some.inj hq)

/-- A quote joins the table, its stocks sound (R51). -/
theorem kept_addQuote (hk : kept c d c' d') (l : Lane) (amount : Nat) {parts : List QuotePart}
    (hparts : PlansHold never never c' d' → ∀ p ∈ parts, c'.honours p.stock p.count) :
    kept c d c' (d'.addQuote l amount parts) := by
  refine kept_of hk (fun h => Dpl.addQuote_quotesLegal h l amount parts) fun hp => ?_
  refine hp.change (.refl _) (fun q hq hv => ?_) fun k hk => .inl hk
  rcases Dpl.mem_addQuote hq with rfl | ⟨e, he, rfl⟩
  · exact .inr (hparts hp)
  · exact .inl ⟨e, he, Quote.aged_valid l e ▸ hv, by simp⟩

/-- A quote leaves the table (R53). -/
theorem kept_freeQuote (hk : kept c d c' d') {l : Lane} {tag : Nat} (hq : ∃ q ∈ d'.liveQuotes, q.tag = tag ∧ q.lane = l) :
    kept c d c' (d'.freeQuote l tag) := by
  refine kept_of hk (fun h => Dpl.freeQuote_quotesLegal h hq) fun hp => ?_
  refine hp.change (.refl _) (fun q hq hv => .inl ?_) fun k hk => .inl hk
  rw [Dpl.freeQuote_liveQuotes] at hq
  obtain ⟨e, he, rfl⟩ := List.mem_map.mp hq
  exact ⟨e, List.mem_of_mem_filter he, by simpa using hv, by simp⟩

theorem Dpl.committable_eq_some {l : Lane} {tag : Nat} {q : Quote} (hq : d.committable l tag = some q) :
    q ∈ d.liveQuotes ∧ q.valid = true ∧ q.tag = tag ∧ q.lane = l := by
  unfold Dpl.committable Dpl.quoteTagged at hq
  split at hq
  · next e he =>
    split at hq
    · next hle =>
      cases hq
      simp only [Bool.and_eq_true, decide_eq_true_eq] at hle
      exact ⟨List.mem_of_find?_eq_some he, hle.2, by simpa using List.find?_some he, hle.1⟩
    · cases hq
  · cases hq

/-! ## A power-on -/

theorem Dpl.lost_liveQuotes : Dpl.lost.liveQuotes = [] := rfl

theorem Dpl.lost_quotesLegal : Dpl.lost.quotesLegal = true := by decide

theorem Ct.lost_generationsLegal : Ct.lost.generationsLegal = true := by
  rw [Ct.generationsLegal_iff]
  intro sl hsl
  rw [Ct.lost, Vector.toList_replicate] at hsl
  rw [(List.mem_replicate.mp hsl).2]
  decide

theorem Ct.lost_bundle? (h : Handle) (b : Bundle) : Ct.lost.bundle? h ≠ some b := by
  rw [Ne, Ct.bundle?_eq_some, Ct.find_eq_some]
  rintro ⟨sl, hsl, -, -, hr⟩
  obtain ⟨hi, rfl⟩ := Vector.getElem?_eq_some_iff.mp hsl
  simp [Ct.lost] at hr

theorem plansHold_lost (hd : d.liveQuotes = []) : PlansHold never never Ct.lost d :=
  ⟨Ct.lost_generationsLegal, fun _ hq => absurd (hd ▸ hq) List.not_mem_nil,
    fun h b hb => absurd hb (Ct.lost_bundle? h b), fun h b hb => absurd hb (Ct.lost_bundle? h b)⟩

end Sys2Proof.Machine
end

section
/-! PROOF. What each operation of the units keeps of the quote table and of the law of plans (R51, R52, R56, R62), in
the order of the model: an operation that changes the custody table alone keeps them beside any planner. -/

open Sys2Proof Sys2Proof.Machine

namespace Sys2Proof.Machine

variable {s : State} {c c' c'' : Ct} {d d' d'' : Dpl}

/-! ## The note transport -/

@[simp] theorem State.endBundle_kept (hk : kept c d s.ct s.dpl) (e : Ending) :
    kept c d (s.endBundle e).ct (s.endBundle e).dpl := by
  unfold State.endBundle
  split
  · exact hk
  · next h b _ =>
    have hr := State.rejectStacked_kept hk b
    dsimp only
    split <;> simp [hr]

@[simp] theorem State.decideEnding_kept (hk : kept c d s.ct s.dpl) (e : Ending) :
    kept c d (s.decideEnding e).ct (s.decideEnding e).dpl := by
  unfold State.decideEnding
  (repeat' split) <;> simp [hk]

@[simp] theorem State.cancelInTransport_kept (hk : kept c d s.ct s.dpl) :
    kept c d s.cancelInTransport.ct s.cancelInTransport.dpl := by
  unfold State.cancelInTransport
  (repeat' split) <;> simp [hk]

@[simp] theorem State.doubtsDrawn_kept (hk : kept c d s.ct s.dpl) (hs : List Handle) :
    kept c d (s.doubtsDrawn hs).ct (s.doubtsDrawn hs).dpl := by
  unfold State.doubtsDrawn
  (repeat' split) <;> simp [hk]

@[simp] theorem State.doubtDrawn_kept (hk : kept c d s.ct s.dpl) (h : Handle) :
    kept c d (s.doubtDrawn h).ct (s.doubtDrawn h).dpl := by
  simp [State.doubtDrawn, hk]

@[simp] theorem State.doubtStockInUse_kept (hk : kept c d s.ct s.dpl) (h : Handle) (k : DoubtCause) :
    kept c d (s.doubtStockInUse h k).ct (s.doubtStockInUse h k).dpl := by
  unfold State.doubtStockInUse
  (repeat' split) <;> simp [hk]

@[simp] theorem State.route_kept (hk : kept c d s.ct d') (h : Handle) (l : Lane) : kept c d (s.route h l).ct d' := by
  simp [State.route, hk]

@[simp] theorem State.checkReady_kept (hk : kept c d s.ct d') : kept c d s.checkReady.ct d' := by
  unfold State.checkReady
  (repeat' split) <;> simp [hk]

@[simp] theorem State.completeBundle_kept (hk : kept c d s.ct d') : kept c d s.completeBundle.ct d' := by
  unfold State.completeBundle
  split <;> simp [hk]

@[simp] theorem State.pickingOn_kept (hk : kept c d s.ct s.dpl) : kept c d s.pickingOn.ct s.pickingOn.dpl := by
  unfold State.pickingOn
  (repeat' split) <;> simp [hk]

@[simp] theorem State.checkRejectLimit_kept (hk : kept c d s.ct s.dpl) :
    kept c d s.checkRejectLimit.ct s.checkRejectLimit.dpl := by
  unfold State.checkRejectLimit
  (repeat' split) <;> simp [hk]

@[simp] theorem State.countItem_kept (hk : kept c d s.ct s.dpl) (h : Handle) (good : Bool) (n : Nat) (q : Quality)
    (learn : Stock → Stock) :
    kept c d (s.countItem h good n q learn).ct (s.countItem h good n q learn).dpl := by
  unfold State.countItem
  split
  · exact hk
  · have hc := State.changeStock_kept hk h fun st => (learn st).countItem good n q
    generalize s.changeStock h _ = t at hc ⊢
    have hgood := State.stackOne_kept hc
    have hbad := State.rejectOne_kept (State.addVault_kept hc n q)
    dsimp only
    cases good <;> simp only [Bool.false_eq_true, if_true, if_false] <;> (repeat' split) <;> simp [hgood, hbad]

@[simp] theorem State.noteItemStart_kept (hk : kept c d s.ct s.dpl) :
    kept c d s.noteItemStart.ct s.noteItemStart.dpl := by
  unfold State.noteItemStart
  dsimp only
  (repeat' split) <;> simp [hk]

@[simp] theorem State.noteHandover_kept (hk : kept c d s.ct s.dpl) (ref : ItemStock) (m : Measure) (atLimit : Bool) :
    kept c d (s.noteHandover ref m atLimit).ct (s.noteHandover ref m atLimit).dpl := by
  unfold State.noteHandover
  dsimp only
  (repeat' split) <;> simp [hk]

@[simp] theorem State.failBundle_kept (hk : kept c d s.ct s.dpl) (h : Handle) (b : Bundle) (k : DoubtCause)
    (r : FailReason) (vault : Bool) :
    kept c d (s.failBundle h b k r vault).ct (s.failBundle h b k r vault).dpl := by
  have hm := State.moveStacked_kept hk b.parts (move := Stock.toRejected) fun _ _ hd => hd
  have hl := foldl_kept s.ntc.uncounted (f := fun s k => s.tallyStock k Stock.chargeLost)
    (fun t k ht => kept_tallied ht (t.tallyStock_tallied k fun _ hd => hd)) (State.releaseParts_kept hm b.parts)
  unfold State.failBundle
  dsimp only
  generalize List.foldl _ _ s.ntc.uncounted = t at hl ⊢
  have hd (n : Nat) := State.doubtPlan_kept (c := c) (d := d) (s := t.addVault n .exact) (by simp [hl]) b k
  split <;> simp [hd]

@[simp] theorem State.stopTransport_kept (hk : kept c d s.ct s.dpl) (k : DoubtCause) (r : FailReason) (vault : Bool) :
    kept c d (s.stopTransport k r vault).ct (s.stopTransport k r vault).dpl := by
  unfold State.stopTransport
  (repeat' split) <;> simp [hk]

@[simp] theorem State.noteJam_kept (hk : kept c d s.ct s.dpl) : kept c d s.noteJam.ct s.noteJam.dpl := by
  simp [State.noteJam, hk]

@[simp] theorem State.noteDoorStop_kept (hk : kept c d s.ct s.dpl) (already : Bool) :
    kept c d (s.noteDoorStop already).ct (s.noteDoorStop already).dpl := by
  unfold State.noteDoorStop
  (repeat' split) <;> simp [hk]

@[simp] theorem State.finishClear_kept (hk : kept c d s.ct s.dpl) : kept c d s.finishClear.ct s.finishClear.dpl := by
  unfold State.finishClear
  split <;> simp [hk]

@[simp] theorem State.noteLeaderDone_kept (hk : kept c d s.ct s.dpl) :
    kept c d s.noteLeaderDone.ct s.noteLeaderDone.dpl := by
  unfold State.noteLeaderDone
  dsimp only
  (repeat' split) <;> simp [hk]

@[simp] theorem State.restartNoteWork_kept (hk : kept c d s.ct s.dpl) :
    kept c d s.restartNoteWork.ct s.restartNoteWork.dpl := by
  unfold State.restartNoteWork
  (repeat' split) <;> simp [hk]

@[simp] theorem State.resumeNote_kept (hk : kept c d s.ct s.dpl) : kept c d s.resumeNote.ct s.resumeNote.dpl := by
  unfold State.resumeNote
  dsimp only
  (repeat' split) <;> simp [hk]

@[simp] theorem State.endWarnNote_kept (hk : kept c d s.ct s.dpl) : kept c d s.endWarnNote.ct s.endWarnNote.dpl := by
  unfold State.endWarnNote
  dsimp only
  (repeat' split) <;> simp [hk]

/-- A bundle whose notes missing from one stock another stock takes over (R71). -/
def Bundle.substituted (h k : Handle) (n : Nat) (b : Bundle) : Bundle :=
  { b with parts := (b.parts.map fun q => if q.stock = h then { q with target := q.stacked } else q) ++ [⟨k, n, 0⟩] }

/-- The stock that takes over a part is one that a plan may name (R71). -/
theorem State.onBundle_substituted_spares (s : State) (k : Handle) {e : Candidate} (he : e ∈ s.candidates) (h : Handle)
    (n : Nat) : s.ct.Spares (s.onBundle k (Bundle.substituted h e.handle n)).ct := by
  unfold State.onBundle
  split
  · exact .refl _
  · next b hb =>
    refine Ct.spares_write_bundle hb id fun hg p hp => ?_
    rcases List.mem_append.mp hp with hp | hp
    · obtain ⟨q, hq, rfl⟩ := List.mem_map.mp hp
      exact .inr ⟨q, hq, by split <;> rfl⟩
    · rw [List.mem_singleton.mp hp]
      exact .inl (State.candidate_honours hg he (Nat.zero_le _))

@[simp] theorem State.substitute_kept (hk : kept c d s.ct s.dpl) (h : Handle) (denom : Nat) :
    kept c d (s.substitute h denom).ct (s.substitute h denom).dpl := by
  unfold State.substitute
  split
  · exact hk
  · next k b _ =>
    split
    · simp [hk]
    · next p _ =>
      dsimp only
      split
      · next e he =>
        split
        · have hs := kept_custody hk
            (s.onBundle_substituted_spares k (List.mem_of_find?_eq_some he) h (p.target - p.stacked))
          have hrel := kept_tallied (s := s.onBundle k _) (by simpa using hs) (State.tallyStock_tallied _ h
            (f := fun st => st.release (p.target - p.stacked)) fun _ hd => hd)
          have hres := kept_tallied hrel (State.tallyStock_tallied _ e.handle
            (f := fun st => st.reserve (p.target - p.stacked)) fun _ hd => hd)
          rw [(State.commandPick_frame _).1, (State.commandPick_frame _).2.1]
          exact hres
        · simp [hk]
      · simp [hk]

@[simp] theorem State.failPick_kept (hk : kept c d s.ct s.dpl) : kept c d s.failPick.ct s.failPick.dpl := by
  unfold State.failPick
  dsimp only
  (repeat' split) <;> simp [hk]

@[simp] theorem State.exitDiverter_kept (hk : kept c d s.ct s.dpl) :
    kept c d s.exitDiverter.ct s.exitDiverter.dpl := by
  unfold State.exitDiverter
  dsimp only
  (repeat' split) <;> simp [hk]

@[simp] theorem State.emptyStacker_kept (hk : kept c d s.ct s.dpl) :
    kept c d s.emptyStacker.ct s.emptyStacker.dpl := by
  unfold State.emptyStacker
  dsimp only
  (repeat' split) <;> simp [hk]

@[simp] theorem State.stackerWaitOut_kept (hk : kept c d s.ct s.dpl) :
    kept c d s.stackerWaitOut.ct s.stackerWaitOut.dpl := by
  unfold State.stackerWaitOut
  split <;> simp [hk]

/-! ## The envelope transport -/

@[simp] theorem State.arbitrate_ct (s : State) : s.arbitrate.ct = s.ct := by
  unfold State.arbitrate
  (repeat' split) <;> simp

@[simp] theorem State.followOpen_ct (s : State) (before : Bool) : (s.followOpen before).ct = s.ct := by
  unfold State.followOpen
  (repeat' split) <;> simp

@[simp] theorem State.stopEnvTransport_kept (hk : kept c d s.ct d') (k : DoubtCause) :
    kept c d (s.stopEnvTransport k).ct d' := by
  unfold State.stopEnvTransport
  dsimp only
  (repeat' split) <;> simp [hk]

@[simp] theorem State.envJam_kept (hk : kept c d s.ct d') : kept c d s.envJam.ct d' := by
  simp [State.envJam, hk]

@[simp] theorem State.finishEnvClear_kept (hk : kept c d s.ct d') : kept c d s.finishEnvClear.ct d' := by
  unfold State.finishEnvClear
  split <;> simp [hk]

@[simp] theorem State.dropLeader_kept (hk : kept c d s.ct d') : kept c d s.dropLeader.ct d' := by
  unfold State.dropLeader
  (repeat' split) <;> simp [hk]

@[simp] theorem State.completeReturn_kept (hk : kept c d s.ct d') : kept c d s.completeReturn.ct d' := by
  unfold State.completeReturn
  split <;> simp [hk]

@[simp] theorem State.startReverse_kept (hk : kept c d s.ct d') : kept c d s.startReverse.ct d' := by
  unfold State.startReverse
  dsimp only
  (repeat' split) <;> simp [hk]

@[simp] theorem State.reverseEnv_kept (hk : kept c d s.ct d') : kept c d s.reverseEnv.ct d' := by
  unfold State.reverseEnv
  (repeat' split) <;> simp [hk]

@[simp] theorem State.recheckDestination_kept (hk : kept c d s.ct d') (held : Bool) :
    kept c d (s.recheckDestination held).ct d' := by
  unfold State.recheckDestination
  (repeat' split) <;> simp [hk]

@[simp] theorem State.envItemStart_kept (hk : kept c d s.ct d') : kept c d s.envItemStart.ct d' := by
  unfold State.envItemStart
  dsimp only
  (repeat' split) <;> simp [hk]

@[simp] theorem State.envHandover_kept (hk : kept c d s.ct d') (m : Measure) (atLimit : Bool) :
    kept c d (s.envHandover m atLimit).ct d' := by
  unfold State.envHandover
  dsimp only
  (repeat' split) <;> simp [hk]

@[simp] theorem State.envLeaderDone_kept (hk : kept c d s.ct d') : kept c d s.envLeaderDone.ct d' := by
  unfold State.envLeaderDone
  (repeat' split) <;> simp [hk]

@[simp] theorem State.intakeOut_kept (hk : kept c d s.ct d') : kept c d s.intakeOut.ct d' := by
  unfold State.intakeOut
  dsimp only
  (repeat' split) <;> simp [hk]

@[simp] theorem State.gateReport_kept (hk : kept c d s.ct d') : kept c d s.gateReport.ct d' := by
  unfold State.gateReport
  (repeat' split) <;> simp [hk]

@[simp] theorem State.judgeFill_kept (hk : kept c d s.ct d') (b : BinId) : kept c d (s.judgeFill b).ct d' := by
  have hb := State.onBin_kept hk b fun v => { v with role := .full }
  unfold State.judgeFill
  dsimp only
  (repeat' split) <;> simp [hk, hb]

@[simp] theorem State.capture_kept (hk : kept c d s.ct d') (e : CurrentEnv) (n : Nat) (h : Handle) (b : BinId) :
    kept c d (s.capture e n h b).ct d' := by
  have hc := State.createRecord_kept hk (r := .envelope (e.record n h b)) rfl
  have hb := State.onBin_kept hc b fun v => v.stack (e.record n h b).thickness
  simp [State.capture, hb]

@[simp] theorem State.binReport_kept (hk : kept c d s.ct d') (b : BinId) : kept c d (s.binReport b).ct d' := by
  unfold State.binReport
  (repeat' split) <;> simp [hk]

@[simp] theorem State.recaptureOut_kept (hk : kept c d s.ct d') : kept c d s.recaptureOut.ct d' := by
  unfold State.recaptureOut
  (repeat' split) <;> simp [hk]

@[simp] theorem State.waitOut_kept (hk : kept c d s.ct d') (t : Throat) : kept c d (s.waitOut t).ct d' := by
  unfold State.waitOut
  dsimp only
  (repeat' split) <;> simp [hk]

@[simp] theorem State.throatChange_kept (hk : kept c d s.ct d') (t : Throat) (here : Bool) :
    kept c d (s.throatChange t here).ct d' := by
  unfold State.throatChange
  dsimp only
  (repeat' split) <;> simp [hk]

@[simp] theorem State.restartEnvWork_kept (hk : kept c d s.ct d') : kept c d s.restartEnvWork.ct d' := by
  unfold State.restartEnvWork
  (repeat' split) <;> simp [hk]

@[simp] theorem State.resumeEnv_kept (hk : kept c d s.ct d') : kept c d s.resumeEnv.ct d' := by
  unfold State.resumeEnv
  dsimp only
  (repeat' split) <;> simp [hk]

@[simp] theorem State.warnEnv_kept (hk : kept c d s.ct d') (before : Bool) : kept c d (s.warnEnv before).ct d' := by
  simp [State.warnEnv, hk]

@[simp] theorem State.endWarnEnv_kept (hk : kept c d s.ct d') (before : Bool) :
    kept c d (s.endWarnEnv before).ct d' := by
  unfold State.endWarnEnv
  (repeat' split) <;> simp [hk]

/-! ## The lanes -/

@[simp] theorem State.reportLane_kept (hk : kept c d s.ct d') (l : Lane) : kept c d (s.reportLane l).ct d' := by
  unfold State.reportLane
  (repeat' split) <;> simp [hk]

@[simp] theorem State.takeConsignment_kept (hk : kept c d s.ct s.dpl) (x : Consignment) :
    kept c d (s.takeConsignment x).ct (s.takeConsignment x).dpl := by
  unfold State.takeConsignment
  split <;> simp [hk]

@[simp] theorem State.comeBack_kept (hk : kept c d s.ct d') (x : Consignment) : kept c d (s.comeBack x).ct d' := by
  unfold State.comeBack
  (repeat' split) <;> simp [hk]

@[simp] theorem State.presentConsignment_kept (hk : kept c d s.ct d') (x : Consignment) :
    kept c d (s.presentConsignment x).ct d' := by
  unfold State.presentConsignment
  (repeat' split) <;> simp [hk]

@[simp] theorem State.takeDeposit_kept (hk : kept c d s.ct d') (l : Lane) : kept c d (s.takeDeposit l).ct d' := by
  have hc := State.createRecord_kept hk (r := .transit ⟨l, .inward, 0, .atTeller, .exact⟩) rfl
  simp [State.takeDeposit, hc]

@[simp] theorem State.takeUnseen_kept (hk : kept c d s.ct s.dpl) (b : Bundle) (k : Consignment) :
    kept c d (s.takeUnseen b k).ct (s.takeUnseen b k).dpl := by
  have hp := State.doubtPlan_kept hk b .power
  simp [State.takeUnseen, hp]

@[simp] theorem State.judgeHome_kept (hk : kept c d s.ct s.dpl) (l : Lane) (restart : Bool) :
    kept c d (s.judgeHome l restart).ct (s.judgeHome l restart).dpl := by
  unfold State.judgeHome
  (repeat' split) <;> simp [hk]

@[simp] theorem State.enterHome_kept (hk : kept c d s.ct s.dpl) (l : Lane) (flag : Bool) :
    kept c d (s.enterHome l flag).ct (s.enterHome l flag).dpl := by
  unfold State.enterHome
  split <;> simp [hk]

@[simp] theorem State.enterOut_kept (hk : kept c d s.ct d') (l : Lane) : kept c d (s.enterOut l).ct d' := by
  unfold State.enterOut
  dsimp only
  (repeat' split) <;> simp [hk]

@[simp] theorem State.sendHome_kept (hk : kept c d s.ct s.dpl) (l : Lane) (flag : Bool) :
    kept c d (s.sendHome l flag).ct (s.sendHome l flag).dpl := by
  unfold State.sendHome
  split <;> simp [hk]

@[simp] theorem State.present_kept (hk : kept c d s.ct d') (l : Lane) : kept c d (s.present l).ct d' := by
  simp [State.present, hk]

@[simp] theorem State.retract_kept (hk : kept c d s.ct d') (l : Lane) : kept c d (s.retract l).ct d' := by
  simp [State.retract, hk]

@[simp] theorem State.autoPresent_kept (hk : kept c d s.ct d') (l : Lane) : kept c d (s.autoPresent l).ct d' := by
  unfold State.autoPresent
  split <;> simp [hk]

@[simp] theorem State.motionOut_kept (hk : kept c d s.ct d') (l : Lane) : kept c d (s.motionOut l).ct d' := by
  unfold State.motionOut
  dsimp only
  (repeat' split) <;> simp [hk]

@[simp] theorem State.takeOut_kept (hk : kept c d s.ct d') (l : Lane) : kept c d (s.takeOut l).ct d' := by
  unfold State.takeOut
  dsimp only
  (repeat' split) <;> simp [hk]

@[simp] theorem State.arriveHome_kept (hk : kept c d s.ct s.dpl) (l : Lane) :
    kept c d (s.arriveHome l).ct (s.arriveHome l).dpl := by
  unfold State.arriveHome
  split <;> simp [hk]

@[simp] theorem State.arriveOut_kept (hk : kept c d s.ct d') (l : Lane) : kept c d (s.arriveOut l).ct d' := by
  unfold State.arriveOut
  split <;> simp [hk]

@[simp] theorem State.tellerEmpties_kept (hk : kept c d s.ct d') (x : Consignment) :
    kept c d (s.tellerEmpties x).ct d' := by
  unfold State.tellerEmpties
  (repeat' split) <;> simp [hk]

@[simp] theorem State.trayEmptied_kept (hk : kept c d s.ct s.dpl) (l : Lane) :
    kept c d (s.trayEmptied l).ct (s.trayEmptied l).dpl := by
  unfold State.trayEmptied
  (repeat' split) <;> simp [hk]

@[simp] theorem State.trayChange_kept (hk : kept c d s.ct s.dpl) (l : Lane) (occupied : Bool) :
    kept c d (s.trayChange l occupied).ct (s.trayChange l occupied).dpl := by
  unfold State.trayChange
  (repeat' split) <;> simp [hk]

@[simp] theorem State.lockLane_kept (hk : kept c d s.ct d') (l : Lane) (z : ZoneId) :
    kept c d (s.lockLane l z).ct d' := by
  unfold State.lockLane
  dsimp only
  (repeat' split) <;> simp [hk]

@[simp] theorem State.presentDelivered_kept (hk : kept c d s.ct d') (l : Lane) :
    kept c d (s.presentDelivered l).ct d' := by
  unfold State.presentDelivered
  (repeat' split) <;> simp [hk]

/-- What a lock's end does after the drawer's motion (R102). -/
theorem State.afterLock_kept (hk : kept c d s.ct s.dpl) (l : Lane) :
    kept c d (((s.setLaneFlag l .laneLocked).presentDelivered l).reportLane l).examineQueue.ct
      (((s.setLaneFlag l .laneLocked).presentDelivered l).reportLane l).examineQueue.dpl := by
  have hp := State.presentDelivered_kept (s := s.setLaneFlag l .laneLocked) (by simpa using hk) l
  simp [hp]

@[simp] theorem State.endLock_kept (hk : kept c d s.ct s.dpl) (l : Lane) :
    kept c d (s.endLock l).ct (s.endLock l).dpl := by
  unfold State.endLock
  refine State.afterLock_kept ?_ l
  (repeat' split) <;> simp [hk]

@[simp] theorem State.resetLane_kept (hk : kept c d s.ct s.dpl) (l : Lane) :
    kept c d (s.resetLane l).ct (s.resetLane l).dpl := by
  unfold State.resetLane
  dsimp only
  (repeat' split) <;> simp [hk]

@[simp] theorem State.endWarnLane_kept (hk : kept c d s.ct s.dpl) (l : Lane) :
    kept c d (s.endWarnLane l).ct (s.endWarnLane l).dpl := by
  unfold State.endWarnLane
  dsimp only
  (repeat' split) <;> simp [hk]

/-! ## Zones, holds and grants -/

@[simp] theorem State.holdNotes_kept (hk : kept c d s.ct s.dpl) (z : ZoneId) (already : Bool) :
    kept c d (s.holdNotes z already).ct (s.holdNotes z already).dpl := by
  unfold State.holdNotes
  (repeat' split) <;> simp [hk]

@[simp] theorem State.holdEnvelopes_kept (hk : kept c d s.ct d') (z : ZoneId) :
    kept c d (s.holdEnvelopes z).ct d' := by
  have hm := kept_custody hk s.ct.captureDoubt_spares
  unfold State.holdEnvelopes
  split
  · simp [hm]
  · exact hk

@[simp] theorem State.holdLanes_kept (hk : kept c d s.ct d') (z : ZoneId) : kept c d (s.holdLanes z).ct d' :=
  foldl_custody Lane.all (fun s l hk => by split <;> simp [hk]) hk

@[simp] theorem State.takeHold_kept (hk : kept c d s.ct s.dpl) (z : ZoneId) (already : Bool) :
    kept c d (s.takeHold z already).ct (s.takeHold z already).dpl := by
  have hn := State.holdNotes_kept (s := s.holdLanes z) (by simpa using State.holdLanes_kept hk z) z already
  unfold State.takeHold
  dsimp only
  split <;> simp [hn]

@[simp] theorem State.liftHold_kept (hk : kept c d s.ct s.dpl) (z : ZoneId) :
    kept c d (s.liftHold z).ct (s.liftHold z).dpl := by
  unfold State.liftHold
  split <;> simp [hk]

@[simp] theorem State.releaseHolds_kept (hk : kept c d s.ct s.dpl) (old : Ct) :
    kept c d (s.releaseHolds old).ct (s.releaseHolds old).dpl := by
  unfold State.releaseHolds
  dsimp only
  (repeat' split) <;> simp [hk]

/-- The hold sets that the zones of a change leave (R155, R157). -/
theorem State.writeZones_slots (s : State) (came left : List ZoneId) :
    (left.foldl Ct.dropHold (came.foldl (fun ct z => ct.addHold z s.fitted) s.ct)).slots = s.ct.slots := by
  rw [Ct.foldl_slots left (f := Ct.dropHold) fun _ _ => rfl,
    Ct.foldl_slots came (f := fun ct z => ct.addHold z s.fitted) fun _ _ => rfl]

@[simp] theorem State.writeZones_kept (hk : kept c d s.ct s.dpl) (news : List (ZoneId × Zone)) :
    kept c d (s.writeZones news).ct (s.writeZones news).dpl := by
  have hs := kept_custody hk (Ct.spares_of_slots (s.writeZones_slots (s.enterForce news) (s.leaveForce news)))
  unfold State.writeZones
  dsimp only
  split
  · exact State.invalidateAllQuotes_kept hs
  · exact hs

@[simp] theorem State.putZones_kept (hk : kept c d s.ct s.dpl) (news : List (ZoneId × Zone)) :
    kept c d (s.putZones news).ct (s.putZones news).dpl := by
  have hh := foldl_kept (s.enterForce news)
    (f := fun t z => t.takeHold z (s.ct.holdDispenser != 0 || s.ct.holdReject != 0))
    (fun _ z hk => State.takeHold_kept hk z _) (State.writeZones_kept hk news)
  have hl := foldl_kept (s.leaveForce news) (f := State.liftHold) (fun _ z hk => State.liftHold_kept hk z) hh
  have hr := State.releaseHolds_kept (s := State.followOpen _ s.openCondition) (by simpa using hl) s.ct
  unfold State.putZones
  dsimp only
  split <;> simpa using hr

@[simp] theorem State.putZone_kept (hk : kept c d s.ct s.dpl) (z : ZoneId) (new : Zone) :
    kept c d (s.putZone z new).ct (s.putZone z new).dpl := by
  simp [State.putZone, hk]

@[simp] theorem State.changeLoop_kept (hk : kept c d s.ct s.dpl) (z : ZoneId) (k : LoopClass) :
    kept c d (s.changeLoop z k).ct (s.changeLoop z k).dpl := by
  unfold State.changeLoop
  split <;> simp [hk]

@[simp] theorem State.forcingEvent_kept (hk : kept c d s.ct s.dpl) (l : Lane) (switch : DrawerSwitch)
    (closed : Bool) :
    kept c d (s.forcingEvent l switch closed).ct (s.forcingEvent l switch closed).dpl := by
  simp [State.forcingEvent, hk]

@[simp] theorem State.judgeWindow_kept (hk : kept c d s.ct s.dpl) (z : ZoneId) :
    kept c d (s.judgeWindow z).ct (s.judgeWindow z).dpl := by
  unfold State.judgeWindow
  dsimp only
  (repeat' split) <;> simp [hk]

@[simp] theorem State.tailOut_kept (hk : kept c d s.ct s.dpl) (z : ZoneId) :
    kept c d (s.tailOut z).ct (s.tailOut z).dpl := by
  unfold State.tailOut
  (repeat' split) <;> simp [hk]

@[simp] theorem State.scanChannel_kept (hk : kept c d s.ct s.dpl) (cycle : List ZoneId) (z : ZoneId) :
    kept c d (s.scanChannel cycle z).ct (s.scanChannel cycle z).dpl := by
  unfold State.scanChannel
  dsimp only
  (repeat' split) <;> simp [hk]

@[simp] theorem State.formCycle_kept (hk : kept c d s.ct s.dpl) : kept c d s.formCycle.ct s.formCycle.dpl :=
  foldl_kept _ (fun _ z hk => State.scanChannel_kept hk _ z) hk

@[simp] theorem State.convertLoop_kept (hk : kept c d s.ct s.dpl) (z : ZoneId) (band : LoopClass) :
    kept c d (s.convertLoop z band).ct (s.convertLoop z band).dpl := by
  unfold State.convertLoop
  dsimp only
  (repeat' split) <;> simp [hk]

@[simp] theorem State.convertNext_kept (hk : kept c d s.ct s.dpl) (code : Sample) :
    kept c d (s.convertNext code).ct (s.convertNext code).dpl := by
  unfold State.convertNext
  dsimp only
  (repeat' split) <;> simp [hk]

@[simp] theorem State.enableZones_kept (hk : kept c d s.ct s.dpl) (mask : ZoneSet) (on : Bool) :
    kept c d (s.enableZones mask on).ct (s.enableZones mask on).dpl := by
  simp [State.enableZones, hk]

@[simp] theorem State.armZone_kept (hk : kept c d s.ct s.dpl) (z : ZoneId) :
    kept c d (s.armZone z).ct (s.armZone z).dpl := by
  unfold State.armZone
  dsimp only
  (repeat' split) <;> simp [hk]

@[simp] theorem State.putGrant_kept (hk : kept c d s.ct d') (a : Area) (g : Grant) :
    kept c d (s.putGrant a g).ct d' := by
  simp [State.putGrant, hk]

@[simp] theorem State.endGrant_kept (hk : kept c d s.ct s.dpl) (a : Area) :
    kept c d (s.endGrant a).ct (s.endGrant a).dpl := by
  have hj := foldl_kept (blankedZones a) (f := fun s z => s.judgeWindow z) (fun _ z hk => State.judgeWindow_kept hk z)
    (s := s.onAzu fun z => { z with grants := z.grants.put a Grant.shut }) hk
  unfold State.endGrant
  cases a <;> simp [hj]

@[simp] theorem State.lapse_kept (hk : kept c d s.ct d') (a : Area) : kept c d (s.lapse a).ct d' := by
  unfold State.lapse
  dsimp only
  (repeat' split) <;> simp [hk]

@[simp] theorem State.grantOut_kept (hk : kept c d s.ct s.dpl) (a : Area) :
    kept c d (s.grantOut a).ct (s.grantOut a).dpl := by
  unfold State.grantOut
  dsimp only
  (repeat' split) <;> simp [hk]

@[simp] theorem State.endMotion_kept (hk : kept c d s.ct s.dpl) (l : Lane) (switch : DrawerSwitch) (closed : Bool) :
    kept c d (s.endMotion l switch closed).ct (s.endMotion l switch closed).dpl := by
  unfold State.endMotion
  split <;> simp [hk]

@[simp] theorem State.switchChange_kept (hk : kept c d s.ct s.dpl) (l : Lane) (switch : DrawerSwitch)
    (closed : Bool) :
    kept c d (s.switchChange l switch closed).ct (s.switchChange l switch closed).dpl := by
  unfold State.switchChange
  dsimp only
  (repeat' split) <;> simp [hk]

/-! ## The lanes' requests -/

@[simp] theorem State.presentOwner_kept (hk : kept c d s.ct d') (r : Role) (l : Lane) :
    kept c d (s.presentOwner r l).1.ct d' := by
  simp [State.presentOwner, hk]

@[simp] theorem State.retractOwner_kept (hk : kept c d s.ct d') (r : Role) (l : Lane) :
    kept c d (s.retractOwner r l).1.ct d' := by
  simp [State.retractOwner, hk]

@[simp] theorem State.declareOwner_kept (hk : kept c d s.ct d') (r : Role) (a : Lane × Nat) :
    kept c d (s.declareOwner r a).1.ct d' := by
  have hc := State.createRecord_kept hk (r := .transit ⟨a.1, .out, a.2, .loaded, .exact⟩) rfl
  refine State.unless_custody hk _ ?_
  simp [hc]

@[simp] theorem State.resolveOwner_kept (hk : kept c d s.ct s.dpl) (r : Role) (h : Handle) :
    kept c d (s.resolveOwner r h).1.ct (s.resolveOwner r h).1.dpl := by
  unfold State.resolveOwner
  split
  · exact hk
  · exact State.unless_kept hk _ (by simp [hk])
  · exact State.unless_kept hk _ (by simp [hk])
  · exact hk

@[simp] theorem State.acceptOwner_kept (hk : kept c d s.ct d') (r : Role) (a : Handle × Nat) :
    kept c d (s.acceptOwner r a).1.ct d' := by
  unfold State.acceptOwner
  split
  · exact hk
  · exact State.unless_custody hk _ (by simp [hk])
  · exact hk

@[simp] theorem State.resumeOwner_kept (hk : kept c d s.ct s.dpl) (a0 : Role) (l : Lane) :
    kept c d (s.resumeOwner a0 l).1.ct (s.resumeOwner a0 l).1.dpl := by
  simp [State.resumeOwner, hk]

@[simp] theorem State.resetOwner_kept (hk : kept c d s.ct s.dpl) (a0 : Role) (l : Lane) :
    kept c d (s.resetOwner a0 l).1.ct (s.resetOwner a0 l).1.dpl := by
  simp [State.resetOwner, hk]

/-! ## Plans, commits and the note transport's events -/

@[simp] theorem State.quoteOwner_kept (hk : kept c d s.ct s.dpl) (r : Role) (a : Lane × Nat) :
    kept c d s.ct (s.quoteOwner r a).1.dpl := by
  have hnew (parts : List QuotePart) (hp : s.planAmount a.2 = .ok parts) :
      kept c d s.ct (s.dpl.addQuote a.1 a.2 parts) :=
    kept_addQuote hk a.1 a.2 fun hpl => State.planAmount_honours hpl.gens hp
  unfold State.quoteOwner
  cases hf : firstFailure (s.planChecks r a.1) with
  | some x => rwa [State.unless_of_some hf]
  | none =>
    rw [State.unless_of_none hf]
    split
    · exact hk
    · next parts hp => exact hnew parts hp

@[simp] theorem State.commitOwner_kept (hk : kept c d s.ct s.dpl) (r : Role) (a : Lane × Nat) :
    kept c d (s.commitOwner r a).1.ct (s.commitOwner r a).1.dpl := by
  refine State.unless_kept hk _ ?_
  split
  · exact hk
  · next q hq =>
    obtain ⟨hmem, hv, htag, hlane⟩ := Dpl.committable_eq_some hq
    have hc := State.commitPlan_kept hk a.1 q.amount (parts := q.parts) fun hp => hp.quotes q hmem hv
    obtain ⟨q', hmem', hs'⟩ : ∃ q' ∈ (s.commitPlan a.1 q.amount q.parts).1.dpl.liveQuotes, q'.standing = q.standing := by
      have hst : q.standing ∈ (s.commitPlan a.1 q.amount q.parts).1.dpl.standing :=
        (s.commitPlan_alike a.1 q.amount q.parts).1 ▸ List.mem_map_of_mem hmem
      exact List.mem_map.mp hst
    simp only [Quote.standing, Prod.mk.injEq] at hs'
    exact State.examineQueue_kept (kept_freeQuote hc ⟨q', hmem', hs'.1.trans htag, hs'.2.1.trans hlane⟩)

@[simp] theorem State.dispenseOwner_kept (hk : kept c d s.ct s.dpl) (r : Role) (a : Lane × Nat) :
    kept c d (s.dispenseOwner r a).1.ct (s.dispenseOwner r a).1.dpl := by
  refine State.unless_kept hk _ ?_
  split
  · exact hk
  · next parts hp =>
    exact State.examineQueue_kept (State.commitPlan_kept hk _ _ fun h => State.planAmount_honours h.gens hp)

@[simp] theorem State.dispenseMixOwner_kept (hk : kept c d s.ct s.dpl) (r : Role) (a : Lane × PerPos Nat) :
    kept c d (s.dispenseMixOwner r a).1.ct (s.dispenseMixOwner r a).1.dpl := by
  refine State.unless_kept hk _ ?_
  split
  · exact hk
  · next parts hp =>
    exact State.examineQueue_kept (State.commitPlan_kept hk _ _ fun h => State.planMix_honours h.gens hp)

@[simp] theorem State.cancelOwner_kept (hk : kept c d s.ct s.dpl) (r : Role) (h : Handle) :
    kept c d (s.cancelOwner r h).1.ct (s.cancelOwner r h).1.dpl := by
  unfold State.cancelOwner
  (repeat' split) <;> simp [hk]

@[simp] theorem State.noteSignal_kept (hk : kept c d s.ct s.dpl) (ref : Option ItemStock) (g : GaugeSignal) :
    kept c d (s.noteSignal ref g).ct (s.noteSignal ref g).dpl := by
  unfold State.noteSignal
  (repeat' split) <;> simp [hk]

@[simp] theorem State.noteLeaderPulse_kept (hk : kept c d s.ct s.dpl) :
    kept c d s.noteLeaderPulse.ct s.noteLeaderPulse.dpl := by
  unfold State.noteLeaderPulse
  dsimp only
  (repeat' split) <;> simp [hk]

@[simp] theorem State.notePulse_kept (hk : kept c d s.ct s.dpl) (a b : Nat) :
    kept c d (s.notePulse a b).ct (s.notePulse a b).dpl := by
  have hp := foldl_kept (s.gmu.note.pulse .note (s.set.gauge .note) a b s.startingStock).2
    (f := State.noteSignal (s.gmu.note.item.bind (·.stock))) (fun s g hk => State.noteSignal_kept hk _ g)
    (s := (s.onNtc fun n => { n with stallTimer := .running Config.stallLimit }).onGmu fun g =>
      { g with note := (s.gmu.note.pulse .note (s.set.gauge .note) a b s.startingStock).1 }) hk
  unfold State.notePulse
  dsimp only
  split
  · split
    · exact hp
    · exact State.noteLeaderPulse_kept hp
  · exact hk

@[simp] theorem State.noteEnds_kept (hk : kept c d s.ct s.dpl) (m : Measure) :
    kept c d (s.noteEnds m).ct (s.noteEnds m).dpl := by
  unfold State.noteEnds
  (repeat' split) <;> simp [hk]

@[simp] theorem State.noteAtLimit_kept (hk : kept c d s.ct s.dpl) : kept c d s.noteAtLimit.ct s.noteAtLimit.dpl := by
  unfold State.noteAtLimit
  (repeat' split) <;> simp [hk]

@[simp] theorem State.noteLeaderOver_kept (hk : kept c d s.ct s.dpl) (empty : Bool) :
    kept c d (s.noteLeaderOver empty).ct (s.noteLeaderOver empty).dpl := by
  unfold State.noteLeaderOver
  split <;> simp [hk]

@[simp] theorem State.bundleArrives_kept (hk : kept c d s.ct s.dpl) (l : Lane) :
    kept c d (s.bundleArrives l).ct (s.bundleArrives l).dpl := by
  unfold State.bundleArrives
  split
  · next h b _ _ =>
    have hd := State.setBundleState_kept (s := s.closeGate) (by simpa using hk) h (st := .delivered) nofun
    split
    · simp [hd]
    · exact hk
  · exact hk

/-! ## The envelope transport's events and claims -/

@[simp] theorem State.envSignal_kept (hk : kept c d s.ct d') (g : GaugeSignal) : kept c d (s.envSignal g).ct d' := by
  cases g <;> simp [State.envSignal, hk]

@[simp] theorem State.envLeaderPulse_kept (hk : kept c d s.ct d') : kept c d s.envLeaderPulse.ct d' := by
  unfold State.envLeaderPulse
  dsimp only
  (repeat' split) <;> simp [hk]

@[simp] theorem State.envPulse_kept (hk : kept c d s.ct d') (a b : Nat) : kept c d (s.envPulse a b).ct d' := by
  have hp := foldl_custody (s.gmu.envelope.pulse .envelope (s.set.gauge .envelope) a b none).2
    (f := State.envSignal) (fun s g hk => State.envSignal_kept hk g)
    (s := (s.onEcc fun e => { e with stallTimer := .running Config.stallLimit }).onGmu fun g =>
      { g with envelope := (s.gmu.envelope.pulse .envelope (s.set.gauge .envelope) a b none).1 }) hk
  unfold State.envPulse
  dsimp only
  split
  · split
    · exact hp
    · exact State.envLeaderPulse_kept hp
  · exact hk

@[simp] theorem State.envEnds_kept (hk : kept c d s.ct d') (m : Measure) : kept c d (s.envEnds m).ct d' := by
  unfold State.envEnds
  (repeat' split) <;> simp [hk]

@[simp] theorem State.envAtLimit_kept (hk : kept c d s.ct d') (thickness : Nat) (skew : Nat) :
    kept c d (s.envAtLimit thickness skew).ct d' := by
  unfold State.envAtLimit
  (repeat' split) <;> simp [hk]

@[simp] theorem State.envLeaderOver_kept (hk : kept c d s.ct d') : kept c d s.envLeaderOver.ct d' := by
  unfold State.envLeaderOver
  split <;> simp [hk]

@[simp] theorem State.clearEnvOwner_kept (hk : kept c d s.ct d') (a0 : Role) (a1 : Unit) :
    kept c d (s.clearEnvOwner a0 a1).1.ct d' := by
  simp [State.clearEnvOwner, hk]

@[simp] theorem State.claimOwner_kept (hk : kept c d s.ct d') (r : Role) (h : Handle) :
    kept c d (s.claimOwner r h).1.ct d' := by
  unfold State.claimOwner
  split
  · exact hk
  · next e he =>
    have hw := kept_custody hk (Ct.spares_write (r := .envelope { e with claimed := true }) he rfl rfl)
    (repeat' split) <;> first | exact hk | exact hw
  · exact hk

@[simp] theorem State.releaseOwner_kept (hk : kept c d s.ct d') (r : Role) (h : Handle) :
    kept c d (s.releaseOwner r h).1.ct d' := by
  unfold State.releaseOwner
  split
  · exact hk
  · next e he =>
    split
    · dsimp only
      split
      · exact kept_custody hk (Ct.spares_write he rfl rfl)
      · exact kept_custody hk (Ct.spares_retire (Ct.stock?_eq_none he rfl))
    · exact hk
  · exact hk

/-! ## Cassettes, the vault and the bins -/

@[simp] theorem State.loadStock_kept (hk : kept c d s.ct d') (st : Stock) : kept c d (s.loadStock st).1.ct d' := by
  have hc := State.createRecord_kept hk (r := .stock st) rfl
  unfold State.loadStock
  dsimp only
  split <;> simp [hc]

@[simp] theorem State.loadOwner_kept (hk : kept c d s.ct d') (a0 : Role) (e : Declaration) :
    kept c d (s.loadOwner a0 e).1.ct d' := by
  simp [State.loadOwner, hk]

/-- A stock that no bundle names is retired, and the quotes that name it become INVALID (R52, R124). -/
theorem State.unloaded_plansHold {h : Handle} {st : Stock} (hp : PlansHold never never s.ct s.dpl)
    (hs : s.ct.stock? h = some st) (hb : s.ct.stockBusy h st = false) :
    PlansHold never never (s.ct.retire h) (s.invalidateQuotes h).dpl := by
  have hx := Ct.stock?_eq_some.mp hs
  have hother {k : Handle} {n : Nat} (hne : k ≠ h) (hh : s.ct.honours k n) : (s.ct.retire h).honours k n := by
    obtain ⟨st', hst', hrest⟩ := hh
    exact ⟨st', by rw [Ct.stock?_retire hx, if_neg hne, hst'], hrest⟩
  have hbun {k : Handle} {b : Bundle} (hk : (s.ct.retire h).bundle? k = some b) : s.ct.bundle? k = some b := by
    rw [Ct.bundle?_retire hx] at hk
    split at hk
    · cases hk
    · exact hk
  have hl : s.dpl.Lapsed (s.invalidateQuotes h).dpl := Dpl.lapse_lapsed _ _
  refine ⟨Ct.generationsLegal_retire hp.gens h, fun q hq hv p hpq => ?_, fun k b hk hst => ?_, fun k b hk hst p hpb => ?_⟩
  · exact hother (s.invalidateQuotes_spares h q hq hv p hpq) (hp.quotes q (hl.quotes q hq hv) hv p hpq)
  · rw [hl.queue]
    exact hp.queued k b (hbun hk) hst
  · refine .inl (hother ?_ ((hp.parts k b (hbun hk) hst p hpb).resolve_right id))
    rintro rfl
    rw [Ct.stockBusy, Bool.or_eq_false_iff, List.any_eq_false] at hb
    refine hb.2 (k, b) (List.mem_filterMap.mpr ⟨(k, .bundle b),
      (Ct.mem_live hp.gens k _).mpr (Ct.bundle?_eq_some.mp (hbun hk)), rfl⟩) ?_
    exact List.any_eq_true.mpr ⟨p, hpb, by simp⟩

@[simp] theorem State.unloadOwner_kept (hk : kept c d s.ct s.dpl) (r : Role) (p : CassettePos) :
    kept c d (s.unloadOwner r p).1.ct (s.unloadOwner r p).1.dpl := by
  unfold State.unloadOwner
  split
  · split
    · exact hk
    · next h st hst =>
      cases hf : firstFailure [(s.ct.holdsOf (.stock st) != 0, .refuse .held), (s.ct.stockBusy h st, .refuse .busy)] with
      | some x => rwa [State.unless_of_some hf]
      | none =>
        rw [State.unless_of_none hf]
        have hbusy := firstFailure_eq_none.mp hf (s.ct.stockBusy h st, .refuse .busy) (by simp)
        exact kept_of hk (Dpl.lapse_alike _ _).quotesLegal fun hp =>
          State.unloaded_plansHold hp (Ct.stock?_stockAt hp.gens hst) hbusy
  · exact hk

@[simp] theorem State.reconcileOwner_kept (hk : kept c d s.ct s.dpl) (r : Role) (a : CassettePos × Nat) :
    kept c d (s.reconcileOwner r a).1.ct (s.reconcileOwner r a).1.dpl := by
  unfold State.reconcileOwner
  split
  · exact hk
  · split
    · split
      · exact hk
      · next h st _ =>
        have ht := kept_tallied hk (s.tallyStock_tallied h (f := fun st => st.reconcile a.2) fun _ hd => by cases hd)
        refine State.unless_kept hk _ ?_
        simpa using State.invalidateQuotes_kept ht h
    · exact hk

@[simp] theorem State.presenceOpens_kept (hk : kept c d s.ct s.dpl) (p : CassettePos) :
    kept c d (s.presenceOpens p).ct (s.presenceOpens p).dpl := by
  unfold State.presenceOpens
  dsimp only
  (repeat' split) <;> simp [hk]

@[simp] theorem State.reconcileRvOwner_kept (hk : kept c d s.ct s.dpl) (r : Role) (counted : Nat) :
    kept c d (s.reconcileRvOwner r counted).1.ct (s.reconcileRvOwner r counted).1.dpl := by
  unfold State.reconcileRvOwner
  split
  · split
    · exact hk
    · refine State.unless_kept hk _ ?_
      dsimp only
      split <;> simp [hk]
  · exact hk

@[simp] theorem State.retireVault_kept (hk : kept c d s.ct d') : kept c d s.retireVault.ct d' := by
  unfold State.retireVault
  split
  · next hv =>
    exact kept_custody hk fun hg => Ct.spares_retire (Ct.stock?_eq_none (Ct.find_vault hg hv) rfl) hg
  · exact hk

@[simp] theorem State.emptyVaultOwner_kept (hk : kept c d s.ct s.dpl) (r : Role) (u : Unit) :
    kept c d (s.emptyVaultOwner r u).1.ct (s.emptyVaultOwner r u).1.dpl := by
  have hc := State.createRecord_kept (State.retireVault_kept hk) (r := .vault ⟨0, s.set.rvCapacity, .exact⟩) rfl
  refine State.unless_kept hk _ (State.examineQueue_kept ?_)
  simpa using hc

theorem State.collect_kept (hk : kept c d s.ct d') {b : BinId} {h : Handle} {v : Bin} (hv : s.ct.binAt b = some (h, v)) :
    kept c d (s.collect h v).ct d' := by
  have hc := kept_custody hk (Ct.collect_spares hv)
  unfold State.collect
  dsimp only
  rw [State.followOpen_ct]
  split
  · exact State.switchBins_kept (s := s.onCt fun ct => (ct.emptyBin h).retire h) hc v.bin hc
  · exact hc

@[simp] theorem State.collectOwner_kept (hk : kept c d s.ct d') (r : Role) (b : BinId) :
    kept c d (s.collectOwner r b).1.ct d' := by
  unfold State.collectOwner
  split
  · split
    · exact hk
    · next hv => exact State.unless_custody hk _ (State.collect_kept hk hv)
  · exact hk

@[simp] theorem State.insertOwner_kept (hk : kept c d s.ct d') (r : Role) (b : BinId) :
    kept c d (s.insertOwner r b).1.ct d' := by
  have hc := State.createRecord_kept hk (r := .bin (s.newBin b)) rfl
  refine State.unless_custody hk _ ?_
  simp [hc]

/-! ## Settings -/

@[simp] theorem State.evalMarks_kept (hk : kept c d s.ct d') : kept c d s.evalMarks.ct d' := by
  have hm := kept_custody hk (s.ct.markLow_spares s.set.lowMark)
  unfold State.evalMarks
  dsimp only
  split <;> simpa using hm

@[simp] theorem State.settingEffect_kept (hk : kept c d s.ct s.dpl) (x : Setting) (old : Settings) (before : Bool) :
    kept c d (s.settingEffect x old before).ct (s.settingEffect x old before).dpl := by
  unfold State.settingEffect
  split <;> simp [hk]

@[simp] theorem State.writeSetting_kept (hk : kept c d s.ct s.dpl) (x : Setting) (v : Nat) :
    kept c d (s.writeSetting x v).ct (s.writeSetting x v).dpl := by
  simp [State.writeSetting, hk]

@[simp] theorem State.writeSettingOwner_kept (hk : kept c d s.ct s.dpl) (r : Role) (a : Byte × Byte × Half) :
    kept c d (s.writeSettingOwner r a).1.ct (s.writeSettingOwner r a).1.dpl := by
  unfold State.writeSettingOwner
  (repeat' split) <;> simp [hk]

/-! ## The zones' requests -/

@[simp] theorem State.restoreOwner_kept (hk : kept c d s.ct s.dpl) (a0 : Role) (z : ZoneId) :
    kept c d (s.restoreOwner a0 z).1.ct (s.restoreOwner a0 z).1.dpl := by
  simp [State.restoreOwner, hk]

@[simp] theorem State.enableOwner_kept (hk : kept c d s.ct s.dpl) (on : Bool) (a1 : Role) (mask : Half) :
    kept c d (s.enableOwner on a1 mask).1.ct (s.enableOwner on a1 mask).1.dpl := by
  simp [State.enableOwner, hk]

@[simp] theorem State.delegationOwner_kept (hk : kept c d s.ct s.dpl) (a0 : Role) (a : ZoneId × Byte) :
    kept c d (s.delegationOwner a0 a).1.ct (s.delegationOwner a0 a).1.dpl := by
  simp [State.delegationOwner, hk]

@[simp] theorem State.testOwner_kept (hk : kept c d s.ct s.dpl) (a0 : Role) (z : ZoneId) :
    kept c d (s.testOwner a0 z).1.ct (s.testOwner a0 z).1.dpl := by
  unfold State.testOwner
  dsimp only
  (repeat' split) <;> simp [hk]

@[simp] theorem State.armOwner_kept (hk : kept c d s.ct s.dpl) (a0 : Role) (z : ZoneId) :
    kept c d (s.armOwner a0 z).1.ct (s.armOwner a0 z).1.dpl := by
  unfold State.armOwner
  split <;> simp [hk]

@[simp] theorem State.injectOwner_kept (hk : kept c d s.ct s.dpl) (a0 : Role) (z : ZoneId) :
    kept c d (s.injectOwner a0 z).1.ct (s.injectOwner a0 z).1.dpl := by
  simp [State.injectOwner, hk]

@[simp] theorem State.openGrantOwner_kept (hk : kept c d s.ct d') (op : Nat) (a1 : Role) (a : Area) :
    kept c d (s.openGrantOwner op a1 a).1.ct d' := by
  simp [State.openGrantOwner, hk]

@[simp] theorem State.confirmGrantOwner_kept (hk : kept c d s.ct d') (op : Nat) (a1 : Role) (a : Area) :
    kept c d (s.confirmGrantOwner op a1 a).1.ct d' := by
  simp [State.confirmGrantOwner, hk]

@[simp] theorem State.closeGrantOwner_kept (hk : kept c d s.ct s.dpl) (a0 : Role) (a : Area) :
    kept c d (s.closeGrantOwner a0 a).1.ct (s.closeGrantOwner a0 a).1.dpl := by
  simp [State.closeGrantOwner, hk]

/-! ## Power -/

theorem mem_foldr_insertByAge (l : List (Handle × Nat)) (x : Handle × Nat) : x ∈ l.foldr insertByAge [] ↔ x ∈ l := by
  have hins (y : Handle × Nat) (ys : List (Handle × Nat)) : x ∈ insertByAge y ys ↔ x = y ∨ x ∈ ys := by
    induction ys with
    | nil => simp [insertByAge]
    | cons z zs ih =>
      rw [insertByAge]
      split
      · exact List.mem_cons
      · rw [List.mem_cons, ih, List.mem_cons, or_left_comm]
  induction l with
  | nil => rfl
  | cons y ys ih => simp only [List.foldr_cons, hins, ih, List.mem_cons]

/-- The queue that a power-on rebuilds holds every QUEUED bundle (R63). -/
theorem State.mem_rebuildQueue (hg : s.ct.generationsLegal = true) {h : Handle} {b : Bundle}
    (hb : s.ct.bundle? h = some b) (hq : b.state = .queued) : h ∈ s.rebuildQueue.dpl.queue := by
  refine List.mem_map.mpr ⟨(h, bundleAge s.dpl.sequence b.sequence), ?_, rfl⟩
  refine (mem_foldr_insertByAge _ _).mpr (List.mem_map.mpr ⟨(h, b), List.mem_filter.mpr ⟨?_, by simpa using hq⟩, rfl⟩)
  exact List.mem_filterMap.mpr ⟨(h, .bundle b), (Ct.mem_live hg h _).mpr (Ct.bundle?_eq_some.mp hb), rfl⟩

/-- A power-on frees the quotes and rebuilds the queue (R46, R63). -/
theorem State.rebuildQueue_dark_kept (hk : kept c d s.ct s.dpl) (inputs : Pins) :
    kept c d (s.dark inputs).rebuildQueue.ct (s.dark inputs).rebuildQueue.dpl := by
  refine kept_of hk (fun _ => (Dpl.Alike.of_quotes rfl rfl).quotesLegal Dpl.lost_quotesLegal) fun hp => ?_
  have hnone : (s.dark inputs).rebuildQueue.dpl.liveQuotes = [] := Dpl.lost_liveQuotes
  refine ⟨hp.gens, fun q hq => ?_, fun h b hb hq => ?_, hp.parts⟩
  · rw [hnone] at hq
    exact absurd hq List.not_mem_nil
  · exact .inl (State.mem_rebuildQueue (s := s.dark inputs) hp.gens hb hq)

@[simp] theorem State.failInTransport_kept (hk : kept c d s.ct s.dpl) :
    kept c d s.failInTransport.ct s.failInTransport.dpl :=
  foldl_kept _ (fun _ p hk => State.failBundle_kept hk p.1 p.2 _ _ _) hk

@[simp] theorem State.failInFlight_kept (hk : kept c d s.ct d') : kept c d s.failInFlight.ct d' := by
  unfold State.failInFlight
  split <;> simp [hk]

@[simp] theorem State.restartChanges_kept (hk : kept c d s.ct s.dpl) :
    kept c d s.restartChanges.ct s.restartChanges.dpl := by
  unfold State.restartChanges
  dsimp only
  (repeat' split) <;> simp [hk]

@[simp] theorem State.presenceFound_kept (hk : kept c d s.ct s.dpl) (p : CassettePos) :
    kept c d (s.presenceFound p).ct (s.presenceFound p).dpl := by
  unfold State.presenceFound
  split <;> simp [hk]

@[simp] theorem State.readPresence_kept (hk : kept c d s.ct s.dpl) :
    kept c d s.readPresence.ct s.readPresence.dpl :=
  foldl_kept _ (fun _ p hk => by split <;> simp [hk]) hk

theorem State.restartRetained_dark_kept (hk : kept c d s.ct s.dpl) (inputs : Pins) :
    kept c d (s.dark inputs).restartRetained.ct (s.dark inputs).restartRetained.dpl := by
  have hr := State.restartChanges_kept (State.rebuildQueue_dark_kept hk inputs)
  unfold State.restartRetained
  dsimp only
  refine State.readPresence_kept ?_
  simpa using hr

@[simp] theorem State.startUnlocked_kept (hk : kept c d s.ct s.dpl) (l : Lane) :
    kept c d (s.startUnlocked l).ct (s.startUnlocked l).dpl := by
  unfold State.startUnlocked
  dsimp only
  (repeat' split) <;> simp [hk]

@[simp] theorem State.startLanes_kept (hk : kept c d s.ct s.dpl) : kept c d s.startLanes.ct s.startLanes.dpl :=
  foldl_kept _ (fun _ l hk => by (repeat' split) <;> simp [hk]) hk

@[simp] theorem State.startBlocks_kept (hk : kept c d s.ct s.dpl) : kept c d s.startBlocks.ct s.startBlocks.dpl := by
  simp [State.startBlocks, hk]

theorem State.clearBackup_dark_ct (s : State) (inputs : Pins) : (s.clearBackup.dark inputs).ct = Ct.lost := rfl

theorem State.clearBackup_dark_dpl (s : State) (inputs : Pins) : (s.clearBackup.dark inputs).dpl = Dpl.lost := rfl

@[simp] theorem State.powerOn_kept (hk : kept c d s.ct s.dpl) (retained : Bool) (inputs : Pins) :
    kept c d (s.powerOn retained inputs).ct (s.powerOn retained inputs).dpl := by
  have hlost : kept c d Ct.lost Dpl.lost :=
    kept_of hk (fun _ => Dpl.lost_quotesLegal) fun _ => plansHold_lost Dpl.lost_liveQuotes
  unfold State.powerOn
  split
  · have hr := State.startBlocks_kept (State.restartRetained_dark_kept hk inputs)
    simpa using hr
  · have hl := State.startBlocks_kept (s := (s.clearBackup.dark inputs).setWallFlag .backupLost)
      (by simpa [State.clearBackup_dark_ct, State.clearBackup_dark_dpl] using hlost)
    simpa using hl

@[simp] theorem State.warn_kept (hk : kept c d s.ct d') : kept c d s.warn.ct d' := by
  unfold State.warn
  split <;> simp [hk]

@[simp] theorem State.endWarn_kept (hk : kept c d s.ct s.dpl) : kept c d s.endWarn.ct s.endWarn.dpl := by
  have hn := State.endWarnNote_kept (s := s.onPins fun p => { p with warning := false }) hk
  have hl := foldl_kept Lane.all (f := State.endWarnLane) (fun _ l hk => State.endWarnLane_kept hk l) hn
  unfold State.endWarn
  dsimp only
  split
  · simp [hl]
  · exact hk

/-! ## A millisecond -/

@[simp] theorem State.expireNote_kept (hk : kept c d s.ct s.dpl) : kept c d s.expireNote.ct s.expireNote.dpl := by
  unfold State.expireNote
  dsimp only
  iterate 2 refine whenDue_kept ?_ _ _ fun s hk => State.noteJam_kept hk
  refine whenDue_kept ?_ _ _ fun s hk => State.stackerWaitOut_kept hk
  refine whenDue_kept ?_ _ _ fun s hk => State.failPick_kept hk
  iterate 2 refine whenDue_kept ?_ _ _ fun s hk => State.noteJam_kept hk
  exact whenDue_kept hk _ _ fun s hk => by simpa using hk

@[simp] theorem State.expireLane_kept (hk : kept c d s.ct s.dpl) (l : Lane) :
    kept c d (s.expireLane l).ct (s.expireLane l).dpl := by
  unfold State.expireLane
  dsimp only
  refine whenDue_kept (whenDue_kept hk _ _ fun s hk => ?_) _ _ fun s hk => ?_ <;> simp [hk]

@[simp] theorem State.expireEnv_kept (hk : kept c d s.ct s.dpl) : kept c d s.expireEnv.ct s.expireEnv.dpl := by
  unfold State.expireEnv
  dsimp only
  iterate 7 refine whenDue_kept ?_ _ _ fun s hk => by simp [hk]
  exact hk

@[simp] theorem State.expireGrant_kept (hk : kept c d s.ct s.dpl) (a : Area) :
    kept c d (s.expireGrant a).ct (s.expireGrant a).dpl :=
  whenDue_kept hk _ _ fun _ hk => State.grantOut_kept (by simpa using State.lapse_kept hk a) a

@[simp] theorem State.expireAzu_kept (hk : kept c d s.ct s.dpl) : kept c d s.expireAzu.ct s.expireAzu.dpl := by
  unfold State.expireAzu
  dsimp only
  refine foldl_kept _ (fun s a hk => State.expireGrant_kept hk a) ?_
  iterate 5 refine whenDue_kept ?_ _ _ fun s hk => State.tailOut_kept hk _
  exact hk

@[simp] theorem State.tick_kept (hk : kept c d s.ct s.dpl) : kept c d s.tick.ct s.tick.dpl :=
  State.expireAzu_kept (State.expireEnv_kept
    (foldl_kept Lane.all (fun _ l hk => State.expireLane_kept hk l) (State.expireNote_kept (s := s.pass) hk)))

end Sys2Proof.Machine
end

section
/-! PROOF. Every step keeps the quote table legal and the plans honourable (R51, R52, R53, R56, R62): each command's
next state is one of the operations above applied to a state in which both laws are kept. -/

open Sys2Proof Sys2Proof.Machine

namespace Sys2Proof.Machine

variable {s : State} {c : Ct} {d : Dpl}

/-- A command that answers a next state keeps both laws. -/
def KeepsLaws (c : Ct) (d : Dpl) (o : Host.Outcome State Fault Refusal) : Prop :=
  ∀ t, o = .next t → kept c d t.ct t.dpl

theorem keepsLaws_next {t : State} (ht : kept c d t.ct t.dpl) : KeepsLaws c d (.next t) :=
  fun _ h => Host.Outcome.next.inj h ▸ ht

theorem keepsLaws_fault (f : Fault) : KeepsLaws c d (.fault f) := fun _ h => by simp at h

theorem keepsLaws_request {α : Type} (hk : kept c d s.ct s.dpl) {i : Instr} {code : Nat} {auth : Byte} {op : Half}
    {sel : Option α} {owner : State → Role → α → State × Reply}
    (ho : ∀ r a, kept c d (owner s r a).1.ct (owner s r a).1.dpl) :
    KeepsLaws c d (.next (s.inTurn i (s.request code auth op sel owner))) :=
  keepsLaws_next (State.inTurn_kept hk i (State.request_kept hk code auth op sel ho))

/-- Every row of the table but the two that take a request that came as bytes. -/
theorem exec_keepsLaws_of_row (hk : kept c d s.ct s.dpl) {i : Instr} (hi : takesRaw i = false) :
    KeepsLaws c d (exec i s) := by
  cases i with
  | byteReceived | responseSent => cases hi
  | unknownRequest auth op code =>
    show KeepsLaws c d (execUnknownRequest auth op code s)
    unfold execUnknownRequest
    split
    · exact keepsLaws_next (State.inTurn_kept hk _ (by simpa using hk))
    · exact keepsLaws_fault _
  | itemEnd t m =>
    show KeepsLaws c d (execItemEnd t m s)
    unfold execItemEnd
    split
    · refine keepsLaws_next ?_
      cases t <;> simp [hk]
    · exact keepsLaws_fault _
  | envelopeLengthLimit t k =>
    show KeepsLaws c d (execEnvelopeLengthLimit t k s)
    unfold execEnvelopeLengthLimit
    split
    · exact keepsLaws_next (by simp [hk])
    · exact keepsLaws_fault _
  | loopClassChange z k =>
    show KeepsLaws c d (execLoopClassChange z k s)
    unfold execLoopClassChange
    split
    · refine keepsLaws_next ?_
      split <;> simp [hk]
    · exact keepsLaws_fault _
  | blankingTailExpiry z =>
    show KeepsLaws c d (execBlankingTailExpiry z s)
    unfold execBlankingTailExpiry
    split
    · exact keepsLaws_next (State.tailOut_kept hk z)
    · exact keepsLaws_fault _
  | encoderPulse t a b =>
    refine keepsLaws_next ?_
    cases t <;> simp [hk]
  | frameGapTimeout | notePresenceLimit | pickFailure | stackerDumpTimeout | chuteTimeout
  | diverterExitTimeout | noteEncoderStall | presenceSwitchOpen | envelopePresenceLimit | forwardTimeout
  | returnTimeout | envelopeEncoderStall =>
    refine keepsLaws_next ?_
    split <;> simp [hk]
  | powerOn | powerWarning | powerWarningEnd | noteRestartLeaderStart | envelopeRestartLeaderStart | lineBreak
  | badFrame | requestOverflow | noteLeaderEnd | noteLengthLimit | diverterExit | stackerEmpty
  | stackerWaitExpiry | bundleArrival | presenceSwitchClose | drawerArriveOut | drawerArriveHome
  | drawerMotionTimeout | takeTimerExpiry | traySensorChange | drawerSwitchChange | throatSensorChange
  | envelopeLeaderEnd | intakeTimeout | gatePassage | imprinterReport | binEntry | returnWaitExpiry
  | recaptureTimeout | scanCycleStart | proposalLapse | grantExpiry | loopConversion =>
    refine keepsLaws_next ?_
    simp [hk]
  | _ =>
    refine keepsLaws_request hk fun r a => ?_
    simp [hk]

/-- Every step keeps both laws. -/
theorem step_kept {t : State} (ht : step s = .next t) : kept s.ct s.dpl t.ct t.dpl := by
  have hlink {u : State} (hu : s.LinkOnly u) : kept s.ct s.dpl u.ct u.dpl := by
    obtain ⟨p, q, hu⟩ := hu
    rw [hu]
    exact kept_refl s.ct s.dpl
  rcases step_cases ht with ht | ht | ⟨u, i, hu, hi, ht⟩
  · rw [ht]
    exact State.tick_kept (kept_refl s.ct s.dpl)
  · exact hlink ht
  · exact exec_keepsLaws_of_row (hlink hu) hi t ht

end Sys2Proof.Machine

/-- Settles O10. -/
theorem quotesStayLegal : Obligations.QuotesStayLegal := by
  unfold Obligations.QuotesStayLegal
  intro s t hs ht
  exact (Machine.kept_iff.mp (Machine.step_kept ht)).table hs

/-- Settles O13. -/
theorem plansStayHonourable : Obligations.PlansStayHonourable := by
  unfold Obligations.PlansStayHonourable
  intro s t hs ht
  rw [Machine.State.plansHonourable_iff] at hs ⊢
  exact (Machine.kept_iff.mp (Machine.step_kept ht)).plans hs

end

section
/-! PROOF. QUOTE's outcomes (R48, R49, R51) and the examination of the present queue (R57, R58, R59). -/

open Sys2Proof Sys2Proof.Machine

namespace Sys2Proof.Machine

variable {s : State}

/-! ## A plan by amount and its refusals -/

theorem State.planAmount_of_search {amount : Nat} {counts : List Nat} (h1 : 1 ≤ amount) (h2 : amount ≤ 9999999)
    (hs : searchPlan s.candidates amount s.set.bundleLimit = some counts) :
    s.planAmount amount = .ok (planParts s.candidates counts) := by
  rw [State.planAmount, if_neg (by omega), hs]

theorem State.planAmount_of_bad {amount : Nat} (h : amount = 0 ∨ 9999999 < amount) :
    s.planAmount amount = .error ⟨.badRequest, .empty⟩ := by
  rw [State.planAmount, if_pos h]

/-- Where no vector pays, the refusal carries the greedy maximum (R49). -/
theorem State.planAmount_of_no_plan {amount : Nat} (h1 : 1 ≤ amount) (h2 : amount ≤ 9999999)
    (hno : ∀ v, ¬ pays s.candidates v amount s.set.bundleLimit) :
    s.planAmount amount = .error ⟨.noPlan,
      .noPlan (if greedyMaximum s.candidates s.set.bundleLimit < amount then .overLimit else .noCombination) none
        (greedyMaximum s.candidates s.set.bundleLimit)⟩ := by
  have hs : searchPlan s.candidates amount s.set.bundleLimit = none := by
    cases hs : searchPlan s.candidates amount s.set.bundleLimit with
    | none => rfl
    | some v => exact absurd (searchPlan_pays hs) (hno v)
  rw [State.planAmount, if_neg (by omega), hs]

/-! ## QUOTE -/

section Quote
variable {auth : Byte} {op : Half} {r : Role} {lane : Byte} {l : Lane} {amount : Quad}

/-- QUOTE for a lane that the requester may name and that is not locked is its owner's, after its checks (R51). -/
theorem exec_quote (ha : s.admits 0x20 auth op r) (hl : laneOf lane = some l) (hf : s.fitted l = true)
    (hn : r.mayName l = true) (hk : s.locked l = false) :
    exec (.quote auth op lane amount) s = .next
      (match s.planAmount amount.toNat with
        | .error e => s.respond 0x20 ⟨e.status, e.detail⟩
        | .ok parts => (s.onDpl fun d => d.addQuote l amount.toNat parts).respond 0x20
            (.ok (.quote s.dpl.nextTag l amount.toNat (s.planFigures parts) (parts.map (·.count)).sum
              (s.planQuality parts)))) := by
  have hchecks : firstFailure (s.planChecks r l) = none := by
    rw [firstFailure_eq_none]
    simp [State.planChecks, State.laneChecks, hf, hn, hk]
  have hreq := State.request_of_admits (owner := State.quoteOwner) (sel := (laneOf lane).map fun l => (l, amount.toNat))
    ha (by rw [hl]; rfl)
  show Host.Outcome.next (s.inTurn (.quote auth op lane amount) (s.request 0x20 auth op _ State.quoteOwner)) = _
  rw [State.inTurn_of_free ha.1, hreq, State.quoteOwner, State.unless_of_none hchecks]
  cases s.planAmount amount.toNat <;> rfl

theorem exec_quote_of_error (ha : s.admits 0x20 auth op r) (hl : laneOf lane = some l) (hf : s.fitted l = true)
    (hn : r.mayName l = true) (hk : s.locked l = false) {e : Refuse} (he : s.planAmount amount.toNat = .error e) :
    exec (.quote auth op lane amount) s = .next (s.answered 0x20 e.status e.detail) := by
  rw [exec_quote ha hl hf hn hk, he]
  rfl

theorem exec_quote_of_ok (ha : s.admits 0x20 auth op r) (hl : laneOf lane = some l) (hf : s.fitted l = true)
    (hn : r.mayName l = true) (hk : s.locked l = false) {parts : List QuotePart}
    (hp : s.planAmount amount.toNat = .ok parts) :
    exec (.quote auth op lane amount) s = .next
      ((s.onDpl fun d => d.addQuote l amount.toNat parts).respond 0x20
        (.ok (.quote s.dpl.nextTag l amount.toNat (s.planFigures parts) (parts.map (·.count)).sum
          (s.planQuality parts)))) := by
  rw [exec_quote ha hl hf hn hk, hp]

end Quote

/-! ## The quote table with a new quote -/

variable {d : Dpl}

theorem Dpl.mem_quotesOf {l : Lane} {q : Quote} : q ∈ d.quotesOf l ↔ q ∈ d.liveQuotes ∧ q.lane = l := by
  rw [Dpl.quotesOf, List.mem_filter, decide_eq_true_iff]

theorem Quote.aged_of_ne {l : Lane} {e : Quote} (h : e.lane ≠ l) : e.aged l = e := by
  rw [Quote.aged, if_neg h]

theorem Quote.aged_newer {l : Lane} {e : Quote} (h : e.lane = l) : (e.aged l).newer = false := by
  rw [Quote.aged, if_pos h]

/-- A new quote leaves the quotes of the other lanes as they were (R51). -/
theorem Dpl.addQuote_quotesOf (h : d.quotesLegal = true) (l : Lane) (amount : Nat) (parts : List QuotePart) {k : Lane}
    (hk : k ≠ l) : (d.addQuote l amount parts).quotesOf k = d.quotesOf k := by
  obtain ⟨pre, out, post, hold, hnew, -, hout⟩ := d.addQuote_liveQuotes h l amount parts
  have haged (es : List Quote) : (es.map (·.aged l)).filter (·.lane = k) = es.filter (·.lane = k) := by
    induction es with
    | nil => rfl
    | cons e es ih =>
      rw [List.map_cons, List.filter_cons, List.filter_cons, ih, Quote.aged_lane]
      by_cases he : e.lane = k
      · rw [Quote.aged_of_ne (he ▸ hk)]
      · simp [he]
  have houtk : out.filter (·.lane = k) = [] := by
    rcases hout with ⟨rfl, -⟩ | ⟨e, rfl, he, -⟩
    · rfl
    · simp [he, hk.symm]
  rw [Dpl.quotesOf, Dpl.quotesOf, hold, hnew]
  simp [haged, houtk, hk.symm]

/-- What QUOTE's table holds: the new quote, and its lane's other quote OLDER (R51). -/
theorem Dpl.addQuote_newer (l : Lane) (amount : Nat) (parts : List QuotePart) :
    ∀ q ∈ (d.addQuote l amount parts).quotesOf l, q.tag ≠ d.nextTag → q.newer = false := by
  intro q hq ht
  obtain ⟨hmem, hlane⟩ := Dpl.mem_quotesOf.mp hq
  rcases Dpl.mem_addQuote hmem with rfl | ⟨e, -, rfl⟩
  · exact absurd rfl ht
  · exact Quote.aged_newer (by simpa using hlane)

end Sys2Proof.Machine

/-- Settles O38. -/
theorem quoteStoresThePlan : Obligations.QuoteStoresThePlan := by
  unfold Obligations.QuoteStoresThePlan
  intro s auth op r lane l amount ha hl hf hn hk hlegal
  have herror {e : Refuse} (he : s.planAmount amount.toNat = .error e) :=
    exec_quote_of_error ha hl hf hn hk he
  refine ⟨fun parts hp => ?_, fun e he => herror he, fun counts h1 h2 hs => State.planAmount_of_search h1 h2 hs,
    fun hbad => herror (State.planAmount_of_bad hbad),
    fun h1 h2 hno _ => herror (State.planAmount_of_no_plan h1 h2 hno)⟩
  obtain ⟨pre, out, post, -, hnew, -, -⟩ := s.dpl.addQuote_liveQuotes hlegal l amount.toNat parts
  refine ⟨_, exec_quote_of_ok ha hl hf hn hk hp, rfl, ?_, Dpl.addQuote_newer l amount.toNat parts,
    fun k hkl => Dpl.addQuote_quotesOf hlegal l amount.toNat parts hkl, rfl, rfl, rfl⟩
  show _ ∈ (s.dpl.addQuote l amount.toNat parts).liveQuotes
  rw [hnew]
  exact List.mem_append_right _ List.mem_cons_self

end

section
/-! PROOF. The examination of the present queue (R57, R58, R59), the note transport IDLE. -/

open Sys2Proof Sys2Proof.Machine

namespace Sys2Proof.Machine

variable {s : State} {h : Handle}

/-! ## Handing a bundle over -/

theorem State.find_setBundleState {b : Bundle} (hb : s.ct.bundle? h = some b) (st : BundleState) :
    (s.setBundleState h st).ct.find h = some (.bundle { b with state := st }) := by
  rw [State.setBundleState, State.onBundle, hb]
  exact (Ct.find_write _ (Ct.bundle?_eq_some.mp hb) _ h).trans (if_pos rfl)

/-- The state in which a bundle that is taken from the queue finds the note transport (R57). -/
def State.taken (s : State) (h : Handle) : State :=
  ((s.onDpl fun d => { d with queue := d.queue.filter (· != h), rvBlocked := false }).setBundleState h .picking).onNtc
    fun n => { n with current := some h, pendingEnd := none, pick := none, lastPick := none, path := [] }

theorem State.enterNoteLeader_current (s : State) : s.enterNoteLeader.ntc.current = s.ntc.current := by
  unfold State.enterNoteLeader State.startNoteLeader State.startNoteMotor
  (repeat' split) <;> simp

theorem State.takeFromQueue_eq (s : State) (h : Handle) : s.takeFromQueue h = (s.taken h).enterNoteLeader := rfl

theorem State.taken_pauseInForce (s : State) (h : Handle) : (s.taken h).pauseInForce = s.pauseInForce := by
  simp [State.pauseInForce, State.zoneInForce, State.taken]

theorem State.takeFromQueue_find {b : Bundle} (hb : s.ct.bundle? h = some b) :
    (s.takeFromQueue h).ct.find h = some (.bundle { b with state := .picking }) := by
  rw [State.takeFromQueue_eq, (State.enterNoteLeader_frame _).1]
  exact State.find_setBundleState (s := s.onDpl _) hb .picking

theorem State.takeFromQueue_dpl (s : State) (h : Handle) :
    (s.takeFromQueue h).dpl = { s.dpl with queue := s.dpl.queue.filter (· != h), rvBlocked := false } := by
  simp [State.takeFromQueue]

theorem State.takeFromQueue_current (s : State) (h : Handle) : (s.takeFromQueue h).ntc.current = some h := by
  rw [State.takeFromQueue_eq, State.enterNoteLeader_current]
  rfl

/-- With no pause and no warning the leader runs (R66). -/
theorem State.takeFromQueue_runs (hp : s.pauseInForce = false) (hw : s.pins.warning = false) (h : Handle) :
    (s.takeFromQueue h).ntc.state = .leader ∧ (s.takeFromQueue h).ntc.motor = true
      ∧ (s.takeFromQueue h).gmu.note = Gauge.runStart := by
  have hw' : (s.taken h).pins.warning = false := by simpa [State.taken] using hw
  rw [State.takeFromQueue_eq, State.enterNoteLeader_of_free (by rwa [State.taken_pauseInForce]) hw',
    State.startNoteLeader_eq]
  exact ⟨rfl, rfl, rfl⟩

/-- Under a pause the leader waits in PAUSED (R82). -/
theorem State.takeFromQueue_waits (hp : s.pauseInForce = true) (h : Handle) :
    (s.takeFromQueue h).ntc.state = .paused ∧ (s.takeFromQueue h).ntc.saved = some .leader := by
  rw [State.takeFromQueue_eq, State.enterNoteLeader, State.taken_pauseInForce, hp]
  exact ⟨rfl, rfl⟩

/-! ## The examination -/

theorem State.examineQueue_of_found (hi : s.ntc.state = .idle)
    (hf : s.dpl.queue.find? (s.entryMeets fun b => s.mayStart b && s.spaceFor b) = some h) :
    s.examineQueue = s.takeFromQueue h := by
  rw [State.examineQueue, if_pos hi, hf]

theorem State.examineQueue_of_blocked (hi : s.ntc.state = .idle)
    (hf : s.dpl.queue.find? (s.entryMeets fun b => s.mayStart b && s.spaceFor b) = none)
    (ha : s.dpl.queue.any (s.entryMeets s.mayStart) = true) :
    s.examineQueue = if s.dpl.rvBlocked then s.onDpl fun d => { d with rvBlocked := true }
      else (s.onDpl fun d => { d with rvBlocked := true }).setWallFlag .rvFull := by
  simp only [State.examineQueue, if_pos hi, hf, ha, if_true]

theorem State.examineQueue_of_idle (hi : s.ntc.state = .idle)
    (hf : s.dpl.queue.find? (s.entryMeets fun b => s.mayStart b && s.spaceFor b) = none)
    (ha : s.dpl.queue.any (s.entryMeets s.mayStart) = false) :
    s.examineQueue = s.onDpl fun d => { d with rvBlocked := false } := by
  simp only [State.examineQueue, if_pos hi, hf, ha, Bool.false_eq_true, if_false]

theorem State.entryMeets_eq_true {p : Bundle → Bool} :
    s.entryMeets p h = true ↔ ∃ b, s.ct.bundle? h = some b ∧ p b = true := by
  unfold State.entryMeets
  cases s.ct.bundle? h <;> simp

theorem State.warning_of_mayStart {b : Bundle} (hm : s.mayStart b = true) : s.pins.warning = false := by
  simp only [State.mayStart, Bool.and_eq_true, Bool.not_eq_true'] at hm
  exact hm.2

end Sys2Proof.Machine

/-- Settles O41. -/
theorem queueIsExaminedOldestFirst : Obligations.QueueIsExaminedOldestFirst := by
  unfold Obligations.QueueIsExaminedOldestFirst
  intro s hi ready
  refine ⟨fun before h after hq hbefore hh => ?_, fun hnone => ?_⟩
  · have hf : s.dpl.queue.find? ready = some h := by
      rw [hq, List.find?_append, List.find?_eq_none.mpr fun k hk => by simp [hbefore k hk], Option.none_or,
        List.find?_cons_of_pos hh]
    obtain ⟨b, hb, hm⟩ := Machine.State.entryMeets_eq_true.mp hh
    have hw := Machine.State.warning_of_mayStart (Bool.and_eq_true_iff.mp hm).1
    rw [Machine.State.examineQueue_of_found hi hf, Machine.State.takeFromQueue_dpl]
    exact ⟨⟨b, hb, Machine.State.takeFromQueue_find hb⟩, s.takeFromQueue_current h,
      fun hp => Machine.State.takeFromQueue_runs hp hw h, fun hp => Machine.State.takeFromQueue_waits hp h,
      by simp, rfl⟩
  · have hf : s.dpl.queue.find? ready = none := List.find?_eq_none.mpr fun k hk => by simp [hnone k hk]
    cases ha : s.dpl.queue.any (s.entryMeets s.mayStart) with
    | true =>
      rw [Machine.State.examineQueue_of_blocked hi hf ha]
      split
      · next hb => exact ⟨rfl, rfl, rfl, by simpa using ha, fun hno => by simp [hb] at hno⟩
      · exact ⟨by simp, by simp, by simp, by simpa using ha, fun _ _ => Machine.State.setWallFlag_wallFlag _ _⟩
    | false =>
      rw [Machine.State.examineQueue_of_idle hi hf ha]
      exact ⟨rfl, rfl, rfl, by simpa using ha, fun _ hno => by cases hno⟩

end

section
/-! PROOF. What a power-on with the backup retained does to custody (R94, R126, R176, R177): the changes of single
records that it is made of, and what every one of them keeps. The generations need not be legal here, so that a record
in a slot of generation 0, which no handle names, is live as well. -/

open Sys2Proof Sys2Proof.Machine

namespace Sys2Proof.Machine

/-! ## Records without a legal generation -/

/-- The slot of a live record's handle holds it. -/
theorem Ct.slot_of_mem_live {c : Ct} {h : Handle} {r : Record} (hm : (h, r) ∈ c.live) :
    ∃ sl, c.slots[handleSlot h]? = some sl ∧ sl.gen = handleGen h ∧ sl.record = some r := by
  simp only [Ct.live, List.mem_filterMap, Option.map_eq_some_iff, Prod.mk.injEq, Prod.exists,
    List.mk_mem_zipIdx_iff_getElem?, Vector.getElem?_toList] at hm
  obtain ⟨sl, i, hsl, r', hr, rfl, rfl⟩ := hm
  have hi : i < 256 := (Vector.getElem?_eq_some_iff.mp hsl).1
  exact ⟨sl, by rw [handleSlot_handleOf _ hi, hsl], by simp, hr⟩

/-- A live record is the only one that its handle can name. -/
theorem Ct.eq_of_mem_live {c : Ct} {h : Handle} {r r' : Record} (hm : (h, r) ∈ c.live) (hf : c.find h = some r') :
    r = r' := by
  obtain ⟨sl, hsl, -, hr⟩ := Ct.slot_of_mem_live hm
  obtain ⟨sl', hsl', -, -, hr'⟩ := (c.find_eq_some h r').mp hf
  rw [hsl] at hsl'
  cases hsl'
  exact Option.some.inj (hr.symm.trans hr')

theorem Ct.mem_live_of_find {c : Ct} {h : Handle} {r : Record} (hf : c.find h = some r) : (h, r) ∈ c.live := by
  obtain ⟨sl, hsl, hg, -, hr⟩ := (c.find_eq_some h r).mp hf
  simp only [Ct.live, List.mem_filterMap, Option.map_eq_some_iff, Prod.mk.injEq, Prod.exists,
    List.mk_mem_zipIdx_iff_getElem?, Vector.getElem?_toList]
  exact ⟨sl, handleSlot h, hsl, r, hr, handle_ext (by simp [hg]) (handleSlot_handleOf _ (handleSlot_lt h)), rfl⟩

theorem Ct.mem_bundles_of_bundle? {c : Ct} {h : Handle} {b : Bundle} (hb : c.bundle? h = some b) : (h, b) ∈ c.bundles :=
  List.mem_filterMap.mpr ⟨(h, .bundle b), Ct.mem_live_of_find (Ct.bundle?_eq_some.mp hb), rfl⟩

theorem Ct.eq_of_mem_bundles {c : Ct} {h : Handle} {b b' : Bundle} (hm : (h, b) ∈ c.bundles)
    (hb : c.bundle? h = some b') : b = b' := by
  obtain ⟨⟨k, r⟩, hmem, hr⟩ := List.mem_filterMap.mp hm
  cases r with
  | bundle x =>
    cases hr
    exact Record.bundle.inj (Ct.eq_of_mem_live hmem (Ct.bundle?_eq_some.mp hb))
  | _ => cases hr

/-- After a creation a handle names the new record or what it named before. -/
theorem Ct.find_create_sub (c : Ct) (r : Record) {k : Handle} {x : Record} (hx : (c.create r).1.find k = some x) :
    x = r ∨ c.find k = some x := by
  cases hf : c.freeSlot with
  | none =>
    rw [Ct.create_of_full c hf] at hx
    exact .inr hx
  | some i =>
    obtain ⟨sl, hsl, -, -⟩ := (c.freeSlot_eq_some i).mp hf
    have hi : i < 256 := (Vector.getElem?_eq_some_iff.mp hsl).1
    obtain ⟨sl', hsl', hg, h0, hr⟩ := (Ct.find_eq_some _ k x).mp hx
    simp only [Ct.create, hf, hsl] at hsl'
    by_cases hki : i = handleSlot k
    · subst hki
      rw [Vector.getElem?_setIfInBounds_self, if_pos hi] at hsl'
      cases hsl'
      exact .inl (Option.some.inj hr).symm
    · rw [Vector.getElem?_setIfInBounds_ne hki] at hsl'
      exact .inr ((c.find_eq_some k x).mpr ⟨sl', hsl', hg, h0, hr⟩)

/-! ## The changes of custody at a power-on -/

/-- A record's change at a power-on: a DOUBTFUL stock stays DOUBTFUL, a bundle stays in its lane and is in no transport,
and of the transits the outbound ones alone change. -/
inductive Record.Settles : Record → Record → Prop
  | stock {st st' : Stock} (h : st.quality.isDoubtful = true → st'.quality.isDoubtful = true) :
      Record.Settles (.stock st) (.stock st')
  | vault (v v' : Vault) : Record.Settles (.vault v) (.vault v')
  | bin (v v' : Bin) : Record.Settles (.bin v) (.bin v')
  | bundle {b b' : Bundle} (hl : b'.lane = b.lane) (ht : b'.inTransport = false) : Record.Settles (.bundle b) (.bundle b')
  | transit {t : Transit} (t' : Transit) (h : t.outbound = true) : Record.Settles (.transit t) (.transit t')

/-- A customer's deposit found at a power-on (R94). -/
def Record.deposit (l : Lane) : Record := .transit ⟨l, .inward, 0, .atTeller, .exact⟩

/-- The changes of the custody table at a power-on. -/
inductive Ct.Settles : Ct → Ct → Prop
  | refl (c : Ct) : Ct.Settles c c
  | trans {c c' c'' : Ct} (h : Ct.Settles c c') (h' : Ct.Settles c' c'') : Ct.Settles c c''
  | write {c : Ct} {k : Handle} {r r' : Record} (hf : c.find k = some r) (hr : r.Settles r') : Ct.Settles c (c.write k r')
  | retire {c : Ct} {k : Handle} {b : Bundle} (hb : c.bundle? k = some b) (o : LastOutcome) :
      Ct.Settles c (({ c with last := c.last.put b.lane (some o) } : Ct).retire k)
  | collect {c : Ct} {k : Handle} {t : Transit} (ht : c.find k = some (.transit t)) (ho : t.outbound = true) :
      Ct.Settles c (c.retire k)
  | deposit (c : Ct) (l : Lane) : Ct.Settles c (c.create (Record.deposit l)).1

/-! ## What such a change keeps -/

theorem Ct.bundle?_retire_last {c : Ct} {h : Handle} {b : Bundle} (hb : c.bundle? h = some b)
    {last : PerLane (Option LastOutcome)} (k : Handle) :
    (({ c with last := last } : Ct).retire h).bundle? k = if k = h then none else c.bundle? k :=
  Ct.bundle?_retire (c := { c with last := last }) (x := .bundle b) (Ct.bundle?_eq_some.mp hb) k

theorem Ct.stock?_retire_last {c : Ct} {h : Handle} {b : Bundle} (hb : c.bundle? h = some b)
    {last : PerLane (Option LastOutcome)} (k : Handle) :
    (({ c with last := last } : Ct).retire h).stock? k = if k = h then none else c.stock? k :=
  Ct.stock?_retire (c := { c with last := last }) (x := .bundle b) (Ct.bundle?_eq_some.mp hb) k

/-- A handle that still names a bundle named one of that lane, and the same one if it is in the transport. -/
theorem Ct.Settles.bundle? {c c' : Ct} (h : c.Settles c') {k : Handle} {b : Bundle} (hb : c'.bundle? k = some b) :
    ∃ b₀, c.bundle? k = some b₀ ∧ b₀.lane = b.lane ∧ (b.inTransport = true → b₀ = b) := by
  induction h generalizing b with
  | refl => exact ⟨b, hb, rfl, fun _ => rfl⟩
  | trans _ _ ih ih' =>
    obtain ⟨b₁, hb₁, hl₁, ht₁⟩ := ih' hb
    obtain ⟨b₀, hb₀, hl₀, ht₀⟩ := ih hb₁
    refine ⟨b₀, hb₀, hl₀.trans hl₁, fun ht => ?_⟩
    have he := ht₁ ht
    exact (ht₀ (he ▸ ht)).trans he
  | write hf hr =>
    rw [Ct.bundle?_write hf] at hb
    split at hb
    · next hk =>
      subst hk
      cases hr with
      | bundle hl ht =>
        cases hb
        exact ⟨_, Ct.bundle?_eq_some.mpr hf, hl.symm, fun hin => by rw [ht] at hin; cases hin⟩
      | _ => cases hb
    · exact ⟨b, hb, rfl, fun _ => rfl⟩
  | retire hk o =>
    rw [Ct.bundle?_retire_last hk] at hb
    split at hb
    · cases hb
    · exact ⟨b, hb, rfl, fun _ => rfl⟩
  | collect ht =>
    rw [Ct.bundle?_retire ht] at hb
    split at hb
    · cases hb
    · exact ⟨b, hb, rfl, fun _ => rfl⟩
  | deposit c l =>
    rcases Ct.find_create_sub c (Record.deposit l) (Ct.bundle?_eq_some.mp hb) with he | hf
    · cases he
    · exact ⟨b, Ct.bundle?_eq_some.mpr hf, rfl, fun _ => rfl⟩

/-- The stock that a handle names, if any, is DOUBTFUL. -/
def Ct.DoubtedAt (c : Ct) (k : Handle) : Prop := ∀ st, c.stock? k = some st → st.quality.isDoubtful = true

theorem Ct.Settles.doubtedAt {c c' : Ct} (h : c.Settles c') {k : Handle} (hd : c.DoubtedAt k) : c'.DoubtedAt k := by
  induction h with
  | refl => exact hd
  | trans _ _ ih ih' => exact ih' (ih hd)
  | write hf hr =>
    intro st hst
    rw [Ct.stock?_write hf] at hst
    split at hst
    · next hk =>
      subst hk
      cases hr with
      | stock hq =>
        cases hst
        exact hq (hd _ (Ct.stock?_eq_some.mpr hf))
      | _ => cases hst
    · exact hd st hst
  | retire hk o =>
    intro st hst
    rw [Ct.stock?_retire_last hk] at hst
    split at hst
    · cases hst
    · exact hd st hst
  | collect ht =>
    intro st hst
    rw [Ct.stock?_retire ht] at hst
    split at hst
    · cases hst
    · exact hd st hst
  | deposit c l =>
    intro st hst
    rcases Ct.find_create_sub c (Record.deposit l) (Ct.stock?_eq_some.mp hst) with he | hf
    · cases he
    · exact hd st (Ct.stock?_eq_some.mpr hf)

/-- A handle is spent: its slot's generation is past it, and what the slot holds no change of a power-on retires. -/
def Ct.Spent (c : Ct) (h : Handle) : Prop :=
  ∃ sl, c.slots[handleSlot h]? = some sl ∧ sl.gen ≠ handleGen h
    ∧ ∀ r, sl.record = some r → ∃ t, r = .transit t ∧ t.outbound = false

theorem Ct.Spent.find {c : Ct} {h : Handle} (hs : c.Spent h) : c.find h = none := by
  obtain ⟨sl, hsl, hg, -⟩ := hs
  simp only [Ct.find, hsl]
  exact if_neg fun hc => hg hc.1

/-- A handle that names another kind of record has another slot. -/
theorem Ct.Spent.slot_ne {c : Ct} {h k : Handle} {r : Record} (hs : c.Spent h) (hf : c.find k = some r)
    (hr : ∀ t, r = .transit t → t.outbound = true) : handleSlot k ≠ handleSlot h := by
  intro he
  obtain ⟨sl, hsl, -, hrec⟩ := hs
  obtain ⟨sl', hsl', -, -, hr'⟩ := (c.find_eq_some k r).mp hf
  rw [he, hsl] at hsl'
  cases hsl'
  obtain ⟨t, rfl, ht⟩ := hrec r hr'
  rw [hr t rfl] at ht
  cases ht

theorem Ct.Spent.write {c : Ct} {h k : Handle} (hs : c.Spent h) (hne : handleSlot k ≠ handleSlot h) (r : Record) :
    (c.write k r).Spent h := by
  obtain ⟨sl, hsl, hrest⟩ := hs
  refine ⟨sl, ?_, hrest⟩
  unfold Ct.write
  split
  · exact hsl
  · exact (Vector.getElem?_setIfInBounds_ne hne).trans hsl

theorem Ct.Spent.retire {c : Ct} {h k : Handle} (hs : c.Spent h) (hne : handleSlot k ≠ handleSlot h) :
    (c.retire k).Spent h := by
  obtain ⟨sl, hsl, hrest⟩ := hs
  refine ⟨sl, ?_, hrest⟩
  unfold Ct.retire
  split
  · exact hsl
  · exact (Vector.getElem?_setIfInBounds_ne hne).trans hsl

theorem Ct.Spent.deposit {c : Ct} {h : Handle} (hs : c.Spent h) (l : Lane) : (c.create (Record.deposit l)).1.Spent h := by
  cases hf : c.freeSlot with
  | none => rwa [Ct.create_of_full c hf]
  | some i =>
    obtain ⟨sl', hsl', -, -⟩ := (c.freeSlot_eq_some i).mp hf
    have hi : i < 256 := (Vector.getElem?_eq_some_iff.mp hsl').1
    obtain ⟨sl, hsl, hg, hrec⟩ := hs
    simp only [Ct.create, hf, hsl']
    by_cases he : i = handleSlot h
    · subst he
      rw [hsl] at hsl'
      cases hsl'
      refine ⟨⟨sl'.gen, some (Record.deposit l)⟩, by rw [Vector.getElem?_setIfInBounds_self, if_pos hi], hg, ?_⟩
      intro r hr
      exact ⟨_, (Option.some.inj hr).symm, rfl⟩
    · exact ⟨sl, (Vector.getElem?_setIfInBounds_ne he).trans hsl, hg, hrec⟩

theorem Ct.Settles.spent {c c' : Ct} (h : c.Settles c') {k : Handle} (hs : c.Spent k) : c'.Spent k := by
  induction h with
  | refl => exact hs
  | trans _ _ ih ih' => exact ih' (ih hs)
  | write hf hr =>
    refine hs.write (hs.slot_ne hf ?_) _
    cases hr <;> grind
  | retire hk o => exact Ct.Spent.retire hs (hs.slot_ne (Ct.bundle?_eq_some.mp hk) nofun)
  | collect ht ho => exact hs.retire (hs.slot_ne ht fun _ he => Record.transit.inj he ▸ ho)
  | deposit c l => exact hs.deposit l

/-- A retirement spends the handle (R3). -/
theorem Ct.spent_retire {c : Ct} {h : Handle} {r : Record} (hf : c.find h = some r) : (c.retire h).Spent h := by
  refine ⟨⟨nextGen (handleGen h), none⟩, ?_, ?_, nofun⟩
  · simp only [Ct.retire, hf]
    rw [Vector.getElem?_setIfInBounds_self, if_pos (handleSlot_lt h)]
  · show nextGen (handleGen h) ≠ handleGen h
    unfold nextGen
    split <;> bv_omega

theorem Ct.write_last (c : Ct) (h : Handle) (r : Record) : (c.write h r).last = c.last := by
  unfold Ct.write
  split <;> rfl

theorem Ct.retire_last (c : Ct) (h : Handle) : (c.retire h).last = c.last := by
  unfold Ct.retire
  split <;> rfl

theorem Ct.create_last (c : Ct) (r : Record) : (c.create r).1.last = c.last := by
  unfold Ct.create
  (repeat' split) <;> rfl

/-- A lane in which no handle names a bundle keeps its last outcome. -/
theorem Ct.Settles.last {c c' : Ct} (h : c.Settles c') {l : Lane} (hl : ∀ k b, c.bundle? k = some b → b.lane ≠ l) :
    c'.last.get l = c.last.get l := by
  induction h with
  | refl => rfl
  | trans h _ ih ih' =>
    refine (ih' fun k b hb => ?_).trans (ih hl)
    obtain ⟨b₀, hb₀, hlane, -⟩ := h.bundle? hb
    exact hlane ▸ hl k b₀ hb₀
  | write => rw [Ct.write_last]
  | retire hk o => rw [Ct.retire_last]; exact PerLane.get_put_other _ _ (hl _ _ hk).symm
  | collect => rw [Ct.retire_last]
  | deposit => rw [Ct.create_last]

end Sys2Proof.Machine
end

section
/-! PROOF. The operations of a power-on with the backup retained (R85, R94, R127, R176, R177): each of them is made of
the changes that settle custody, and leaves the quote table, the note transport, the inputs and the settings. -/

open Sys2Proof Sys2Proof.Machine

namespace Sys2Proof.Machine

variable {s t u : State}

/-- Custody settles, and nothing changes of the quotes that stand, the note transport, the inputs and the settings. -/
structure State.Settles (s t : State) : Prop where
  ct : s.ct.Settles t.ct
  dpl : s.dpl.Alike t.dpl
  ntc : t.ntc = s.ntc
  pins : t.pins = s.pins
  set : t.set = s.set

theorem State.Settles.refl (s : State) : s.Settles s := ⟨.refl _, .refl _, rfl, rfl, rfl⟩

theorem State.Settles.trans (h : s.Settles t) (h' : t.Settles u) : s.Settles u :=
  ⟨h.ct.trans h'.ct, h.dpl.trans h'.dpl, h'.ntc.trans h.ntc, h'.pins.trans h.pins, h'.set.trans h.set⟩

/-- A change of none of these. -/
theorem State.Settles.of_same (hc : t.ct = s.ct) (hd : t.dpl = s.dpl) (hn : t.ntc = s.ntc) (hp : t.pins = s.pins)
    (hs : t.set = s.set) : s.Settles t := ⟨hc ▸ .refl _, hd ▸ .refl _, hn, hp, hs⟩

/-- A change of custody alone. -/
theorem State.Settles.of_ct (hc : s.ct.Settles t.ct) (hd : t.dpl = s.dpl) (hn : t.ntc = s.ntc) (hp : t.pins = s.pins)
    (hs : t.set = s.set) : s.Settles t := ⟨hc, hd ▸ .refl _, hn, hp, hs⟩

theorem foldl_settles {α : Type} {f : State → α → State} (l : List α) (hf : ∀ (s : State) a, s.Settles (f s a)) (s : State) :
    s.Settles (l.foldl f s) := by
  induction l generalizing s with
  | nil => exact .refl s
  | cons a l ih => exact (hf s a).trans (ih _)

/-! ## Stocks -/

/-- A change of a stock that leaves a DOUBTFUL one DOUBTFUL. -/
def KeepsDoubt (f : Stock → Stock) : Prop := ∀ st, st.quality.isDoubtful = true → (f st).quality.isDoubtful = true

theorem keepsDoubt_worsen (k : DoubtCause) : KeepsDoubt fun st => st.worsen (.doubtful k) :=
  fun st _ => Quality.isDoubtful_worse_doubtful st.quality k

theorem State.putStock_settles (s : State) {h : Handle} {old new : Stock} (hs : s.ct.stock? h = some old)
    (hq : old.quality.isDoubtful = true → new.quality.isDoubtful = true) : s.Settles (s.putStock h new) := by
  refine ⟨?_, (s.putStock_lapsed h new).alike, by simp, by simp, by simp⟩
  rw [State.putStock_ct hs]
  exact .write (Ct.stock?_eq_some.mp hs) (.stock (by rwa [Stock.evalLow_quality]))

theorem State.tallyStock_settles (s : State) (h : Handle) {f : Stock → Stock} (hf : KeepsDoubt f) :
    s.Settles (s.tallyStock h f) := by
  unfold State.tallyStock
  split
  · exact .refl s
  · next old hs => exact s.putStock_settles hs (hf old)

theorem State.releaseParts_settles (s : State) (parts : List Part) : s.Settles (s.releaseParts parts) :=
  foldl_settles parts (fun s p => s.tallyStock_settles p.stock (f := fun st => st.release (p.target - p.stacked))
    fun _ hd => hd) s

theorem State.moveStacked_settles (s : State) (parts : List Part) {move : Stock → Nat → Stock}
    (hm : ∀ n, KeepsDoubt fun st => move st n) : s.Settles (s.moveStacked parts move) :=
  foldl_settles parts (fun s p => s.tallyStock_settles p.stock (hm p.stacked)) s

/-! ## A bundle's end -/

/-- The outcome that a bundle's end records (R25). -/
def State.outcome (s : State) (h : Handle) (b : Bundle) (e : Ending) : LastOutcome :=
  ⟨h, e, b.amount, match e with
    | .taken | .handed => b.stackedSum
    | _ => 0, s.ct.bundleQuality b⟩

theorem State.retireBundle_of_some {h : Handle} {b : Bundle} (hb : s.ct.bundle? h = some b) (e : Ending) :
    (s.retireBundle h e).ct
      = ({ s.ct with last := s.ct.last.put b.lane (some (s.outcome h b e)) } : Ct).retire h := by
  simp only [State.retireBundle, hb, (State.setLaneFlag_frame _ _ _).1, State.onCt_ct]
  rfl

theorem State.retireBundle_settles (s : State) (h : Handle) (e : Ending) : s.Settles (s.retireBundle h e) := by
  refine .of_ct ?_ (by simp) (by simp) (by simp) (by simp)
  cases hb : s.ct.bundle? h with
  | none => rw [State.retireBundle_of_none hb]; exact .refl _
  | some b => rw [State.retireBundle_of_some hb]; exact .retire hb _

theorem State.cancelQueued_settles (s : State) (h : Handle) : s.Settles (s.cancelQueued h) := by
  cases hb : s.ct.bundle? h with
  | none => rw [State.cancelQueued_of_none hb]; exact .refl s
  | some b =>
    rw [State.cancelQueued_of_some hb]
    have hq : s.Settles (s.onDpl fun d => { d with queue := d.queue.filter (· != h) }) :=
      ⟨.refl _, .of_quotes rfl rfl, rfl, rfl, rfl⟩
    exact (hq.trans (State.releaseParts_settles _ b.parts)).trans (State.retireBundle_settles _ h _)

theorem State.cancelDrawing_settles (s : State) (h : Handle) : s.Settles (s.cancelDrawing h) := by
  rw [State.cancelDrawing_eq]
  refine foldl_settles _ (fun s k => ?_) s
  unfold State.cancelEntry
  split
  · split
    · exact s.cancelQueued_settles k
    · exact .refl s
  · exact .refl s

/-! ## Doubts -/

theorem State.changeStock_settles (s : State) (h : Handle) {f : Stock → Stock} (hf : KeepsDoubt f) :
    s.Settles (s.changeStock h f) := by
  unfold State.changeStock
  split
  · exact .refl s
  · next old hs =>
    have hp := s.putStock_settles hs (hf old)
    dsimp only
    split
    · exact hp.trans (State.cancelDrawing_settles _ h)
    · exact hp

theorem State.doubtStock_settles (s : State) (h : Handle) (k : DoubtCause) : s.Settles (s.doubtStock h k) :=
  s.changeStock_settles h (keepsDoubt_worsen k)

/-- A stock that was doubted is DOUBTFUL (R14). -/
theorem State.doubtStock_doubtedAt (s : State) (h : Handle) (k : DoubtCause) : (s.doubtStock h k).ct.DoubtedAt h := by
  unfold State.doubtStock State.changeStock
  split
  · next hs =>
    intro st hst
    rw [hs] at hst
    cases hst
  · next old hs =>
    have hp : (s.putStock h (old.worsen (.doubtful k))).ct.DoubtedAt h := by
      intro st hst
      rw [State.putStock_stock? hs, if_pos rfl] at hst
      cases hst
      rw [Stock.evalLow_quality]
      exact Quality.isDoubtful_worse_doubtful old.quality k
    dsimp only
    split
    · exact (State.cancelDrawing_settles _ h).ct.doubtedAt hp
    · exact hp

theorem State.doubtPlan_settles (s : State) (b : Bundle) (k : DoubtCause) : s.Settles (s.doubtPlan b k) :=
  foldl_settles b.parts (fun s p => s.doubtStock_settles p.stock k) s

theorem foldl_doubtedAt (k : DoubtCause) (parts : List Part) (s : State) :
    ∀ p ∈ parts, (parts.foldl (fun s p => s.doubtStock p.stock k) s).ct.DoubtedAt p.stock := by
  induction parts generalizing s with
  | nil => exact fun _ hp => absurd hp List.not_mem_nil
  | cons q parts ih =>
    intro p hp
    rcases List.mem_cons.mp hp with rfl | hp
    · exact (foldl_settles parts (fun s p => s.doubtStock_settles p.stock k) _).ct.doubtedAt
        (s.doubtStock_doubtedAt p.stock k)
    · exact ih _ p hp

/-- Every stock of a plan that was doubted is DOUBTFUL (R176). -/
theorem State.doubtPlan_doubtedAt (s : State) (b : Bundle) (k : DoubtCause) :
    ∀ p ∈ b.parts, (s.doubtPlan b k).ct.DoubtedAt p.stock :=
  foldl_doubtedAt k b.parts s

/-! ## The vault and the bins -/

/-- A write of a live record's handle, whatever its generation. -/
theorem Ct.settles_write_live {c : Ct} {h : Handle} {r r' : Record} (hm : (h, r) ∈ c.live) (hr : r.Settles r') :
    c.Settles (c.write h r') := by
  cases hf : c.find h with
  | none => rw [Ct.write_of_none c hf]; exact .refl c
  | some x => exact .write hf (Ct.eq_of_mem_live hm hf ▸ hr)

theorem State.onVault_settles (s : State) (f : Vault → Vault) : s.Settles (s.onVault f) := by
  refine .of_ct ?_ (by simp) (by simp) (by simp) (by simp)
  unfold State.onVault
  split
  · exact .refl _
  · next h v hv =>
    obtain ⟨⟨k, r⟩, hmem, hr⟩ := List.exists_of_findSome?_eq_some hv
    cases r with
    | vault w =>
      cases hr
      exact Ct.settles_write_live hmem (.vault _ _)
    | _ => cases hr

theorem State.onBin_settles (s : State) (b : BinId) (f : Bin → Bin) : s.Settles (s.onBin b f) := by
  refine .of_ct ?_ (by simp) (by simp) (by simp) (by simp)
  unfold State.onBin
  split
  · exact .refl _
  · next h v hv =>
    obtain ⟨⟨k, r⟩, hmem, hr⟩ := List.exists_of_findSome?_eq_some hv
    cases r with
    | bin w =>
      dsimp only at hr
      split at hr
      · cases hr
        exact Ct.settles_write_live hmem (.bin _ _)
      · cases hr
    | _ => cases hr

theorem State.doubtActiveBin_settles (s : State) (k : DoubtCause) : s.Settles (s.doubtActiveBin k) := by
  unfold State.doubtActiveBin
  split
  · exact .refl s
  · exact s.onBin_settles _ _

/-! ## What passes a bundle by -/

/-- A change leaves a bundle that is not in the queue alone, and out of the queue. -/
def State.Bypasses (h : Handle) (s t : State) : Prop :=
  h ∉ s.dpl.queue → h ∉ t.dpl.queue ∧ t.ct.bundle? h = s.ct.bundle? h

variable {h : Handle}

theorem State.Bypasses.refl (s : State) : s.Bypasses h s := fun hq => ⟨hq, rfl⟩

theorem State.Bypasses.trans (h₁ : s.Bypasses h t) (h₂ : t.Bypasses h u) : s.Bypasses h u := by
  intro hq
  obtain ⟨hq', hb⟩ := h₁ hq
  obtain ⟨hq'', hb'⟩ := h₂ hq'
  exact ⟨hq'', hb'.trans hb⟩

theorem State.Tallied.bypasses (ht : s.Tallied t) : s.Bypasses h t :=
  fun hq => ⟨ht.lapsed.queue ▸ hq, ht.bundle? h⟩

theorem State.onVault_bypasses (s : State) (f : Vault → Vault) : s.Bypasses h (s.onVault f) := by
  refine fun hq => ⟨by simpa using hq, ?_⟩
  unfold State.onVault
  split
  · rfl
  · next k v hv =>
    obtain ⟨⟨j, r⟩, hmem, hr⟩ := List.exists_of_findSome?_eq_some hv
    cases r with
    | vault w =>
      cases hr
      cases hf : s.ct.find k with
      | none => rw [State.onCt_ct, Ct.write_of_none _ hf]
      | some x =>
        rw [State.onCt_ct, Ct.bundle?_write hf]
        split
        · next hk => rw [hk, Ct.bundle?_eq, hf, ← Ct.eq_of_mem_live hmem hf]; rfl
        · rfl
    | _ => cases hr

theorem State.cancelEntry_bypasses (s : State) {k : Handle} (hk : h ≠ k) (d : Handle) :
    s.Bypasses h (s.cancelEntry d k) := by
  unfold State.cancelEntry
  split
  · split
    · intro hq
      refine ⟨?_, by rw [State.cancelQueued_bundle?, if_neg hk]⟩
      rcases (s.cancelQueued_dpl k).2.2 with he | he <;> rw [he]
      · exact hq
      · exact fun hm => hq (List.mem_of_mem_filter hm)
    · exact .refl s
  · exact .refl s

theorem foldl_cancelEntry_bypasses (d : Handle) (entries : List Handle) (hn : h ∉ entries) (s : State) :
    s.Bypasses h (entries.foldl (State.cancelEntry d) s) := by
  induction entries generalizing s with
  | nil => exact .refl s
  | cons k entries ih =>
    obtain ⟨hk, hn⟩ := not_or.mp (List.mem_cons.not.mp hn)
    exact (s.cancelEntry_bypasses hk d).trans (ih hn _)

theorem State.doubtStock_bypasses (s : State) (d : Handle) (k : DoubtCause) : s.Bypasses h (s.doubtStock d k) := by
  have hp (new : Stock) : s.Bypasses h (s.putStock d new) :=
    fun hq => ⟨(s.putStock_lapsed d new).queue ▸ hq, s.putStock_bundle? d new h⟩
  unfold State.doubtStock State.changeStock
  split
  · exact .refl s
  · dsimp only
    split
    · exact (hp _).trans fun hq => foldl_cancelEntry_bypasses d _ hq _ hq
    · exact hp _

theorem State.doubtPlan_bypasses (s : State) (b : Bundle) (k : DoubtCause) : s.Bypasses h (s.doubtPlan b k) := by
  unfold State.doubtPlan
  induction b.parts generalizing s with
  | nil => exact .refl s
  | cons p parts ih => exact (s.doubtStock_bypasses p.stock k).trans (ih _)

/-! ## A bundle fails in the transport -/

/-- A failing bundle's notes are charged (R80, R176). -/
def State.charged (s : State) (b : Bundle) : State :=
  (s.ntc.uncounted.foldl (fun s k => s.tallyStock k Stock.chargeLost)
    ((s.moveStacked b.parts Stock.toRejected).releaseParts b.parts)).addVault
      (b.stackedSum + s.ntc.uncounted.length) .exact

/-- The state in which a failing bundle is retired (R80, R176). -/
def State.failing (s : State) (b : Bundle) (k : DoubtCause) (vault : Bool) : State :=
  if vault || 0 < b.stackedSum + s.ntc.uncounted.length then
    ((s.charged b).doubtPlan b k).worsenVault (.doubtful k)
  else (s.charged b).doubtPlan b k

theorem State.failBundle_eq (s : State) (h : Handle) (b : Bundle) (k : DoubtCause) (r : FailReason) (vault : Bool) :
    s.failBundle h b k r vault = (s.failing b k vault).retireBundle h (.failed r) := rfl

theorem State.charged_settles (s : State) (b : Bundle) : s.Settles (s.charged b) := by
  have hm := s.moveStacked_settles b.parts (move := Stock.toRejected) fun _ _ hd => hd
  have hl := foldl_settles s.ntc.uncounted (f := fun s k => s.tallyStock k Stock.chargeLost)
    (fun s k => s.tallyStock_settles k fun _ hd => hd) ((s.moveStacked b.parts Stock.toRejected).releaseParts b.parts)
  exact ((hm.trans (State.releaseParts_settles _ _)).trans hl).trans (State.onVault_settles _ _)

theorem State.charged_bypasses (s : State) (b : Bundle) : s.Bypasses h (s.charged b) := by
  have hm := s.moveStacked_tallied b.parts (move := Stock.toRejected) fun _ _ hd => hd
  have hl := foldl_tallied s.ntc.uncounted (f := fun s k => s.tallyStock k Stock.chargeLost)
    (fun s k => s.tallyStock_tallied k fun _ hd => hd) ((s.moveStacked b.parts Stock.toRejected).releaseParts b.parts)
  exact ((hm.trans (State.releaseParts_tallied _ _)).trans hl).bypasses.trans (State.onVault_bypasses _ _)

theorem State.failing_settles (s : State) (b : Bundle) (k : DoubtCause) (vault : Bool) :
    s.Settles (s.failing b k vault) := by
  have hd := (s.charged_settles b).trans (State.doubtPlan_settles _ b k)
  unfold State.failing
  split
  · exact hd.trans (State.onVault_settles _ _)
  · exact hd

theorem State.failing_bypasses (s : State) (b : Bundle) (k : DoubtCause) (vault : Bool) :
    s.Bypasses h (s.failing b k vault) := by
  have hd := (s.charged_bypasses b).trans (State.doubtPlan_bypasses (h := h) _ b k)
  unfold State.failing
  split
  · exact hd.trans (State.onVault_bypasses _ _)
  · exact hd

theorem State.failing_doubtedAt (s : State) (b : Bundle) (k : DoubtCause) (vault : Bool) :
    ∀ p ∈ b.parts, (s.failing b k vault).ct.DoubtedAt p.stock := by
  intro p hp
  have hd := (s.charged b).doubtPlan_doubtedAt b k p hp
  unfold State.failing
  split
  · exact (State.onVault_settles _ _).ct.doubtedAt hd
  · exact hd

theorem State.failBundle_settles (s : State) (h : Handle) (b : Bundle) (k : DoubtCause) (r : FailReason) (vault : Bool) :
    s.Settles (s.failBundle h b k r vault) := by
  rw [State.failBundle_eq]
  exact (s.failing_settles b k vault).trans (State.retireBundle_settles _ h _)

/-- The failure of one bundle passes another by that is not in the queue. -/
theorem State.failBundle_bypasses (s : State) {j : Handle} (hj : h ≠ j) (b : Bundle) (k : DoubtCause) (r : FailReason)
    (vault : Bool) : s.Bypasses h (s.failBundle j b k r vault) := by
  rw [State.failBundle_eq]
  refine (s.failing_bypasses b k vault).trans fun hq => ⟨by simpa using hq, ?_⟩
  rw [State.retireBundle_bundle?, if_neg hj]

theorem State.failBundle_gone (s : State) (h : Handle) (b : Bundle) (k : DoubtCause) (r : FailReason) (vault : Bool) :
    (s.failBundle h b k r vault).ct.bundle? h = none := by
  rw [State.failBundle_eq, State.retireBundle_bundle?, if_pos rfl]

/-- A bundle has failed, and no handle names another of its lane: what it leaves lasts through a power-on (R25, R176). -/
structure Ct.Failed (c : Ct) (h : Handle) (b : Bundle) (r : FailReason) : Prop where
  spent : c.Spent h
  last : ∃ q, c.last.get b.lane = some ⟨h, .failed r, b.amount, 0, q⟩
  alone : ∀ k b', c.bundle? k = some b' → b'.lane ≠ b.lane
  doubted : ∀ p ∈ b.parts, c.DoubtedAt p.stock

theorem Ct.Settles.failed {c c' : Ct} (hs : c.Settles c') {b : Bundle} {r : FailReason} (hf : c.Failed h b r) :
    c'.Failed h b r := by
  refine ⟨hs.spent hf.spent, ?_, fun k b' hb => ?_, fun p hp => hs.doubtedAt (hf.doubted p hp)⟩
  · rw [hs.last hf.alone]
    exact hf.last
  · obtain ⟨b₀, hb₀, hlane, -⟩ := hs.bundle? hb
    exact hlane ▸ hf.alone k b₀ hb₀

theorem Ct.Failed.hasFailed {b : Bundle} {r : FailReason} (hf : s.ct.Failed h b r) : s.hasFailed h b r :=
  ⟨hf.spent.find, hf.last, hf.doubted⟩

/-- A bundle that fails, the one of its lane and in no queue, has failed (R176). -/
theorem State.failBundle_failed {b : Bundle} (hb : s.ct.bundle? h = some b) (hq : h ∉ s.dpl.queue)
    (hsole : ∀ k b', s.ct.bundle? k = some b' → b'.lane = b.lane → k = h) (k : DoubtCause) (r : FailReason) (vault : Bool) :
    (s.failBundle h b k r vault).ct.Failed h b r := by
  have hs := s.failing_settles b k vault
  have hb' : (s.failing b k vault).ct.bundle? h = some b := ((s.failing_bypasses b k vault hq).2).trans hb
  have hr := State.retireBundle_settles (s.failing b k vault) h (.failed r)
  have hct := State.retireBundle_of_some hb' (.failed r)
  rw [State.failBundle_eq]
  refine ⟨?_, ?_, fun j b' hj hlane => ?_, fun p hp => hr.ct.doubtedAt (s.failing_doubtedAt b k vault p hp)⟩
  · rw [hct]
    exact Ct.spent_retire (c := { (s.failing b k vault).ct with last := _ }) (Ct.bundle?_eq_some.mp hb')
  · rw [hct, Ct.retire_last]
    exact ⟨_, PerLane.get_put_same _ _ _⟩
  · rw [State.retireBundle_bundle?] at hj
    split at hj
    · cases hj
    · next hne =>
      obtain ⟨b₀, hb₀, hl₀, -⟩ := hs.ct.bundle? hj
      exact hne (hsole j b₀ hb₀ (hl₀.trans hlane))

end Sys2Proof.Machine
end

section
/-! PROOF. A power-on with the backup retained fails the bundles in the transport and settles the rest (O15): the order
in which the bundles fail, and the start of the lanes. -/

open Sys2Proof Sys2Proof.Machine

namespace Sys2Proof.Machine

variable {s t : State} {h : Handle} {b : Bundle}

/-! ## The bundles in the transport fail -/

theorem State.failInTransport_settles (s : State) : s.Settles s.failInTransport := by
  refine foldl_settles _ (fun s p => ?_) s
  exact s.failBundle_settles p.1 p.2 .power .power true

/-- After the failures no handle of the list names a bundle. -/
theorem foldl_failBundle_gone (l : List (Handle × Bundle)) (s : State) (hm : h ∈ l.map (·.1)) :
    (l.foldl (fun s p => s.failBundle p.1 p.2 .power .power true) s).ct.bundle? h = none := by
  induction l generalizing s with
  | nil => exact absurd hm List.not_mem_nil
  | cons p l ih =>
    rcases List.mem_cons.mp hm with rfl | hm
    · have hs := foldl_settles l (fun s (p : Handle × Bundle) => s.failBundle_settles p.1 p.2 .power .power true)
        (s.failBundle p.1 p.2 .power .power true)
      refine Option.eq_none_iff_forall_ne_some.mpr fun b hb => ?_
      obtain ⟨b₀, hb₀, -⟩ := hs.ct.bundle? hb
      rw [State.failBundle_gone] at hb₀
      cases hb₀
    · exact ih _ hm

/-- No handle names a bundle in the transport after the failures (R176). -/
theorem State.failInTransport_inTransport (hb : s.failInTransport.ct.bundle? h = some b) : b.inTransport = false := by
  by_contra ht
  rw [Bool.not_eq_false] at ht
  obtain ⟨b₀, hb₀, -, heq⟩ := s.failInTransport_settles.ct.bundle? hb
  obtain rfl := heq ht
  have hm : (h, b₀) ∈ s.ct.bundles.filter (·.2.inTransport) :=
    List.mem_filter.mpr ⟨Ct.mem_bundles_of_bundle? hb₀, ht⟩
  have hg := foldl_failBundle_gone _ s (List.mem_map_of_mem (f := (·.1)) hm)
  exact absurd (hg.symm.trans hb) (by simp)

/-- A bundle of the list that is alone in its lane and in no queue fails, each entry of its handle being itself. -/
theorem foldl_failBundle_failed (l : List (Handle × Bundle)) (s : State) (hm : (h, b) ∈ l)
    (hl : ∀ p ∈ l, p.1 = h → p.2 = b) (hb : s.ct.bundle? h = some b) (hq : h ∉ s.dpl.queue)
    (hsole : ∀ k b', s.ct.bundle? k = some b' → b'.lane = b.lane → k = h) :
    (l.foldl (fun s p => s.failBundle p.1 p.2 .power .power true) s).ct.Failed h b .power := by
  induction l generalizing s with
  | nil => exact absurd hm List.not_mem_nil
  | cons p l ih =>
    by_cases hp : h = p.1
    · obtain rfl := hl p List.mem_cons_self hp.symm
      subst hp
      exact (foldl_settles l (fun s p => s.failBundle_settles p.1 p.2 .power .power true) _).ct.failed
        (State.failBundle_failed hb hq hsole .power .power true)
    · have hm' : (h, b) ∈ l := (List.mem_cons.mp hm).resolve_left fun he => hp (congrArg Prod.fst he)
      obtain ⟨hq', hb'⟩ := s.failBundle_bypasses hp p.2 .power .power true hq
      refine ih _ hm' (fun e he => hl e (List.mem_cons_of_mem _ he)) (hb'.trans hb) hq' fun k b' hk hlane => ?_
      obtain ⟨b₀, hb₀, hl₀, -⟩ := (s.failBundle_settles p.1 p.2 .power .power true).ct.bundle? hk
      exact hsole k b₀ hb₀ (hl₀.trans hlane)

/-- The one bundle of its lane, in the transport and in no queue, fails with reason POWER (R176). -/
theorem State.failInTransport_failed (hb : s.ct.bundle? h = some b) (ht : b.inTransport = true) (hq : h ∉ s.dpl.queue)
    (hsole : s.soleBundle h b) : s.failInTransport.ct.Failed h b .power := by
  refine foldl_failBundle_failed _ s (List.mem_filter.mpr ⟨Ct.mem_bundles_of_bundle? hb, ht⟩) ?_ hb hq
    fun k b' hk hlane => hsole _ (Ct.mem_bundles_of_bundle? hk) hlane
  rintro ⟨k, b'⟩ hp rfl
  exact Ct.eq_of_mem_bundles (List.mem_filter.mp hp).1 hb

/-- The queue that a power-on rebuilds holds no bundle of the transport (R63). -/
theorem State.not_mem_rebuildQueue (hb : s.ct.bundle? h = some b) (ht : b.inTransport = true) :
    h ∉ s.rebuildQueue.dpl.queue := by
  intro hm
  obtain ⟨x, hx, rfl⟩ := List.mem_map.mp hm
  obtain ⟨⟨k, b'⟩, hk, rfl⟩ := List.mem_map.mp ((mem_foldr_insertByAge _ _).mp hx)
  obtain ⟨hk, hq⟩ := List.mem_filter.mp hk
  obtain rfl := Ct.eq_of_mem_bundles hk hb
  simp only [decide_eq_true_eq] at hq
  simp [Bundle.inTransport, hq] at ht

/-! ## The rest of the restart -/

theorem State.failInFlight_settles (s : State) : s.Settles s.failInFlight := by
  unfold State.failInFlight
  split
  · exact (s.doubtActiveBin_settles .power).trans (.of_same rfl rfl rfl rfl rfl)
  · exact .refl s

theorem State.restartChanges_settles (s : State) : s.failInTransport.Settles s.restartChanges := by
  have hf := s.failInTransport.failInFlight_settles
  unfold State.restartChanges
  dsimp only
  split
  · exact hf.trans (.of_same (by simp) (by simp) (by simp) (by simp) (by simp))
  · exact hf

theorem State.presenceFound_settles (s : State) (p : CassettePos) : s.Settles (s.presenceFound p) := by
  unfold State.presenceFound
  split
  · exact s.doubtStock_settles _ _
  · exact .refl s

theorem State.readPresence_settles (s : State) : s.Settles s.readPresence := by
  refine foldl_settles _ (fun s p => ?_) s
  split
  · exact .refl s
  · exact s.presenceFound_settles p

/-- From the failures on, the restart settles custody and leaves the quotes as they stand; the settings may take
pending values (R44, R85). -/
theorem State.restartRetained_settles (s : State) :
    s.rebuildQueue.failInTransport.ct.Settles s.restartRetained.ct ∧ s.dpl.Alike s.restartRetained.dpl := by
  have hc := s.rebuildQueue.restartChanges_settles
  have hf := s.rebuildQueue.failInTransport_settles.trans hc
  have hq : s.dpl.Alike s.rebuildQueue.dpl := .of_quotes (by simp) (by simp)
  unfold State.restartRetained
  generalize s.rebuildQueue.restartChanges = t at hc hf
  have hp := ((t.onSet fun c => (c.applyGauge .note).applyGauge .envelope).applyFitted.hideUnfittedFlags).readPresence_settles
  obtain ⟨hpct, hpd, -, -, -⟩ := hp
  simp only [State.hideUnfittedFlags_frame, State.applyFitted_frame] at hpct hpd
  exact ⟨hc.ct.trans hpct, (hq.trans hf.dpl).trans hpd⟩

/-! ## The lanes start -/

/-- A flag of a lane changes nothing that settles. -/
theorem State.setLaneFlag_settles (s : State) (l : Lane) (f : LaneFlag) : s.Settles (s.setLaneFlag l f) :=
  .of_same (by simp) (by simp) (by simp) (by simp) (by simp)

theorem State.onCt_settles (s : State) {f : Ct → Ct} (hf : s.ct.Settles (f s.ct)) : s.Settles (s.onCt f) :=
  .of_ct hf rfl rfl rfl rfl

theorem State.onLdc_settles (s : State) (l : Lane) (f : Ldc → Ldc) : s.Settles (s.onLdc l f) :=
  .of_same rfl rfl rfl rfl rfl

theorem State.setTransitState_settles (s : State) {k : Handle} {r : Transit} (hm : (k, .transit r) ∈ s.ct.live)
    (ho : r.outbound = true) (st : TransitState) : s.Settles (s.setTransitState k st) := by
  unfold State.setTransitState
  split
  · exact .refl s
  · next r' hr' =>
    have hf := Ct.find_of_transit? hr'
    obtain rfl := Record.transit.inj (Ct.eq_of_mem_live hm hf)
    exact (s.onCt_settles (.write hf (.transit _ ho))).trans (State.setLaneFlag_settles _ _ _)

theorem State.retireTransit_settles (s : State) {k : Handle} {r : Transit} (hm : (k, .transit r) ∈ s.ct.live)
    (ho : r.outbound = true) : s.Settles (s.retireTransit k) := by
  unfold State.retireTransit
  split
  · exact .refl s
  · next r' hr' =>
    have hf := Ct.find_of_transit? hr'
    obtain rfl := Record.transit.inj (Ct.eq_of_mem_live hm hf)
    exact (s.onCt_settles (.collect hf ho)).trans (State.setLaneFlag_settles _ _ _)

theorem State.setBundleState_settles (s : State) (k : Handle) {st : BundleState}
    (hst : ∀ b : Bundle, ({ b with state := st } : Bundle).inTransport = false) : s.Settles (s.setBundleState k st) := by
  unfold State.setBundleState State.onBundle
  split
  · exact .refl s
  · next b hb => exact s.onCt_settles (.write (Ct.bundle?_eq_some.mp hb) (.bundle rfl (hst b)))

/-- The record that a consignment shows. -/
def Consignment.record : Consignment → Record
  | .bundle _ b => .bundle b
  | .transit _ r => .transit r

/-- The consignment of a lane's tray is a live record. -/
theorem Ct.mem_live_of_consignment {c : Ct} {l : Lane} {g : Consignment} (hg : c.consignment l = some g) :
    (g.handle, g.record) ∈ c.live := by
  have hbundle {k b} (hk : c.bundleOf l = some (k, b)) : (k, Record.bundle b) ∈ c.live := by
    obtain ⟨⟨j, r⟩, hmem, hr⟩ := List.exists_of_findSome?_eq_some hk
    cases r with
    | bundle v =>
      dsimp only at hr
      split at hr
      · cases hr; exact hmem
      · cases hr
    | _ => cases hr
  have htransit (ht : (c.transitOf l).map (fun p => Consignment.transit p.1 p.2) = some g) :
      (g.handle, g.record) ∈ c.live := by
    obtain ⟨⟨k, v⟩, hk, rfl⟩ := Option.map_eq_some_iff.mp ht
    obtain ⟨⟨j, r⟩, hmem, hr⟩ := List.exists_of_findSome?_eq_some hk
    cases r with
    | transit v =>
      dsimp only at hr
      split at hr
      · cases hr; exact hmem
      · cases hr
    | _ => cases hr
  unfold Ct.consignment at hg
  split at hg
  · next k b hk =>
    split at hg
    · cases hg; exact hbundle hk
    · exact htransit hg
  · exact htransit hg

theorem State.comeBack_settles (s : State) {g : Consignment} (hm : (g.handle, g.record) ∈ s.ct.live)
    (ho : g.outbound = true) : s.Settles (s.comeBack g) := by
  cases g with
  | bundle k b =>
    dsimp only [State.comeBack]
    split
    · exact s.setBundleState_settles k fun _ => rfl
    · exact .refl s
  | transit k r =>
    dsimp only [State.comeBack]
    split
    · exact s.setTransitState_settles hm ho _
    · exact .refl s

theorem State.takeBundle_settles (s : State) (k : Handle) (b : Bundle) : s.Settles (s.takeBundle k b) :=
  (s.moveStacked_settles b.parts (move := Stock.toPaid) fun _ _ hd => hd).trans (State.retireBundle_settles _ _ _)

/-- With no bundle in the note transport, doubts reach none (R72). -/
theorem State.doubtsDrawn_of_idle (hn : s.ntc.current = none) (hs : List Handle) : s.doubtsDrawn hs = s := by
  simp [State.doubtsDrawn, State.currentBundle, hn]

theorem State.reportLane_of_idle (hn : s.ntc.current = none) (l : Lane) : s.reportLane l = s := by
  simp [State.reportLane, State.currentBundle, hn]

theorem State.takeUnseen_settles (hn : s.ntc.current = none) (b : Bundle) (k : Handle) :
    s.Settles (s.takeUnseen b (.bundle k b)) := by
  have ht : s.Settles ((s.doubtPlan b .power).takeConsignment (.bundle k b)) :=
    (s.doubtPlan_settles b .power).trans (State.takeBundle_settles _ k b)
  unfold State.takeUnseen
  rwa [State.doubtsDrawn_of_idle (ht.ntc ▸ hn)]

theorem State.takeDeposit_settles (s : State) (l : Lane) : s.Settles (s.takeDeposit l) :=
  (s.onCt_settles (f := fun _ => (s.ct.create (Record.deposit l)).1) (.deposit s.ct l)).trans
    (State.setLaneFlag_settles _ _ _)

theorem State.judgeHome_settles (hn : s.ntc.current = none) (l : Lane) (restart : Bool) :
    s.Settles (s.judgeHome l restart) := by
  unfold State.judgeHome
  split
  · next g hg =>
    have hm := Ct.mem_live_of_consignment hg
    split
    · next ho =>
      split
      · exact s.comeBack_settles hm ho
      · cases g with
        | bundle k b =>
          dsimp only
          split
          · exact State.takeUnseen_settles hn b k
          · exact s.takeBundle_settles k b
        | transit k r => exact s.retireTransit_settles hm ho
    · exact .refl s
  · split
    · exact s.takeDeposit_settles l
    · exact .refl s

theorem State.stopDrawer_settles (s : State) (l : Lane) : s.Settles (s.stopDrawer l) :=
  .of_same (by simp) (by simp) (by simp) (by simp) (by simp)

theorem State.enterHome_settles (hn : s.ntc.current = none) (l : Lane) : s.Settles (s.enterHome l false) := by
  have hd : s.Settles ((s.onLdc l fun d => { d with state := .home, halted := none, restartHoming := false }).stopDrawer l) :=
    (s.onLdc_settles l _).trans (State.stopDrawer_settles _ l)
  have hj := hd.trans (State.judgeHome_settles (hd.ntc ▸ hn) l (s.ldc.get l).restartHoming)
  unfold State.enterHome
  dsimp only
  rw [if_neg Bool.false_ne_true, State.reportLane_of_idle (hj.ntc ▸ hn)]
  exact hj

theorem State.startUnlocked_settles (hn : s.ntc.current = none) (l : Lane) : s.Settles (s.startUnlocked l) := by
  have hd := s.onLdc_settles l fun d => { d with restartHoming := true }
  unfold State.startUnlocked
  dsimp only
  split
  · exact hd.trans (State.enterHome_settles (hd.ntc ▸ hn) l)
  · split
    · exact hd.trans (State.onLdc_settles _ l _)
    · exact hd.trans (.of_same (by simp) (by simp) (by simp) (by simp) (by simp))

/-- One lane starts at power-on, when it is fitted (R85). -/
def State.startLane (s : State) (l : Lane) : State :=
  if s.fitted l then if s.locked l then s.startLocked l else s.startUnlocked l else s

theorem State.startLane_settles (hn : s.ntc.current = none) (l : Lane) : s.Settles (s.startLane l) := by
  unfold State.startLane
  split
  · split
    · exact s.onLdc_settles l _
    · exact State.startUnlocked_settles hn l
  · exact .refl s

theorem foldl_startLane_settles (ls : List Lane) (hn : s.ntc.current = none) : s.Settles (ls.foldl State.startLane s) := by
  induction ls generalizing s with
  | nil => exact .refl s
  | cons l ls ih =>
    have hl := State.startLane_settles hn l
    exact hl.trans (ih (hl.ntc ▸ hn))

theorem State.startBlocks_settles (hn : s.ntc.current = none) :
    s.ct.Settles s.startBlocks.ct ∧ s.dpl.Alike s.startBlocks.dpl ∧ s.startBlocks.pins = s.pins
      ∧ s.startBlocks.set = s.set := by
  have hl : s.Settles s.startLanes := foldl_startLane_settles Lane.all hn
  simp only [State.startBlocks, State.startLeaders_frame, State.startThroats_frame]
  exact ⟨hl.ct, hl.dpl, hl.pins, hl.set⟩

/-! ## The locks at a power-on -/

/-- What the start of a lane makes of its lock: the solenoid of a fitted and locked lane is engaged (R85). -/
theorem State.startLane_lock (s : State) (l k : Lane) :
    ((s.startLane l).ldc.get k).lock
      = if k = l && s.fitted k && s.locked k then ((s.ldc.get k).locks, (s.ldc.get k).saved, true)
        else (s.ldc.get k).lock := by
  unfold State.startLane
  by_cases hk : k = l
  · subst hk
    split <;> split <;> simp_all [State.startLocked_lock, State.startUnlocked_lock]
  · split
    · split
      · simp [State.startLocked_lock, hk]
      · simp [State.startUnlocked_lock, hk]
    · simp [hk]

theorem State.fitted_of_set (hs : t.set = s.set) (k : Lane) : t.fitted k = s.fitted k := by
  rw [State.fitted, State.fitted, hs]

theorem State.startLane_locks (s : State) (l k : Lane) :
    ((s.startLane l).ldc.get k).locks = (s.ldc.get k).locks ∧ ((s.startLane l).ldc.get k).saved = (s.ldc.get k).saved := by
  have hl := s.startLane_lock l k
  split at hl <;> exact ⟨congrArg Prod.fst hl, congrArg (·.2.1) hl⟩

/-- The lanes that start keep their lock causes and saved contexts, and those fitted and locked engage the solenoid
(R85). -/
theorem foldl_startLane_lock (ls : List Lane) (hn : s.ntc.current = none) (k : Lane) :
    ((ls.foldl State.startLane s).ldc.get k).lock
      = if ls.contains k && s.fitted k && s.locked k then ((s.ldc.get k).locks, (s.ldc.get k).saved, true)
        else (s.ldc.get k).lock := by
  induction ls generalizing s with
  | nil => rfl
  | cons l ls ih =>
    have hs := State.startLane_settles hn l
    obtain ⟨hlocks, hsaved⟩ := s.startLane_locks l k
    have hlocked : (s.startLane l).locked k = s.locked k := by rw [State.locked, State.locked, hlocks]
    rw [List.foldl_cons, ih (hs.ntc ▸ hn), hlocks, hsaved, hlocked, State.fitted_of_set hs.set, State.startLane_lock]
    by_cases hk : k = l <;> cases hc : ls.contains k <;> simp_all

theorem State.startBlocks_lock (hn : s.ntc.current = none) (k : Lane) :
    (s.startBlocks.ldc.get k).lock
      = if s.fitted k && s.locked k then ((s.ldc.get k).locks, (s.ldc.get k).saved, true) else (s.ldc.get k).lock := by
  have hl : (s.startLanes.ldc.get k).lock = _ := foldl_startLane_lock Lane.all hn k
  have hall : Lane.all.contains k = true := by cases k <;> rfl
  rw [hall, Bool.true_and] at hl
  have hldc : s.startBlocks.ldc = s.startLanes.ldc := by
    simp only [State.startBlocks, State.startLeaders_frame, State.startThroats_frame]
  rwa [hldc]

/-! ## The whole power-on -/

/-- The power-on up to the mark of its backup. -/
def State.restarted (s : State) (inputs : Pins) : State := (s.dark inputs).restartRetained.startBlocks

theorem State.markBackup_retained (s : State) (b : Bool) : (s.markBackup b).retained = b := rfl

theorem exec_powerOn_retained (s : State) (inputs : Pins) :
    exec (.powerOn true true inputs) s = .next ((s.restarted inputs).markBackup true) := by
  rfl

/-- No bundle is in the note transport when the blocks start (R65). -/
theorem State.dark_idle (s : State) (inputs : Pins) : (s.dark inputs).restartRetained.ntc.current = none := by
  rw [(State.restartRetained_frame _).1]
  rfl

theorem State.restarted_settles (s : State) (inputs : Pins) :
    (s.dark inputs).rebuildQueue.failInTransport.ct.Settles (s.restarted inputs).ct
      ∧ (s.dark inputs).dpl.Alike (s.restarted inputs).dpl ∧ (s.restarted inputs).pins = inputs
      ∧ (s.restarted inputs).set = (s.dark inputs).restartRetained.set := by
  obtain ⟨hc, hd⟩ := (s.dark inputs).restartRetained_settles
  obtain ⟨hc', hd', hp, hs⟩ := State.startBlocks_settles (s.dark_idle inputs)
  refine ⟨hc.trans hc', hd.trans hd', hp.trans ?_, hs⟩
  simp only [State.restartRetained_frame]
  rfl

/-- The quotes are free (R46). -/
theorem State.restarted_liveQuotes (s : State) (inputs : Pins) : (s.restarted inputs).dpl.liveQuotes = [] := by
  obtain ⟨-, ⟨hst, -⟩, -⟩ := s.restarted_settles inputs
  have hnone : (s.dark inputs).dpl.liveQuotes = [] := Dpl.lost_liveQuotes
  rw [Dpl.standing, Dpl.standing, hnone] at hst
  exact List.map_eq_nil_iff.mp hst

/-- A lane keeps its lock causes and saved context; the solenoid is engaged where it is fitted and locked (R85). -/
theorem State.restarted_lock (s : State) (inputs : Pins) (l : Lane) :
    ((s.restarted inputs).ldc.get l).lock
      = ((s.ldc.get l).locks, (s.ldc.get l).saved, (s.restarted inputs).fitted l && s.locked l) := by
  obtain ⟨-, -, -, hset⟩ := s.restarted_settles inputs
  have hdark : ((s.dark inputs).restartRetained.ldc.get l).lock = ((s.ldc.get l).locks, (s.ldc.get l).saved, false) := by
    rw [(State.restartRetained_frame _).2.2.1]
    cases l <;> rfl
  have hlocks : ((s.dark inputs).restartRetained.ldc.get l).locks = (s.ldc.get l).locks := congrArg Prod.fst hdark
  have hsaved : ((s.dark inputs).restartRetained.ldc.get l).saved = (s.ldc.get l).saved := congrArg (·.2.1) hdark
  have hlocked : (s.dark inputs).restartRetained.locked l = s.locked l := by rw [State.locked, State.locked, hlocks]
  rw [State.fitted_of_set hset l, State.restarted, State.startBlocks_lock (s.dark_idle inputs), hlocks, hsaved, hlocked,
    hdark]
  split <;> simp_all

/-- The zones keep what R135 keeps, and have no deferred trip. -/
theorem State.restarted_zones (s : State) (inputs : Pins) (z : ZoneId) :
    (s.restarted inputs).azu.zones[z]
      = (s.azu.zones[z]).dark z (scanCycle s.set.scanStart s.set.scanEnd) := by
  have hz : (s.restarted inputs).azu.zones = (s.azu.dark s.set.scanStart s.set.scanEnd).zones := by
    simp only [State.restarted, State.startBlocks_frame, State.restartRetained_frame]
    rfl
  rw [hz]
  simp [Azu.dark]

/-- The commit sequence and the capture number are kept, the quote tags begin again and the grants are shut (R46, R105,
R158). -/
theorem State.restarted_sequence (s : State) (inputs : Pins) : (s.restarted inputs).dpl.sequence = s.dpl.sequence := by
  simp only [State.restarted, State.startBlocks_frame, State.restartRetained_frame]
  rfl

theorem State.restarted_nextTag (s : State) (inputs : Pins) : (s.restarted inputs).dpl.nextTag = 1 := by
  simp only [State.restarted, State.startBlocks_frame, State.restartRetained_frame]
  rfl

theorem State.restarted_nextNumber (s : State) (inputs : Pins) :
    (s.restarted inputs).ecc.nextNumber = s.ecc.nextNumber := by
  simp only [State.restarted, State.startBlocks_frame, State.restartRetained_frame]
  rfl

theorem State.restarted_grants (s : State) (inputs : Pins) (a : Area) :
    (s.restarted inputs).azu.grants.get a = Grant.shut := by
  simp only [State.restarted, State.startBlocks_frame, State.restartRetained_frame]
  cases a <;> rfl

theorem State.hasFailed_of_ct (hct : t.ct = s.ct) {r : FailReason} (hf : s.hasFailed h b r) : t.hasFailed h b r := by
  unfold State.hasFailed at hf ⊢
  rwa [hct]

theorem State.restarted_inTransport (s : State) (inputs : Pins) (hb : (s.restarted inputs).ct.bundle? h = some b) :
    b.inTransport = false := by
  by_contra ht
  rw [Bool.not_eq_false] at ht
  obtain ⟨b₀, hb₀, -, heq⟩ := (s.restarted_settles inputs).1.bundle? hb
  obtain rfl := heq ht
  rw [State.failInTransport_inTransport hb₀] at ht
  cases ht

theorem State.restarted_hasFailed (inputs : Pins) (hb : s.ct.bundle? h = some b) (ht : b.inTransport = true)
    (hsole : s.soleBundle h b) : (s.restarted inputs).hasFailed h b .power :=
  have hf : (s.dark inputs).rebuildQueue.failInTransport.ct.Failed h b .power :=
    State.failInTransport_failed hb ht (State.not_mem_rebuildQueue (s := s.dark inputs) hb ht) hsole
  ((s.restarted_settles inputs).1.failed hf).hasFailed

end Sys2Proof.Machine

/-- Settles O15: the bundles in the transport are the only ones that the restart fails, one after the other; all that
follows changes single records and leaves what a failed bundle left. -/
theorem powerOnRetainedFailsWhatMoved : Obligations.PowerOnRetainedFailsWhatMoved := by
  intro s inputs
  obtain ⟨hct, hdpl, -, -, hldc, hecc, hazu, -, hset, -, hpins, -⟩ := (s.restarted inputs).markBackup_frame true
  refine ⟨(s.restarted inputs).markBackup true, exec_powerOn_retained s inputs, ?_, ?_, ?_, ?_, ?_, ?_,
    fun a => ?_, fun z => ?_, fun l => ?_, fun h b => ?_, fun h b hb ht hsole => ?_⟩
  · exact State.markBackup_retained _ true
  · rw [hpins, (s.restarted_settles inputs).2.2.1]
  · rw [hdpl, State.restarted_sequence]
  · rw [hdpl, State.restarted_liveQuotes]
  · rw [hdpl, State.restarted_nextTag]
  · rw [hecc, State.restarted_nextNumber]
  · rw [hazu, State.restarted_grants]
  · rw [hazu, s.restarted_zones inputs z]
    exact ⟨rfl, rfl, rfl, rfl, rfl, rfl, rfl, rfl, rfl⟩
  · rw [hldc, State.fitted_of_set hset]
    have hl := s.restarted_lock inputs l
    exact ⟨congrArg (·.1) hl, congrArg (·.2.1) hl, congrArg (·.2.2) hl⟩
  · rw [hct]
    exact s.restarted_inTransport inputs
  · exact State.hasFailed_of_ct hct (State.restarted_hasFailed inputs hb ht hsole)

end

section
/-! PROOF. What the laws of the drives and of the pauses read of a state (R82, R84 to R86, R100 to R102, R104, R119,
R120), and what it takes for a change to keep them. -/

open Sys2Proof Sys2Proof.Machine

namespace Sys2Proof.Machine

/-! ## The modes of the transports -/

/-- What the two laws read of the note transport: its state, the state a pause saved, and its two drives. -/
structure NoteMode where
  state : NoteState
  saved : Option NoteState
  motor : Bool
  dump : Bool

/-- What the two laws read of the envelope transport. -/
structure EnvMode where
  state : EnvState
  saved : Option EnvState
  motor : Bool

/-- The mode of the note transport. -/
def Ntc.mode (n : Ntc) : NoteMode := ⟨n.state, n.saved, n.motor, n.dump⟩

/-- The mode of the envelope transport. -/
def Ecc.mode (e : Ecc) : EnvMode := ⟨e.state, e.saved, e.motor⟩

@[simp] theorem Ntc.mode_mk (a : NoteState) (b : Option NoteState) (c : Option Handle) (d : Option Ending)
    (e f : Option Handle) (g : List PathItem) (h : Leader) (i : Nat) (j : PerPos Nat) (k : Branch) (m o : Bool)
    (p : Option Lane) (q r t u : Timer) (v : Nat) (w x : Timer) :
    (Ntc.mk a b c d e f g h i j k m o p q r t u v w x).mode = ⟨a, b, m, o⟩ := rfl

@[simp] theorem Ntc.mode_eta (n : Ntc) : (⟨n.state, n.saved, n.motor, n.dump⟩ : NoteMode) = n.mode := rfl

@[simp] theorem Ecc.mode_mk (a : PerThroat ThroatUnit) (b : EnvState) (c : Option EnvState) (d : Leader)
    (e : Option CurrentEnv) (f : Throat) (g : Nat) (h : Bool) (i : BinId) (j : Bool) (k : Feed)
    (m n o p q : Timer) : (Ecc.mk a b c d e f g h i j k m n o p q).mode = ⟨b, c, j⟩ := rfl

@[simp] theorem Ecc.mode_eta (e : Ecc) : (⟨e.state, e.saved, e.motor⟩ : EnvMode) = e.mode := rfl

/-- A saved state is present exactly in PAUSED, and is one that a pause saves (R82). -/
def NoteMode.pauseLegal (m : NoteMode) : Prop :=
  match m.saved with
  | none => m.state ≠ .paused
  | some st => m.state = .paused ∧ st ∈ [NoteState.leader, .picking, .stackedWait, .diverting]

/-- A saved state is present exactly in PAUSED, and is one that a pause saves (R119). -/
def EnvMode.pauseLegal (m : EnvMode) : Prop :=
  match m.saved with
  | none => m.state ≠ .paused
  | some st => m.state = .paused ∧ st ∈ [EnvState.leader, .measuring, .forward, .reversing, .recapture]

theorem State.pausesLegal_iff (s : State) :
    s.pausesLegal ↔ s.ntc.mode.pauseLegal ∧ s.ecc.mode.pauseLegal := Iff.rfl

@[simp] theorem NoteMode.pauseLegal_none (st : NoteState) (m d : Bool) :
    NoteMode.pauseLegal ⟨st, none, m, d⟩ ↔ st ≠ .paused := Iff.rfl

@[simp] theorem NoteMode.pauseLegal_some (st x : NoteState) (m d : Bool) :
    NoteMode.pauseLegal ⟨st, some x, m, d⟩
      ↔ st = .paused ∧ x ∈ [NoteState.leader, .picking, .stackedWait, .diverting] := Iff.rfl

@[simp] theorem EnvMode.pauseLegal_none (st : EnvState) (m : Bool) :
    EnvMode.pauseLegal ⟨st, none, m⟩ ↔ st ≠ .paused := Iff.rfl

@[simp] theorem EnvMode.pauseLegal_some (st x : EnvState) (m : Bool) :
    EnvMode.pauseLegal ⟨st, some x, m⟩
      ↔ st = .paused ∧ x ∈ [EnvState.leader, .measuring, .forward, .reversing, .recapture] := Iff.rfl

/-- A transport that is not PAUSED has no saved state. -/
theorem NoteMode.pauseLegal.saved {m : NoteMode} (h : m.pauseLegal) (hs : m.state ≠ .paused) : m.saved = none := by
  obtain ⟨st, sv, mo, du⟩ := m
  cases sv with
  | none => rfl
  | some x => exact absurd h.1 hs

theorem EnvMode.pauseLegal.saved {m : EnvMode} (h : m.pauseLegal) (hs : m.state ≠ .paused) : m.saved = none := by
  obtain ⟨st, sv, mo⟩ := m
  cases sv with
  | none => rfl
  | some x => exact absurd h.1 hs

/-- What a pause interrupted is not itself a pause. -/
theorem NoteMode.pauseLegal.phase {m : Ntc} (h : m.mode.pauseLegal) : m.phase ≠ .paused := by
  unfold Ntc.phase
  split
  · next hp =>
    cases hs : m.saved with
    | none => simp [Ntc.mode, NoteMode.pauseLegal, hs, hp] at h
    | some st =>
      simp only [Ntc.mode, NoteMode.pauseLegal, hs] at h
      intro he
      simp only [Option.getD_some] at he
      simp [he] at h
  · next hp => exact hp

theorem EnvMode.pauseLegal.phase {m : Ecc} (h : m.mode.pauseLegal) : m.phase ≠ .paused := by
  unfold Ecc.phase
  split
  · next hp =>
    cases hs : m.saved with
    | none => simp [Ecc.mode, EnvMode.pauseLegal, hs, hp] at h
    | some st =>
      simp only [Ecc.mode, EnvMode.pauseLegal, hs] at h
      intro he
      simp only [Option.getD_some] at he
      simp [he] at h
  · next hp => exact hp

/-! ## The drives -/

/-- The note transport's motor and dump are at rest. -/
def NoteMode.still (m : NoteMode) : Prop := m.motor = false ∧ m.dump = false

/-- The envelope transport's motor is at rest. -/
def EnvMode.still (m : EnvMode) : Prop := m.motor = false

/-- A drawer's motor and solenoid, in a lane that is fitted or not, with a power warning or without (R85, R86, R101,
R104). -/
def Ldc.lawful (d : Ldc) (fitted warning : Bool) : Prop :=
  d.driveLawful = true ∧ d.solenoid = (fitted && d.locks != 0) ∧ (warning = true → d.motor = false)

theorem State.drivesLawful_iff (s : State) : s.drivesLawful = true ↔
    (∀ l, (s.ldc.get l).lawful (s.fitted l) s.pins.warning)
      ∧ (s.pins.warning = true → s.ntc.mode.still ∧ s.ecc.mode.still) := by
  have hall (p : Lane → Bool) : Lane.all.all p = true ↔ ∀ l, p l = true := by
    simp only [Lane.all, List.all_cons, List.all_nil, Bool.and_true, Bool.and_eq_true]
    exact ⟨fun h l => by cases l <;> simp [h], fun h => ⟨h _, h _, h _, h _⟩⟩
  simp only [State.drivesLawful, State.solenoidLawful_iff, Ldc.lock, Ldc.lawful, NoteMode.still, EnvMode.still,
    Ntc.mode, Ecc.mode, hall, Bool.and_eq_true, Bool.or_eq_true, Bool.not_eq_true']
  cases s.pins.warning with
  | false => simp [forall_and]
  | true =>
    simp only [forall_and, forall_const, Bool.true_eq_false, false_or]
    tauto

/-- A drawer that is neither EXTENDING nor RETRACTING has its motor at rest (R86). -/
theorem Ldc.driveLawful_iff (d : Ldc) : d.driveLawful = true ↔
    (d.motor = true ↔ d.state = .extending ∨ d.state = .retracting) ∧ (d.motor = true → d.locks = 0) := by
  unfold Ldc.driveLawful
  cases d.motor <;> simp

/-! ## What a change keeps -/

/-- Under a power warning no transport is driven. -/
def State.atRest (s : State) : Prop := s.pins.warning = true → s.ntc.mode.still ∧ s.ecc.mode.still

/-- The pauses stay legal, and the drives lawful, from a state `b` to one with these modes, controllers and number of
fitted lanes, under the power warning `w`. -/
structure Governed (b : State) (n : NoteMode) (e : EnvMode) (d : PerLane Ldc) (f : Nat) (w : Bool) : Prop where
  note : b.ntc.mode.pauseLegal → n.pauseLegal
  env : b.ecc.mode.pauseLegal → e.pauseLegal
  still : b.atRest → w = true → n.still ∧ e.still
  lane : ∀ l, (b.ldc.get l).lawful (b.fitted l) b.pins.warning → (d.get l).lawful (decide (l.num ≤ f)) w

/-- `Governed` as a truth value, which `simp` carries through an operation's frame as it carries an equation. -/
noncomputable def governed (b : State) (n : NoteMode) (e : EnvMode) (d : PerLane Ldc) (f : Nat) (w : Bool) : Bool :=
  @decide (Governed b n e d f w) (Classical.propDecidable _)

variable {b s : State} {n n' : NoteMode} {e e' : EnvMode} {d : PerLane Ldc} {f : Nat} {w : Bool}

theorem governed_iff : governed b n e d f w = true ↔ Governed b n e d f w := by
  rw [governed, @decide_eq_true_iff _ (Classical.propDecidable _)]

theorem governed_refl (s : State) :
    governed s s.ntc.mode s.ecc.mode s.ldc s.set.fittedLanes.value s.pins.warning :=
  governed_iff.mpr ⟨id, id, id, fun _ => id⟩

/-- The note transport alone changes. -/
theorem governed_note (hk : governed b n e d f w) (hp : n.pauseLegal → n'.pauseLegal)
    (hq : w = true → n.still → n'.still) : governed b n' e d f w :=
  have hk := governed_iff.mp hk
  governed_iff.mpr ⟨fun h => hp (hk.note h), hk.env, fun h hw => ⟨hq hw (hk.still h hw).1, (hk.still h hw).2⟩, hk.lane⟩

/-- A motor that runs under a power warning is none that was at rest. -/
theorem governed_running {m : Ntc} (hk : governed b m.mode e d f w) (hm : m.motor = true) (hw : w = true) :
    ¬ b.atRest := fun h => by
  have hf : m.motor = false := ((governed_iff.mp hk).still h hw).1.1
  rw [hm] at hf
  cases hf

/-- The note transport alone changes, driven on as it was. -/
theorem governed_noteRuns (hk : governed b n e d f w) (hp : n.pauseLegal → n'.pauseLegal)
    (hq : w = true → ¬ b.atRest) : governed b n' e d f w :=
  have hk := governed_iff.mp hk
  governed_iff.mpr ⟨fun h => hp (hk.note h), hk.env, fun h hw => absurd h (hq hw), hk.lane⟩

/-- The envelope transport alone changes. -/
theorem governed_env (hk : governed b n e d f w) (hp : e.pauseLegal → e'.pauseLegal)
    (hq : w = true → e.still → e'.still) : governed b n e' d f w :=
  have hk := governed_iff.mp hk
  governed_iff.mpr ⟨hk.note, fun h => hp (hk.env h), fun h hw => ⟨(hk.still h hw).1, hq hw (hk.still h hw).2⟩, hk.lane⟩

/-- One lane's controller alone changes. -/
theorem governed_put (hk : governed b n e d f w) (l : Lane) {x : Ldc}
    (hx : (d.get l).lawful (decide (l.num ≤ f)) w → x.lawful (decide (l.num ≤ f)) w) :
    governed b n e (d.put l x) f w :=
  have hk := governed_iff.mp hk
  governed_iff.mpr ⟨hk.note, hk.env, hk.still, fun k hb => by
    rw [PerLane.get_put]
    split
    · next he => subst he; exact hx (hk.lane k hb)
    · exact hk.lane k hb⟩

/-- The note transport stops, in a state that is not PAUSED. -/
theorem governed_noteHalted (hk : governed b n e d f w) {st : NoteState} (hst : st ≠ .paused) :
    governed b ⟨st, none, false, false⟩ e d f w :=
  governed_note hk (fun _ => hst) fun _ _ => ⟨rfl, rfl⟩

/-- The envelope transport stops, in a state that is not PAUSED. -/
theorem governed_envHalted (hk : governed b n e d f w) {st : EnvState} (hst : st ≠ .paused) :
    governed b n ⟨st, none, false⟩ d f w :=
  governed_env hk (fun _ => hst) fun _ _ => rfl

/-- The note transport stops in its state. -/
@[simp] theorem governed_noteStopped {m : Ntc} (hk : governed b m.mode e d f w) :
    governed b ⟨m.state, m.saved, false, false⟩ e d f w :=
  governed_note hk id fun _ _ => ⟨rfl, rfl⟩

/-- The dump stops. -/
@[simp] theorem governed_dumpStopped {m : Ntc} (hk : governed b m.mode e d f w) :
    governed b ⟨m.state, m.saved, m.motor, false⟩ e d f w :=
  governed_note hk id fun _ h => ⟨h.1, rfl⟩

/-- Without a power warning the note transport's drives may start in its state. -/
@[simp] theorem governed_noteStarts {m : Ntc} (hk : governed b m.mode e d f false) (mo du : Bool) :
    governed b ⟨m.state, m.saved, mo, du⟩ e d f false :=
  governed_note hk id fun h => by cases h

/-- Without a power warning the envelope transport's motor may start in its state. -/
@[simp] theorem governed_envStarts {m : Ecc} (hk : governed b n m.mode d f false) (mo : Bool) :
    governed b n ⟨m.state, m.saved, mo⟩ d f false :=
  governed_env hk id fun h => by cases h

/-- Without a power warning the note transport may be driven. -/
theorem governed_noteDriven (hk : governed b n e d f false) {st : NoteState} {m du : Bool} (hst : st ≠ .paused) :
    governed b ⟨st, none, m, du⟩ e d f false :=
  governed_note hk (fun _ => hst) fun h => by cases h

/-- Without a power warning the envelope transport may be driven. -/
theorem governed_envDriven (hk : governed b n e d f false) {st : EnvState} {m : Bool} (hst : st ≠ .paused) :
    governed b n ⟨st, none, m⟩ d f false :=
  governed_env hk (fun _ => hst) fun h => by cases h

/-- An owner's checks leave the state as it is or let its change be made. -/
theorem State.unless_fst (s : State) (checks : List (Bool × Reply)) (taken : State × Reply) :
    (s.unless checks taken).1 = if firstFailure checks = none then taken.1 else s := by
  unfold State.unless
  cases firstFailure checks <;> rfl

end Sys2Proof.Machine
end

section
/-! PROOF. The note transport under the laws of the drives and of the pauses (R66, R74, R80 to R84). -/

open Sys2Proof Sys2Proof.Machine

namespace Sys2Proof.Machine

variable {b s : State} {n : NoteMode} {e : EnvMode} {d : PerLane Ldc} {f : Nat} {w : Bool}

/-! ## The motor, the dump and the runs -/

@[simp] theorem Settings.applyGauge_fittedLanes (c : Settings) (t : Transport) :
    (c.applyGauge t).fittedLanes = c.fittedLanes := by cases t <;> rfl

@[simp] theorem State.runEnd_fittedLanes (s : State) (t : Transport) :
    (s.runEnd t).set.fittedLanes = s.set.fittedLanes := by
  unfold State.runEnd
  split <;> simp

@[simp] theorem State.startNoteMotor_mode (s : State) :
    s.startNoteMotor.ntc.mode = ⟨s.ntc.state, s.ntc.saved, true, s.ntc.dump⟩ := rfl

@[simp] theorem State.stopNoteMotor_drives (s : State) :
    s.stopNoteMotor.ntc.state = s.ntc.state ∧ s.stopNoteMotor.ntc.saved = s.ntc.saved
      ∧ s.stopNoteMotor.ntc.motor = false ∧ s.stopNoteMotor.ntc.dump = s.ntc.dump := ⟨rfl, rfl, rfl, rfl⟩

@[simp] theorem State.rerunNoteMotor_mode (s : State) :
    s.rerunNoteMotor.ntc.mode = ⟨s.ntc.state, s.ntc.saved, true, s.ntc.dump⟩ := rfl

@[simp] theorem State.startDump_mode (s : State) :
    s.startDump.ntc.mode = ⟨s.ntc.state, s.ntc.saved, s.ntc.motor, true⟩ := rfl

@[simp] theorem State.stopDump_mode (s : State) :
    s.stopDump.ntc.mode = ⟨s.ntc.state, s.ntc.saved, s.ntc.motor, false⟩ := rfl

@[simp] theorem State.openGate_mode (s : State) (l : Lane) : (s.openGate l).ntc.mode = s.ntc.mode := rfl

@[simp] theorem State.closeGate_drives (s : State) :
    s.closeGate.ntc.state = s.ntc.state ∧ s.closeGate.ntc.saved = s.ntc.saved ∧ s.closeGate.ntc.motor = s.ntc.motor
      ∧ s.closeGate.ntc.dump = s.ntc.dump := ⟨rfl, rfl, rfl, rfl⟩

@[simp] theorem State.haltNote_drives (s : State) :
    s.haltNote.ntc.state = s.ntc.state ∧ s.haltNote.ntc.saved = s.ntc.saved ∧ s.haltNote.ntc.motor = false
      ∧ s.haltNote.ntc.dump = false ∧ s.haltNote.ntc.stackerCount = s.ntc.stackerCount := by
  simp only [State.haltNote, State.onNtc_ntc, State.runEnd_frame]
  exact ⟨rfl, rfl, rfl, rfl, rfl⟩

@[simp] theorem State.haltNote_governed (hk : governed b s.ntc.mode e d f w) :
    governed b s.haltNote.ntc.mode e d f w := by
  rw [← Ntc.mode_eta]
  simp [hk]

@[simp] theorem State.haltNote_fittedLanes (s : State) : s.haltNote.set.fittedLanes = s.set.fittedLanes := by
  simp only [State.haltNote, State.onNtc_set, State.runEnd_fittedLanes]
  rfl

@[simp] theorem State.commandPick_mode (s : State) : s.commandPick.ntc.mode = s.ntc.mode := by
  unfold State.commandPick
  (repeat' split) <;> simp

@[simp] theorem State.checkRejectLimit_mode (s : State) : s.checkRejectLimit.ntc.mode = s.ntc.mode := by
  unfold State.checkRejectLimit
  (repeat' split) <;> simp

@[simp] theorem State.joinPath_mode (s : State) (it : PathItem) : (s.joinPath it).ntc.mode = s.ntc.mode := rfl

@[simp] theorem State.noteItemEnd_mode (s : State) : s.noteItemEnd.ntc.mode = s.ntc.mode := rfl

@[simp] theorem State.suspendNote_mode (s : State) :
    s.suspendNote.ntc.mode = ⟨s.ntc.state, s.ntc.saved, false, false⟩ := rfl

@[simp] theorem State.startNoteLeader_mode (s : State) :
    s.startNoteLeader.ntc.mode = ⟨.leader, none, true, s.ntc.dump⟩ := by
  simp [State.startNoteLeader]

/-! ## The leader and the queue -/

@[simp] theorem State.enterNoteLeader_governed (hk : governed b s.ntc.mode e d f w) (hw : s.pins.warning = w) :
    governed b s.enterNoteLeader.ntc.mode e d f w := by
  unfold State.enterNoteLeader
  split
  · exact governed_note hk (fun _ => ⟨rfl, by simp⟩) fun _ h => h
  · split
    · exact governed_note hk (fun _ => by simp) fun _ h => h
    · next hp =>
      rw [hw, Bool.not_eq_true] at hp
      subst hp
      rw [State.startNoteLeader_mode]
      exact governed_noteDriven hk (by simp)

@[simp] theorem State.takeFromQueue_governed (hk : governed b s.ntc.mode e d f w) (h : Handle)
    (hw : s.pins.warning = w) : governed b (s.takeFromQueue h).ntc.mode e d f w := by
  simp [State.takeFromQueue, hk, hw]

@[simp] theorem State.examineQueue_governed (hk : governed b s.ntc.mode e d f w) (hw : s.pins.warning = w) :
    governed b s.examineQueue.ntc.mode e d f w := by
  unfold State.examineQueue
  dsimp only
  (repeat' split) <;> simp [hk, hw]

@[simp] theorem State.enterNoteIdle_governed (hk : governed b s.ntc.mode e d f w) (hw : s.pins.warning = w) :
    governed b s.enterNoteIdle.ntc.mode e d f w :=
  State.examineQueue_governed (governed_note hk (fun _ => by simp) fun _ h => h) hw

/-! ## Endings -/

@[simp] theorem State.enterDiverting_governed (hk : governed b s.ntc.mode e d f w) (hw : s.pins.warning = w) :
    governed b s.enterDiverting.ntc.mode e d f w := by
  unfold State.enterDiverting
  dsimp only
  split
  · next hp => exact governed_note hk (fun _ => ⟨hp, by simp⟩) fun _ h => h
  · have hd : governed b (s.onNtc fun n => { n with state := .diverting, saved := none }).ntc.mode e d f w :=
      governed_note hk (fun _ => by simp) fun _ h => h
    split
    · exact hd
    · next hp =>
      rw [State.onNtc_pins, hw, Bool.not_eq_true] at hp
      subst hp
      exact governed_note hd (fun _ => by simp) fun h => by cases h

@[simp] theorem State.endBundle_governed (hk : governed b s.ntc.mode e d s.set.fittedLanes.value w)
    (x : Ending) (hw : s.pins.warning = w) :
    governed b (s.endBundle x).ntc.mode e d (s.endBundle x).set.fittedLanes.value w := by
  unfold State.endBundle
  split
  · exact hk
  · dsimp only
    split
    · simp [hk, hw]
    · simp [hk, hw]

@[simp] theorem State.decideEnding_governed (hk : governed b s.ntc.mode e d s.set.fittedLanes.value w) (y : Ending)
    (hw : s.pins.warning = w) :
    governed b (s.decideEnding y).ntc.mode e d (s.decideEnding y).set.fittedLanes.value w := by
  unfold State.decideEnding
  (repeat' split) <;> simp [hk, hw]

@[simp] theorem State.cancelInTransport_governed (hk : governed b s.ntc.mode e d s.set.fittedLanes.value w)
    (hw : s.pins.warning = w) :
    governed b s.cancelInTransport.ntc.mode e d s.cancelInTransport.set.fittedLanes.value w := by
  unfold State.cancelInTransport
  (repeat' split) <;> simp [hk, hw]

@[simp] theorem State.doubtsDrawn_governed (hk : governed b s.ntc.mode e d s.set.fittedLanes.value w)
    (h : List Handle) (hw : s.pins.warning = w) :
    governed b (s.doubtsDrawn h).ntc.mode e d (s.doubtsDrawn h).set.fittedLanes.value w := by
  unfold State.doubtsDrawn
  (repeat' split) <;> simp [hk, hw]

@[simp] theorem State.doubtDrawn_governed (hk : governed b s.ntc.mode e d s.set.fittedLanes.value w) (h : Handle)
    (hw : s.pins.warning = w) :
    governed b (s.doubtDrawn h).ntc.mode e d (s.doubtDrawn h).set.fittedLanes.value w := by
  simp [State.doubtDrawn, hk, hw]

@[simp] theorem State.doubtStockInUse_governed (hk : governed b s.ntc.mode e d s.set.fittedLanes.value w)
    (h : Handle) (c : DoubtCause) (hw : s.pins.warning = w) :
    governed b (s.doubtStockInUse h c).ntc.mode e d (s.doubtStockInUse h c).set.fittedLanes.value w := by
  unfold State.doubtStockInUse
  dsimp only
  (repeat' split) <;> simp [hk, hw]

/-! ## Routing -/

/-- A state other than PAUSED goes over into another one. -/
theorem governed_noteEnters {m : Ntc} (hk : governed b m.mode e d f w) (hs : m.state ≠ .paused) {st : NoteState}
    (hst : st ≠ .paused) : governed b ⟨st, m.saved, m.motor, m.dump⟩ e d f w :=
  governed_note hk (fun hp => by rw [show m.saved = none from hp.saved hs]; exact hst) fun _ h => h

theorem State.route_governed (hk : governed b s.ntc.mode e d f w) (h : Handle) (l : Lane) (hs : s.ntc.state ≠ .paused) :
    governed b (s.route h l).ntc.mode e d f w := by
  have hr := governed_noteEnters hk hs (st := .routing) (by simp)
  simpa [State.route] using hr

@[simp] theorem State.checkReady_governed (hk : governed b s.ntc.mode e d f w) :
    governed b s.checkReady.ntc.mode e d f w := by
  unfold State.checkReady
  split
  · next hs =>
    obtain ⟨hs, -⟩ := Bool.and_eq_true_iff.mp hs
    (repeat' split) <;> simp [hk, State.route_governed, of_decide_eq_true hs]
  · exact hk

@[simp] theorem State.completeBundle_governed (hk : governed b s.ntc.mode e d s.set.fittedLanes.value w)
    (hs : s.ntc.state ≠ .paused) :
    governed b s.completeBundle.ntc.mode e d s.completeBundle.set.fittedLanes.value w := by
  unfold State.completeBundle
  split
  · exact hk
  · have hc := governed_noteEnters (State.haltNote_governed hk) (by simpa using hs) (st := .stackedWait) (by simp)
    refine State.checkReady_governed ?_
    simpa using hc

@[simp] theorem State.pickingOn_governed (hk : governed b s.ntc.mode e d s.set.fittedLanes.value w)
    (hw : s.pins.warning = w) :
    governed b s.pickingOn.ntc.mode e d s.pickingOn.set.fittedLanes.value w := by
  unfold State.pickingOn
  split
  · split
    · simp [hk, hw]
    · split
      · exact hk
      · next hp =>
        have hs : s.ntc.state ≠ .paused := fun h => hp (by simp [h])
        (repeat' split) <;> simp [hk, hs]
  · exact hk

@[simp] theorem State.countItem_governed (hk : governed b s.ntc.mode e d s.set.fittedLanes.value w) (h : Handle)
    (good : Bool) (k : Nat) (q : Quality) (learn : Stock → Stock) (hw : s.pins.warning = w) :
    governed b (s.countItem h good k q learn).ntc.mode e d (s.countItem h good k q learn).set.fittedLanes.value
      w := by
  unfold State.countItem
  dsimp only
  (repeat' split) <;> simp [hk, hw]

@[simp] theorem State.noteItemStart_governed (hk : governed b s.ntc.mode e d s.set.fittedLanes.value w)
    (hw : s.pins.warning = w) :
    governed b s.noteItemStart.ntc.mode e d s.noteItemStart.set.fittedLanes.value w := by
  unfold State.noteItemStart
  dsimp only
  (repeat' split) <;> simp [hk, hw]

@[simp] theorem State.noteHandover_governed (hk : governed b s.ntc.mode e d s.set.fittedLanes.value w)
    (ref : ItemStock) (m : Measure) (atLimit : Bool) (hw : s.pins.warning = w) :
    governed b (s.noteHandover ref m atLimit).ntc.mode e d (s.noteHandover ref m atLimit).set.fittedLanes.value
      w := by
  unfold State.noteHandover
  dsimp only
  (repeat' split) <;> simp [hk, hw]

/-! ## Jams, leaders and power warnings -/

@[simp] theorem State.stopTransport_governed (hk : governed b s.ntc.mode e d s.set.fittedLanes.value w)
    (c : DoubtCause) (r : FailReason) (vault : Bool) :
    governed b (s.stopTransport c r vault).ntc.mode e d (s.stopTransport c r vault).set.fittedLanes.value w := by
  unfold State.stopTransport
  dsimp only
  (repeat' split) <;> simp [governed_noteHalted hk]

@[simp] theorem State.noteJam_governed (hk : governed b s.ntc.mode e d s.set.fittedLanes.value w) :
    governed b s.noteJam.ntc.mode e d s.noteJam.set.fittedLanes.value w := by
  simp [State.noteJam, hk]

@[simp] theorem State.noteDoorStop_governed (hk : governed b s.ntc.mode e d s.set.fittedLanes.value w)
    (already : Bool) :
    governed b (s.noteDoorStop already).ntc.mode e d (s.noteDoorStop already).set.fittedLanes.value w := by
  unfold State.noteDoorStop
  (repeat' split) <;> simp [hk]

@[simp] theorem State.finishClear_governed (hk : governed b s.ntc.mode e d s.set.fittedLanes.value w)
    (hw : s.pins.warning = w) :
    governed b s.finishClear.ntc.mode e d s.finishClear.set.fittedLanes.value w := by
  unfold State.finishClear
  split <;> simp [hk, hw, governed_noteHalted hk]

/-- The leader ends in LEADER with the motor running, which under a power warning it is not from rest. -/
theorem State.noteLeaderDone_governed (hk : governed b s.ntc.mode e d s.set.fittedLanes.value w)
    (hw : s.pins.warning = w) (hs : s.ntc.state = .leader) (hq : w = true → ¬ b.atRest) :
    governed b s.noteLeaderDone.ntc.mode e d s.noteLeaderDone.set.fittedLanes.value w := by
  have hs' : s.ntc.state ≠ .paused := by simp [hs]
  unfold State.noteLeaderDone
  split
  · have hp := governed_noteEnters hk hs' (st := .picking) (by simp)
    dsimp only
    split <;> simp [hp, hw]
  · split
    · simp [hk, hw]
    · simpa using governed_noteRuns hk (n' := ⟨s.ntc.state, s.ntc.saved, false, true⟩) (fun h => h) hq

@[simp] theorem State.startRestartNote_governed (hk : governed b s.ntc.mode e d f w) (hw : s.pins.warning = w) :
    governed b s.startRestartNote.ntc.mode e d f w := by
  unfold State.startRestartNote
  (repeat' split) <;> simp [hk, hw]

@[simp] theorem State.pauseNote_governed (hk : governed b s.ntc.mode e d f w) :
    governed b s.pauseNote.ntc.mode e d f w := by
  unfold State.pauseNote
  split
  case h_5 => exact hk
  all_goals
    next hs =>
    exact governed_note hk (fun _ => ⟨rfl, by simp [hs]⟩) fun _ _ => ⟨rfl, rfl⟩

/-- The work goes on without a power warning. -/
theorem State.restartNoteWork_governed (hk : governed b s.ntc.mode e d s.set.fittedLanes.value false)
    (hw : s.pins.warning = false) :
    governed b s.restartNoteWork.ntc.mode e d s.restartNoteWork.set.fittedLanes.value false := by
  unfold State.restartNoteWork
  (repeat' split) <;> simp [hk, hw, governed_noteDriven hk]

@[simp] theorem State.resumeNote_governed (hk : governed b s.ntc.mode e d s.set.fittedLanes.value w)
    (hw : s.pins.warning = w) :
    governed b s.resumeNote.ntc.mode e d s.resumeNote.set.fittedLanes.value w := by
  unfold State.resumeNote
  split
  · next st hs hsv =>
    have hp : s.ntc.phase = st := by simp [Ntc.phase, hs, hsv]
    have hk' : governed b (s.onNtc fun n => { n with state := st, saved := none }).ntc.mode e d
        s.set.fittedLanes.value w := governed_note hk (fun h => hp ▸ h.phase) fun _ h => h
    cases w with
    | true => simpa [hw] using hk'
    | false => simpa [hw] using State.restartNoteWork_governed hk' hw
  · exact hk

@[simp] theorem State.warnNote_governed (hk : governed b s.ntc.mode e d s.set.fittedLanes.value w) :
    governed b s.warnNote.ntc.mode e d s.warnNote.set.fittedLanes.value w := by
  have hk' : governed b ⟨s.ntc.phase, none, false, false⟩ e d s.set.fittedLanes.value w :=
    governed_note hk (fun h => h.phase) fun _ _ => ⟨rfl, rfl⟩
  simpa [State.warnNote] using hk'

@[simp] theorem State.endWarnNote_governed (hk : governed b s.ntc.mode e d s.set.fittedLanes.value w)
    (hw : s.pins.warning = w) :
    governed b s.endWarnNote.ntc.mode e d s.endWarnNote.set.fittedLanes.value w := by
  unfold State.endWarnNote
  dsimp only
  (repeat' split) <;> simp [hk, hw]

@[simp] theorem State.substitute_governed (hk : governed b s.ntc.mode e d s.set.fittedLanes.value w) (h : Handle)
    (denom : Nat) (hw : s.pins.warning = w) :
    governed b (s.substitute h denom).ntc.mode e d (s.substitute h denom).set.fittedLanes.value w := by
  unfold State.substitute
  dsimp only
  (repeat' split) <;> simp [hk, hw]

@[simp] theorem State.failPick_governed (hk : governed b s.ntc.mode e d s.set.fittedLanes.value w)
    (hw : s.pins.warning = w) :
    governed b s.failPick.ntc.mode e d s.failPick.set.fittedLanes.value w := by
  unfold State.failPick
  dsimp only
  (repeat' split) <;> simp [hk, hw]

@[simp] theorem State.exitDiverter_governed (hk : governed b s.ntc.mode e d s.set.fittedLanes.value w)
    (hw : s.pins.warning = w) :
    governed b s.exitDiverter.ntc.mode e d s.exitDiverter.set.fittedLanes.value w := by
  unfold State.exitDiverter
  dsimp only
  (repeat' split) <;> simp [hk, hw]

@[simp] theorem State.emptyStacker_governed (hk : governed b s.ntc.mode e d s.set.fittedLanes.value w)
    (hw : s.pins.warning = w) :
    governed b s.emptyStacker.ntc.mode e d s.emptyStacker.set.fittedLanes.value w := by
  unfold State.emptyStacker
  dsimp only
  (repeat' split) <;> simp [hk, hw]

@[simp] theorem State.stackerWaitOut_governed (hk : governed b s.ntc.mode e d s.set.fittedLanes.value w)
    (hw : s.pins.warning = w) :
    governed b s.stackerWaitOut.ntc.mode e d s.stackerWaitOut.set.fittedLanes.value w := by
  unfold State.stackerWaitOut
  (repeat' split) <;> simp [hk, hw]

end Sys2Proof.Machine
end

section
/-! PROOF. The envelope transport under the laws of the drives and of the pauses (R106 to R120). -/

open Sys2Proof Sys2Proof.Machine

namespace Sys2Proof.Machine

variable {b s : State} {n : NoteMode} {e : EnvMode} {d : PerLane Ldc} {f : Nat} {w : Bool}

/-! ## The motor, the throats and the runs -/

@[simp] theorem State.startEnvMotor_mode (s : State) :
    s.startEnvMotor.ecc.mode = ⟨s.ecc.state, s.ecc.saved, true⟩ := rfl

@[simp] theorem State.rerunEnvMotor_mode (s : State) :
    s.rerunEnvMotor.ecc.mode = ⟨s.ecc.state, s.ecc.saved, true⟩ := rfl

@[simp] theorem State.haltEnv_drives (s : State) :
    s.haltEnv.ecc.state = s.ecc.state ∧ s.haltEnv.ecc.saved = s.ecc.saved ∧ s.haltEnv.ecc.motor = false := by
  simp only [State.haltEnv, State.onEcc_ecc, State.runEnd_frame]
  exact ⟨rfl, rfl, rfl⟩

@[simp] theorem State.haltEnv_fittedLanes (s : State) : s.haltEnv.set.fittedLanes = s.set.fittedLanes := by
  simp only [State.haltEnv, State.onEcc_set, State.runEnd_fittedLanes]
  rfl

@[simp] theorem State.onThroat_drives (s : State) (t : Throat) (g : ThroatUnit → ThroatUnit) :
    (s.onThroat t g).ecc.state = s.ecc.state ∧ (s.onThroat t g).ecc.saved = s.ecc.saved
      ∧ (s.onThroat t g).ecc.motor = s.ecc.motor ∧ (s.onThroat t g).ecc.current = s.ecc.current := ⟨rfl, rfl, rfl, rfl⟩

@[simp] theorem State.onThroat_mode (s : State) (t : Throat) (g : ThroatUnit → ThroatUnit) :
    (s.onThroat t g).ecc.mode = s.ecc.mode := rfl

@[simp] theorem State.examineThroats_mode (s : State) : s.examineThroats.ecc.mode = s.ecc.mode := rfl

@[simp] theorem State.settleThroat_mode (s : State) (t : Throat) : (s.settleThroat t).ecc.mode = s.ecc.mode := rfl

@[simp] theorem State.backToOverdue_mode (s : State) (t : Throat) : (s.backToOverdue t).ecc.mode = s.ecc.mode := rfl

@[simp] theorem State.backToWaiting_mode (s : State) (t : Throat) : (s.backToWaiting t).ecc.mode = s.ecc.mode := rfl

@[simp] theorem State.settleThroat_drives (s : State) (t : Throat) :
    (s.settleThroat t).ecc.state = s.ecc.state ∧ (s.settleThroat t).ecc.saved = s.ecc.saved
      ∧ (s.settleThroat t).ecc.motor = s.ecc.motor ∧ (s.settleThroat t).ecc.current = s.ecc.current :=
        ⟨rfl, rfl, rfl, rfl⟩

@[simp] theorem State.backToOverdue_drives (s : State) (t : Throat) :
    (s.backToOverdue t).ecc.state = s.ecc.state ∧ (s.backToOverdue t).ecc.saved = s.ecc.saved
      ∧ (s.backToOverdue t).ecc.motor = s.ecc.motor ∧ (s.backToOverdue t).ecc.current = s.ecc.current :=
        ⟨rfl, rfl, rfl, rfl⟩

@[simp] theorem State.backToWaiting_drives (s : State) (t : Throat) :
    (s.backToWaiting t).ecc.state = s.ecc.state ∧ (s.backToWaiting t).ecc.saved = s.ecc.saved
      ∧ (s.backToWaiting t).ecc.motor = s.ecc.motor ∧ (s.backToWaiting t).ecc.current = s.ecc.current :=
        ⟨rfl, rfl, rfl, rfl⟩

@[simp] theorem State.onCurrent_mode (s : State) (g : CurrentEnv → CurrentEnv) :
    (s.onCurrent g).ecc.mode = s.ecc.mode := rfl

@[simp] theorem State.onCurrent_drives (s : State) (g : CurrentEnv → CurrentEnv) :
    (s.onCurrent g).ecc.state = s.ecc.state ∧ (s.onCurrent g).ecc.saved = s.ecc.saved
      ∧ (s.onCurrent g).ecc.motor = s.ecc.motor := ⟨rfl, rfl, rfl⟩

@[simp] theorem State.envItemEnd_mode (s : State) : s.envItemEnd.ecc.mode = s.ecc.mode := rfl

@[simp] theorem State.passGate_mode (s : State) (k : BinId) : (s.passGate k).ecc.mode = s.ecc.mode := rfl

@[simp] theorem State.imprinterSays_mode (s : State) (printed : Bool) :
    (s.imprinterSays printed).ecc.mode = s.ecc.mode := rfl

@[simp] theorem State.suspendEnv_mode (s : State) :
    s.suspendEnv.ecc.mode = ⟨s.ecc.state, s.ecc.saved, false⟩ := rfl

@[simp] theorem State.startEnvLeader_mode (s : State) : s.startEnvLeader.ecc.mode = ⟨.leader, none, true⟩ := by
  simp [State.startEnvLeader]

@[simp] theorem State.enterEnvIdle_mode (s : State) : s.enterEnvIdle.ecc.mode = ⟨.idle, none, s.ecc.motor⟩ := rfl

/-- A state other than PAUSED goes over into another one. -/
theorem governed_envEnters {m : Ecc} (hk : governed b n m.mode d f w) (hs : m.state ≠ .paused) {st : EnvState}
    (hst : st ≠ .paused) : governed b n ⟨st, m.saved, m.motor⟩ d f w :=
  governed_env hk (fun hp => by rw [show m.saved = none from hp.saved hs]; exact hst) fun _ h => h

/-! ## The leader and the arbiter -/

@[simp] theorem State.enterEnvLeader_governed (hk : governed b n s.ecc.mode d f w) (hw : s.pins.warning = w) :
    governed b n s.enterEnvLeader.ecc.mode d f w := by
  unfold State.enterEnvLeader
  split
  · exact governed_env hk (fun _ => ⟨rfl, by simp⟩) fun _ h => h
  · split
    · exact governed_env hk (fun _ => by simp) fun _ h => h
    · next hp =>
      rw [hw, Bool.not_eq_true] at hp
      subst hp
      rw [State.startEnvLeader_mode]
      exact governed_envDriven hk (by simp)

@[simp] theorem State.takeThroat_governed (hk : governed b n s.ecc.mode d f w) (t : Throat) (recapture : Bool)
    (hw : s.pins.warning = w) :
    governed b n (s.takeThroat t recapture).ecc.mode d f w := by
  simp [State.takeThroat, hk, hw]

@[simp] theorem State.arbitrate_governed (hk : governed b n s.ecc.mode d s.set.fittedLanes.value w)
    (hw : s.pins.warning = w) :
    governed b n s.arbitrate.ecc.mode d s.arbitrate.set.fittedLanes.value w := by
  unfold State.arbitrate
  (repeat' split) <;> simp [hk, hw]

@[simp] theorem State.followOpen_governed (hk : governed b n s.ecc.mode d s.set.fittedLanes.value w) (before : Bool)
    (hw : s.pins.warning = w) :
    governed b n (s.followOpen before).ecc.mode d (s.followOpen before).set.fittedLanes.value w := by
  unfold State.followOpen
  (repeat' split) <;> simp [hk, hw]

/-! ## Ends of the work, returns and the destination -/

@[simp] theorem State.stopEnvTransport_governed (hk : governed b n s.ecc.mode d s.set.fittedLanes.value w)
    (c : DoubtCause) (hw : s.pins.warning = w) :
    governed b n (s.stopEnvTransport c).ecc.mode d (s.stopEnvTransport c).set.fittedLanes.value w := by
  unfold State.stopEnvTransport
  dsimp only
  (repeat' split) <;> simp [hw, governed_envHalted hk]

@[simp] theorem State.envJam_governed (hk : governed b n s.ecc.mode d s.set.fittedLanes.value w)
    (hw : s.pins.warning = w) :
    governed b n s.envJam.ecc.mode d s.envJam.set.fittedLanes.value w := by
  simp [State.envJam, hk, hw]

@[simp] theorem State.finishEnvClear_governed (hk : governed b n s.ecc.mode d s.set.fittedLanes.value w)
    (hw : s.pins.warning = w) :
    governed b n s.finishEnvClear.ecc.mode d s.finishEnvClear.set.fittedLanes.value w := by
  unfold State.finishEnvClear
  dsimp only
  split <;> simp [hw, governed_envHalted hk]

@[simp] theorem State.dropLeader_governed (hk : governed b n s.ecc.mode d s.set.fittedLanes.value w)
    (hw : s.pins.warning = w) :
    governed b n s.dropLeader.ecc.mode d s.dropLeader.set.fittedLanes.value w := by
  have hi := governed_envHalted hk (st := .idle) (by simp)
  unfold State.dropLeader
  dsimp only
  (repeat' split) <;> simp [hk, hw, hi]

@[simp] theorem State.completeReturn_governed (hk : governed b n s.ecc.mode d s.set.fittedLanes.value w)
    (hw : s.pins.warning = w) :
    governed b n s.completeReturn.ecc.mode d s.completeReturn.set.fittedLanes.value w := by
  have hi := governed_envHalted hk (st := .idle) (by simp)
  unfold State.completeReturn
  dsimp only
  (repeat' split) <;> simp [hk, hw, hi]

/-- The transport reverses without a power warning. -/
theorem State.startReverse_governed (hk : governed b n s.ecc.mode d s.set.fittedLanes.value false)
    (hw : s.pins.warning = false) :
    governed b n s.startReverse.ecc.mode d s.startReverse.set.fittedLanes.value false := by
  unfold State.startReverse
  dsimp only
  (repeat' split) <;> simp [hk, hw, governed_envDriven hk]

@[simp] theorem State.reverseEnv_governed (hk : governed b n s.ecc.mode d s.set.fittedLanes.value w)
    (hw : s.pins.warning = w) :
    governed b n s.reverseEnv.ecc.mode d s.reverseEnv.set.fittedLanes.value w := by
  unfold State.reverseEnv
  split
  · next hs => exact governed_env hk (fun _ => ⟨hs, by simp⟩) fun _ h => h
  · next hs =>
    split
    · simp [governed_envEnters hk hs]
    · next hp =>
      rw [hw, Bool.not_eq_true] at hp
      subst hp
      exact State.startReverse_governed hk hw

@[simp] theorem State.recheckDestination_governed (hk : governed b n s.ecc.mode d s.set.fittedLanes.value w)
    (held : Bool) (hw : s.pins.warning = w) :
    governed b n (s.recheckDestination held).ecc.mode d (s.recheckDestination held).set.fittedLanes.value w := by
  unfold State.recheckDestination
  (repeat' split) <;> simp [hk, hw]

@[simp] theorem State.envItemStart_governed (hk : governed b n s.ecc.mode d s.set.fittedLanes.value w)
    (hw : s.pins.warning = w) :
    governed b n s.envItemStart.ecc.mode d s.envItemStart.set.fittedLanes.value w := by
  unfold State.envItemStart
  dsimp only
  (repeat' split) <;> simp [hk, hw]

@[simp] theorem State.envHandover_governed (hk : governed b n s.ecc.mode d s.set.fittedLanes.value w) (m : Measure)
    (atLimit : Bool) (hw : s.pins.warning = w) :
    governed b n (s.envHandover m atLimit).ecc.mode d (s.envHandover m atLimit).set.fittedLanes.value w := by
  unfold State.envHandover
  split
  · next hm =>
    have hs : s.ecc.state ≠ .paused := by
      rw [of_decide_eq_true (Bool.and_eq_true_iff.mp hm).1]
      simp
    dsimp only
    (repeat' split) <;> simp [hk, hw, governed_envEnters hk hs]
  · exact hk

@[simp] theorem State.pauseEnv_governed (hk : governed b n s.ecc.mode d f w) :
    governed b n s.pauseEnv.ecc.mode d f w := by
  unfold State.pauseEnv
  split
  case h_6 => exact hk
  all_goals
    next hs =>
    exact governed_env hk (fun _ => ⟨rfl, by simp [hs]⟩) fun _ _ => rfl

@[simp] theorem State.startRestartEnv_governed (hk : governed b n s.ecc.mode d f w) (hw : s.pins.warning = w) :
    governed b n s.startRestartEnv.ecc.mode d f w := by
  unfold State.startRestartEnv
  (repeat' split) <;> simp [hk, hw]

@[simp] theorem State.intakeOut_governed (hk : governed b n s.ecc.mode d s.set.fittedLanes.value w)
    (hw : s.pins.warning = w) :
    governed b n s.intakeOut.ecc.mode d s.intakeOut.set.fittedLanes.value w := by
  have hi := governed_envHalted hk (st := .idle) (by simp)
  unfold State.intakeOut
  dsimp only
  (repeat' split) <;> simp [hk, hw, hi]

@[simp] theorem State.gateReport_governed (hk : governed b n s.ecc.mode d s.set.fittedLanes.value w)
    (hw : s.pins.warning = w) :
    governed b n s.gateReport.ecc.mode d s.gateReport.set.fittedLanes.value w := by
  unfold State.gateReport
  (repeat' split) <;> simp [hk, hw]

@[simp] theorem State.capture_governed (hk : governed b n s.ecc.mode d s.set.fittedLanes.value w) (y : CurrentEnv)
    (k : Nat) (h : Handle) (x : BinId) (hw : s.pins.warning = w) :
    governed b n (s.capture y k h x).ecc.mode d (s.capture y k h x).set.fittedLanes.value w := by
  have hi := governed_envHalted hk (st := .idle) (by simp)
  simp [State.capture, hi, hw]

@[simp] theorem State.binReport_governed (hk : governed b n s.ecc.mode d s.set.fittedLanes.value w) (x : BinId)
    (hw : s.pins.warning = w) :
    governed b n (s.binReport x).ecc.mode d (s.binReport x).set.fittedLanes.value w := by
  unfold State.binReport
  (repeat' split) <;> simp [hk, hw]

@[simp] theorem State.recaptureOut_governed (hk : governed b n s.ecc.mode d s.set.fittedLanes.value w)
    (hw : s.pins.warning = w) :
    governed b n s.recaptureOut.ecc.mode d s.recaptureOut.set.fittedLanes.value w := by
  have hi := governed_envHalted hk (st := .idle) (by simp)
  unfold State.recaptureOut
  (repeat' split) <;> simp [hk, hw, hi]

@[simp] theorem State.waitOut_governed (hk : governed b n s.ecc.mode d s.set.fittedLanes.value w) (t : Throat)
    (hw : s.pins.warning = w) :
    governed b n (s.waitOut t).ecc.mode d (s.waitOut t).set.fittedLanes.value w := by
  unfold State.waitOut
  dsimp only
  (repeat' split) <;> simp [hk, hw]

@[simp] theorem State.throatChange_governed (hk : governed b n s.ecc.mode d s.set.fittedLanes.value w) (t : Throat)
    (here : Bool) (hw : s.pins.warning = w) :
    governed b n (s.throatChange t here).ecc.mode d (s.throatChange t here).set.fittedLanes.value w := by
  unfold State.throatChange
  dsimp only
  (repeat' split) <;> simp [hk, hw]

/-! ## The lift of a pause, and power warnings -/

/-- The travel goes on without a power warning. -/
theorem State.restartEnvTravel_governed (hk : governed b n s.ecc.mode d f false) (g : Feed) :
    governed b n (s.restartEnvTravel g).ecc.mode d f false := by
  simp [State.restartEnvTravel, hk]

/-- The work goes on without a power warning. -/
theorem State.restartEnvWork_governed (hk : governed b n s.ecc.mode d s.set.fittedLanes.value false)
    (hw : s.pins.warning = false) :
    governed b n s.restartEnvWork.ecc.mode d s.restartEnvWork.set.fittedLanes.value false := by
  unfold State.restartEnvWork
  (repeat' split) <;>
    simp [hk, hw, governed_envDriven hk, State.startReverse_governed, State.restartEnvTravel_governed]

@[simp] theorem State.resumeEnv_governed (hk : governed b n s.ecc.mode d s.set.fittedLanes.value w)
    (hw : s.pins.warning = w) :
    governed b n s.resumeEnv.ecc.mode d s.resumeEnv.set.fittedLanes.value w := by
  unfold State.resumeEnv
  split
  · next st hs hsv =>
    have hp : s.ecc.phase = st := by simp [Ecc.phase, hs, hsv]
    have hk' : governed b n (s.onEcc fun x => { x with state := st, saved := none }).ecc.mode d
        s.set.fittedLanes.value w := governed_env hk (fun h => hp ▸ h.phase) fun _ h => h
    refine State.arbitrate_governed ?_ (by split <;> simpa using hw)
    cases w with
    | true => simpa [hw] using hk'
    | false => simpa [hw] using State.restartEnvWork_governed hk' hw
  · simp [hk, hw]

@[simp] theorem State.endWarnEnv_governed (hk : governed b n s.ecc.mode d s.set.fittedLanes.value w) (before : Bool)
    (hw : s.pins.warning = w) :
    governed b n (s.endWarnEnv before).ecc.mode d (s.endWarnEnv before).set.fittedLanes.value w := by
  unfold State.endWarnEnv
  refine State.arbitrate_governed (State.followOpen_governed ?_ before ?_) ?_
  all_goals (repeat' split) <;> simp [hk, hw]

/-! ## Signals and events -/

/-- The leader ends in LEADER. -/
theorem State.envLeaderDone_governed (hk : governed b n s.ecc.mode d s.set.fittedLanes.value w)
    (hw : s.pins.warning = w) (hs : s.ecc.state = .leader) :
    governed b n s.envLeaderDone.ecc.mode d s.envLeaderDone.set.fittedLanes.value w := by
  have hs' : s.ecc.state ≠ .paused := by simp [hs]
  unfold State.envLeaderDone
  dsimp only
  (repeat' split) <;> simp [hk, hw, governed_envEnters hk hs']

@[simp] theorem State.envSignal_governed (hk : governed b n s.ecc.mode d s.set.fittedLanes.value w) (c : GaugeSignal)
    (hw : s.pins.warning = w) :
    governed b n (s.envSignal c).ecc.mode d (s.envSignal c).set.fittedLanes.value w := by
  cases c <;> simp [State.envSignal, hk, hw]

@[simp] theorem State.envLeaderPulse_governed (hk : governed b n s.ecc.mode d s.set.fittedLanes.value w)
    (hw : s.pins.warning = w) :
    governed b n s.envLeaderPulse.ecc.mode d s.envLeaderPulse.set.fittedLanes.value w := by
  unfold State.envLeaderPulse
  split
  · next hs =>
    dsimp only
    split
    · exact State.envLeaderDone_governed hk hw hs
    · exact hk
  · exact hk

@[simp] theorem State.envPulse_governed (hk : governed b n s.ecc.mode d s.set.fittedLanes.value w) (a x : Nat)
    (hw : s.pins.warning = w) :
    governed b n (s.envPulse a x).ecc.mode d (s.envPulse a x).set.fittedLanes.value w := by
  unfold State.envPulse
  dsimp only
  split
  · have hf := List.foldlRecOn (s.gmu.envelope.pulse .envelope (s.set.gauge .envelope) a x none).2 State.envSignal
      (motive := fun t => governed b n t.ecc.mode d t.set.fittedLanes.value w ∧ t.pins.warning = w)
      (b := (s.onEcc fun z => { z with stallTimer := .running Config.stallLimit }).onGmu fun g =>
        { g with envelope := (s.gmu.envelope.pulse .envelope (s.set.gauge .envelope) a x none).1 })
      ⟨hk, hw⟩ fun t ht c _ => ⟨State.envSignal_governed ht.1 c ht.2, by simp [ht.2]⟩
    split
    · exact hf.1
    · exact State.envLeaderPulse_governed hf.1 hf.2
  · exact hk

@[simp] theorem State.envEnds_governed (hk : governed b n s.ecc.mode d s.set.fittedLanes.value w) (m : Measure)
    (hw : s.pins.warning = w) :
    governed b n (s.envEnds m).ecc.mode d (s.envEnds m).set.fittedLanes.value w := by
  unfold State.envEnds
  dsimp only
  (repeat' split) <;> simp [hk, hw]

@[simp] theorem State.envAtLimit_governed (hk : governed b n s.ecc.mode d s.set.fittedLanes.value w)
    (thickness skew : Nat) (hw : s.pins.warning = w) :
    governed b n (s.envAtLimit thickness skew).ecc.mode d (s.envAtLimit thickness skew).set.fittedLanes.value w := by
  unfold State.envAtLimit
  dsimp only
  (repeat' split) <;> simp [hk, hw]

@[simp] theorem State.envLeaderOver_governed (hk : governed b n s.ecc.mode d s.set.fittedLanes.value w)
    (hw : s.pins.warning = w) :
    governed b n s.envLeaderOver.ecc.mode d s.envLeaderOver.set.fittedLanes.value w := by
  unfold State.envLeaderOver
  split
  · next h =>
    simp only [Bool.and_eq_true, decide_eq_true_eq] at h
    exact State.envLeaderDone_governed hk hw h.1.1
  · exact hk

end Sys2Proof.Machine
end

section
/-! PROOF. The signals of the note transport's gauges and the drawers under the laws of the drives and of the pauses
(R66 to R70, R85 to R104). -/

open Sys2Proof Sys2Proof.Machine

namespace Sys2Proof.Machine

variable {b s : State} {n : NoteMode} {e : EnvMode} {d : PerLane Ldc} {f : Nat} {w : Bool}

/-! ## Signals and events of the note transport -/

@[simp] theorem State.noteSignal_governed (hk : governed b s.ntc.mode e d s.set.fittedLanes.value w)
    (ref : Option ItemStock) (c : GaugeSignal) (hw : s.pins.warning = w) :
    governed b (State.noteSignal ref s c).ntc.mode e d (State.noteSignal ref s c).set.fittedLanes.value w := by
  cases c with
  | handover m atLimit => cases ref <;> simp [State.noteSignal, hk, hw]
  | _ => simp [State.noteSignal, hk, hw]

/-- A pulse of the leader comes while the motor runs. -/
theorem State.noteLeaderPulse_governed (hk : governed b s.ntc.mode e d s.set.fittedLanes.value w)
    (hw : s.pins.warning = w) (hq : w = true → ¬ b.atRest) :
    governed b s.noteLeaderPulse.ntc.mode e d s.noteLeaderPulse.set.fittedLanes.value w := by
  unfold State.noteLeaderPulse
  split
  · next h =>
    obtain ⟨hs, -⟩ := Bool.and_eq_true_iff.mp h
    dsimp only
    split
    · exact State.noteLeaderDone_governed hk hw (of_decide_eq_true hs) hq
    · exact hk
  · exact hk

@[simp] theorem State.notePulse_governed (hk : governed b s.ntc.mode e d s.set.fittedLanes.value w) (a x : Nat)
    (hw : s.pins.warning = w) :
    governed b (s.notePulse a x).ntc.mode e d (s.notePulse a x).set.fittedLanes.value w := by
  unfold State.notePulse
  dsimp only
  split
  · next hm =>
    have hf := List.foldlRecOn (s.gmu.note.pulse .note (s.set.gauge .note) a x s.startingStock).2
      (State.noteSignal (s.gmu.note.item.bind (·.stock)))
      (motive := fun t => governed b t.ntc.mode e d t.set.fittedLanes.value w ∧ t.pins.warning = w)
      (b := (s.onNtc fun z => { z with stallTimer := .running Config.stallLimit }).onGmu fun g =>
        { g with note := (s.gmu.note.pulse .note (s.set.gauge .note) a x s.startingStock).1 })
      ⟨hk, hw⟩ fun t ht c _ => ⟨State.noteSignal_governed ht.1 _ c ht.2, by simp [ht.2]⟩
    split
    · exact hf.1
    · exact State.noteLeaderPulse_governed hf.1 hf.2 (governed_running hk hm)
  · exact hk

@[simp] theorem State.noteEnds_governed (hk : governed b s.ntc.mode e d s.set.fittedLanes.value w) (m : Measure)
    (hw : s.pins.warning = w) :
    governed b (s.noteEnds m).ntc.mode e d (s.noteEnds m).set.fittedLanes.value w := by
  unfold State.noteEnds
  dsimp only
  (repeat' split) <;> simp [hk, hw]

@[simp] theorem State.noteAtLimit_governed (hk : governed b s.ntc.mode e d s.set.fittedLanes.value w)
    (hw : s.pins.warning = w) :
    governed b s.noteAtLimit.ntc.mode e d s.noteAtLimit.set.fittedLanes.value w := by
  unfold State.noteAtLimit
  dsimp only
  (repeat' split) <;> simp [hk, hw]

@[simp] theorem State.noteLeaderOver_governed (hk : governed b s.ntc.mode e d s.set.fittedLanes.value w)
    (empty : Bool) (hw : s.pins.warning = w) :
    governed b (s.noteLeaderOver empty).ntc.mode e d (s.noteLeaderOver empty).set.fittedLanes.value w := by
  unfold State.noteLeaderOver
  split
  · next h =>
    simp only [Bool.and_eq_true, decide_eq_true_eq] at h
    exact State.noteLeaderDone_governed hk hw h.1.1.1 (governed_running hk h.1.1.2)
  · exact hk

/-! ## What the drawers' operations write -/

@[simp] theorem PerLane.put_put {α : Type} (p : PerLane α) (k : Lane) (u v : α) : (p.put k u).put k v = p.put k v := by
  cases k <;> rfl

/-- A motion starts under a new limit, and under a power warning stands halted (R86, R104). -/
theorem State.startMotion_ldc (s : State) (l : Lane) (m : Motion) :
    (s.startMotion l m).ldc = s.ldc.put l (if s.pins.warning then
      { s.ldc.get l with state := .stopped, halted := some m, motor := false, motion := .stopped }
      else { s.ldc.get l with
        state := m.state, halted := none, motor := true, motion := .running Config.motionLimit }) := by
  unfold State.startMotion
  split <;> simp [State.stopDrawer, State.driveDrawer]

/-- A motion that is stopped is kept as the halted one (R100, R104). -/
theorem State.haltDrawer_ldc_of_moving {s : State} {l : Lane} {m : Motion} (h : (s.ldc.get l).state = m.state) :
    (s.haltDrawer l).ldc = s.ldc.put l { s.ldc.get l with
      state := .stopped, halted := some m, motor := false, motion := .stopped } := by
  cases m <;> simp [State.haltDrawer, h, Motion.state, State.stopDrawer]

/-- A drawer that does not move has nothing to stop. -/
theorem State.haltDrawer_of_not_moving {s : State} {l : Lane} (h : ∀ m, (s.ldc.get l).state ≠ Motion.state m) :
    s.haltDrawer l = s := by
  unfold State.haltDrawer
  split
  · next he => exact absurd he (h .extending)
  · next he => exact absurd he (h .retracting)
  · rfl

/-- A drawer moves or it does not. -/
theorem State.moving_or_not (s : State) (l : Lane) :
    (∃ m, (s.ldc.get l).state = Motion.state m) ∨ ∀ m, (s.ldc.get l).state ≠ Motion.state m := by
  by_cases h : ∃ m, (s.ldc.get l).state = Motion.state m
  · exact .inl h
  · exact .inr fun m he => h ⟨m, he⟩

/-- The drawer stands at HOME with its motor at rest (R86). -/
theorem State.enterHome_ldc (s : State) (l : Lane) (flag : Bool) :
    (s.enterHome l flag).ldc = s.ldc.put l { s.ldc.get l with
      state := .home, halted := none, motor := false, motion := .stopped, restartHoming := false } := by
  cases flag <;> simp [State.enterHome, State.stopDrawer]

/-- The drawer stands OUT with its motor at rest and its take timer started (R86, R90). -/
theorem State.enterOut_ldc (s : State) (l : Lane) : ∃ t, (s.enterOut l).ldc = s.ldc.put l { s.ldc.get l with
      state := .out, halted := none, motor := false, motion := .stopped, take := t, restartHoming := false } := by
  refine ⟨if s.pins.warning then .frozen (s.set.takeTimeout * 1000) else .running (s.set.takeTimeout * 1000), ?_⟩
  unfold State.enterOut State.startTake
  dsimp only
  split <;> simp [State.stopDrawer]

/-- A drawer stops (R86). -/
theorem State.stopDrawer_ldc (s : State) (l : Lane) :
    (s.stopDrawer l).ldc = s.ldc.put l { s.ldc.get l with motor := false, motion := .stopped } := rfl

@[simp] theorem State.stopTake_locked (s : State) (l : Lane) : (s.stopTake l).locked l = s.locked l := by
  simp [State.stopTake, State.locked]

/-! ## The law of one drawer -/

theorem Ldc.lawful.same {x y : Ldc} {i : Bool} (h : y.lawful i w) (hs : x.state = y.state) (hm : x.motor = y.motor)
    (hl : x.locks = y.locks) (ho : x.solenoid = y.solenoid) : x.lawful i w := by
  simpa only [Ldc.lawful, Ldc.driveLawful_iff, hs, hm, hl, ho] using h

/-- A drawer that stops. -/
theorem Ldc.lawful.stops {x y : Ldc} {i : Bool} (h : y.lawful i w) (hm : x.motor = false)
    (hs : x.state ≠ .extending ∧ x.state ≠ .retracting) (hl : x.locks = y.locks) (ho : x.solenoid = y.solenoid) :
    x.lawful i w := by
  refine ⟨(Ldc.driveLawful_iff x).mpr ?_, ?_, fun _ => hm⟩
  · simp [hm, hs]
  · rw [hl, ho]
    exact h.2.1

/-- A drawer of an unlocked lane that moves, with no power warning. -/
theorem Ldc.lawful.moves {x y : Ldc} {i : Bool} (h : y.lawful i w) (hw : w = false) (hm : x.motor = true)
    (hs : x.state = .extending ∨ x.state = .retracting) (h0 : y.locks = 0) (hl : x.locks = y.locks)
    (ho : x.solenoid = y.solenoid) : x.lawful i w := by
  refine ⟨(Ldc.driveLawful_iff x).mpr ?_, ?_, fun h => by rw [hw] at h; cases h⟩
  · simp [hm, hs, hl, h0]
  · rw [hl, ho]
    exact h.2.1

/-- A drawer that does not move has its motor at rest. -/
theorem Ldc.lawful.motor {x : Ldc} {i : Bool} (h : x.lawful i w) (hs : x.state ≠ .extending ∧ x.state ≠ .retracting) :
    x.motor = false := by
  by_contra hm
  rw [Bool.not_eq_false] at hm
  exact (((Ldc.driveLawful_iff x).mp h.1).1.mp hm).elim hs.1 hs.2

theorem Motion.state_moves (m : Motion) : m.state = .extending ∨ m.state = .retracting := by
  cases m <;> simp [Motion.state]

theorem State.locked_eq_false {s : State} {l : Lane} : s.locked l = false ↔ (s.ldc.get l).locks = 0 := by
  simp [State.locked]

/-! ## Motions and arrivals -/

theorem State.startMotion_governed (hk : governed b n e s.ldc f w) (l : Lane) (m : Motion) (hw : s.pins.warning = w)
    (hl : s.locked l = false) :
    governed b n e (s.startMotion l m).ldc f w := by
  rw [State.startMotion_ldc]
  split
  · exact governed_put hk l fun h => h.stops rfl (by simp) rfl rfl
  · next hp =>
    rw [hw, Bool.not_eq_true] at hp
    exact governed_put hk l fun h => h.moves hp rfl m.state_moves (State.locked_eq_false.mp hl) rfl rfl

@[simp] theorem State.startTake_governed (hk : governed b n e s.ldc f w) (l : Lane) :
    governed b n e (s.startTake l).ldc f w :=
  governed_put hk l fun h => h.same rfl rfl rfl rfl

@[simp] theorem State.stopTake_governed (hk : governed b n e s.ldc f w) (l : Lane) :
    governed b n e (s.stopTake l).ldc f w :=
  governed_put hk l fun h => h.same rfl rfl rfl rfl

@[simp] theorem State.reportLane_governed (hk : governed b s.ntc.mode e d f w) (l : Lane) :
    governed b (s.reportLane l).ntc.mode e d f w := by
  unfold State.reportLane
  (repeat' split) <;> simp [hk]

@[simp] theorem State.takeUnseen_governed (hk : governed b s.ntc.mode e d s.set.fittedLanes.value w) (x : Bundle)
    (c : Consignment) (hw : s.pins.warning = w) :
    governed b (s.takeUnseen x c).ntc.mode e d (s.takeUnseen x c).set.fittedLanes.value w := by
  simp [State.takeUnseen, hk, hw]

@[simp] theorem State.judgeHome_governed (hk : governed b s.ntc.mode e d s.set.fittedLanes.value w) (l : Lane)
    (restart : Bool) (hw : s.pins.warning = w) :
    governed b (s.judgeHome l restart).ntc.mode e d (s.judgeHome l restart).set.fittedLanes.value w := by
  unfold State.judgeHome
  (repeat' split) <;> simp [hk, hw]

@[simp] theorem State.enterHome_governed (hk : governed b s.ntc.mode e s.ldc s.set.fittedLanes.value w) (l : Lane)
    (flag : Bool) (hw : s.pins.warning = w) :
    governed b (s.enterHome l flag).ntc.mode e (s.enterHome l flag).ldc (s.enterHome l flag).set.fittedLanes.value
      w := by
  have hd := governed_put hk l (x := { s.ldc.get l with
    state := .home, halted := none, motor := false, motion := .stopped, restartHoming := false })
    fun h => h.stops rfl (by simp) rfl rfl
  rw [State.enterHome_ldc]
  cases flag <;> simp [State.enterHome, hd, hw]

@[simp] theorem State.enterOut_governed (hk : governed b s.ntc.mode e s.ldc f w) (l : Lane) :
    governed b (s.enterOut l).ntc.mode e (s.enterOut l).ldc f w := by
  obtain ⟨t, ht⟩ := s.enterOut_ldc l
  have hd := governed_put hk l (x := { s.ldc.get l with
    state := .out, halted := none, motor := false, motion := .stopped, take := t, restartHoming := false })
    fun h => h.stops rfl (by simp) rfl rfl
  rw [ht]
  unfold State.enterOut
  dsimp only
  split <;> simp [hd]

theorem State.sendHome_governed (hk : governed b s.ntc.mode e s.ldc s.set.fittedLanes.value w) (l : Lane)
    (flag : Bool) (hw : s.pins.warning = w) (hl : s.locked l = false) :
    governed b (s.sendHome l flag).ntc.mode e (s.sendHome l flag).ldc (s.sendHome l flag).set.fittedLanes.value
      w := by
  unfold State.sendHome
  split
  · exact State.enterHome_governed hk l flag hw
  · simp [State.startMotion_governed hk l .retracting hw hl]

theorem State.present_governed (hk : governed b s.ntc.mode e s.ldc f w) (l : Lane) (hw : s.pins.warning = w)
    (hl : s.locked l = false) :
    governed b (s.present l).ntc.mode e (s.present l).ldc f w := by
  simp [State.present, State.startMotion_governed hk l .extending hw hl]

theorem State.retract_governed (hk : governed b s.ntc.mode e s.ldc f w) (l : Lane) (hw : s.pins.warning = w)
    (hl : s.locked l = false) :
    governed b (s.retract l).ntc.mode e (s.retract l).ldc f w := by
  simp [State.retract,
    State.startMotion_governed (State.stopTake_governed hk l) l .retracting (by simp [hw]) (by simp [hl])]

@[simp] theorem State.autoPresent_governed (hk : governed b s.ntc.mode e s.ldc f w) (l : Lane)
    (hw : s.pins.warning = w) :
    governed b (s.autoPresent l).ntc.mode e (s.autoPresent l).ldc f w := by
  unfold State.autoPresent
  split
  · next h =>
    simp only [Bool.and_eq_true, Bool.not_eq_true'] at h
    exact State.present_governed hk l hw h.1.2
  · exact hk

@[simp] theorem State.motionOut_governed (hk : governed b s.ntc.mode e s.ldc f w) (l : Lane) :
    governed b (s.motionOut l).ntc.mode e (s.motionOut l).ldc f w := by
  have hd := governed_put hk l (x := { s.ldc.get l with
    state := .jammed, halted := none, motor := false, motion := .stopped }) fun h => h.stops rfl (by simp) rfl rfl
  unfold State.motionOut
  dsimp only
  split
  · simp [State.stopDrawer_ldc, hd]
  · exact hk

@[simp] theorem State.takeOut_governed (hk : governed b s.ntc.mode e s.ldc f w) (l : Lane) (hw : s.pins.warning = w)
    :
    governed b (s.takeOut l).ntc.mode e (s.takeOut l).ldc f w := by
  unfold State.takeOut
  dsimp only
  split
  · next h =>
    simp only [Bool.and_eq_true, Bool.not_eq_true'] at h
    exact State.retract_governed hk l hw h.2
  · exact hk

@[simp] theorem State.arriveHome_governed (hk : governed b s.ntc.mode e s.ldc s.set.fittedLanes.value w) (l : Lane)
    (hw : s.pins.warning = w) :
    governed b (s.arriveHome l).ntc.mode e (s.arriveHome l).ldc (s.arriveHome l).set.fittedLanes.value w := by
  unfold State.arriveHome
  split
  · exact State.enterHome_governed (s := s.onPins _) hk l true hw
  · exact hk

@[simp] theorem State.arriveOut_governed (hk : governed b s.ntc.mode e s.ldc f w) (l : Lane) :
    governed b (s.arriveOut l).ntc.mode e (s.arriveOut l).ldc f w := by
  unfold State.arriveOut
  split
  · exact State.enterOut_governed (s := s.onPins _) hk l
  · exact hk

@[simp] theorem State.trayRestart_governed (hk : governed b n e s.ldc f w) (l : Lane) :
    governed b n e (s.trayRestart l).ldc f w := by
  unfold State.trayRestart
  (repeat' split) <;> simp [hk]

@[simp] theorem State.trayChange_governed (hk : governed b s.ntc.mode e s.ldc f w) (l : Lane) (occupied : Bool) :
    governed b (s.trayChange l occupied).ntc.mode e (s.trayChange l occupied).ldc f w := by
  unfold State.trayChange
  dsimp only
  (repeat' split) <;> simp [hk]

/-! ## Locks and power warnings -/

@[simp] theorem State.haltDrawer_governed (hk : governed b n e s.ldc f w) (l : Lane) :
    governed b n e (s.haltDrawer l).ldc f w := by
  rcases s.moving_or_not l with ⟨m, hm⟩ | hm
  · rw [State.haltDrawer_ldc_of_moving hm]
    exact governed_put hk l fun h => h.stops rfl (by simp) rfl rfl
  · rwa [State.haltDrawer_of_not_moving hm]

/-- A halted drawer does not move. -/
theorem State.haltDrawer_stands (s : State) (l : Lane) :
    ((s.haltDrawer l).ldc.get l).state ≠ .extending ∧ ((s.haltDrawer l).ldc.get l).state ≠ .retracting := by
  rcases s.moving_or_not l with ⟨m, hm⟩ | hm
  · rw [State.haltDrawer_ldc_of_moving hm, PerLane.get_put_same]
    exact ⟨by simp, by simp⟩
  · rw [State.haltDrawer_of_not_moving hm]
    exact ⟨hm .extending, hm .retracting⟩

/-- A drawer whose motor is at rest does not move. -/
theorem Ldc.lawful.stands {x : Ldc} {i : Bool} (h : x.lawful i w) (hm : x.motor = false) :
    x.state ≠ .extending ∧ x.state ≠ .retracting := by
  have hd := ((Ldc.driveLawful_iff x).mp h.1).1
  rw [hm] at hd
  exact ⟨fun he => by simpa using hd.mpr (.inl he), fun he => by simpa using hd.mpr (.inr he)⟩

/-- A drawer that stands may be locked, its solenoid engaged, in a fitted lane. -/
theorem Ldc.lawful_engaged {x : Ldc} (hm : x.motor = false) (hs : x.state ≠ .extending ∧ x.state ≠ .retracting)
    (hl : x.locks ≠ 0) (ho : x.solenoid = true) : x.lawful true w := by
  refine ⟨(Ldc.driveLawful_iff x).mpr ?_, ?_, fun _ => hm⟩
  · simp [hm, hs]
  · simpa [ho] using hl

/-- A joining cause finds the motor at rest (R101). -/
theorem Ldc.lawful.motor_of_locked {x : Ldc} {i : Bool} (h : x.lawful i w) (hl : x.locks ≠ 0) : x.motor = false := by
  by_contra hm
  rw [Bool.not_eq_false] at hm
  exact hl (((Ldc.driveLawful_iff x).mp h.1).2 hm)

/-- A locked lane's drawer does not move, a jammed one put to STOPPED neither (R101). -/
theorem Ldc.lawful.stands_of_locked {x : Ldc} {i : Bool} (h : x.lawful i w) (hl : x.locks ≠ 0) :
    (if x.state = .jammed then DrawerState.stopped else x.state) ≠ .extending
      ∧ (if x.state = .jammed then DrawerState.stopped else x.state) ≠ .retracting := by
  split
  · exact ⟨by simp, by simp⟩
  · exact h.stands (h.motor_of_locked hl)

/-- The first cause stops the drawer and engages the lock solenoid (R100). -/
theorem State.lockLane_begins_ldc {s : State} {l : Lane} (hf : s.fitted l = true) (h : (s.ldc.get l).locks = 0)
    (z : ZoneId) : (s.lockLane l z).ldc = (s.haltDrawer l).ldc.put l { (s.haltDrawer l).ldc.get l with
      saved := some ⟨(s.ldc.get l).stateToSave, (s.ldc.get l).direction,
        (s.ct.consignment l).map (·.handle), (s.ldc.get l).take.isRunning⟩
      locks := zoneBit z
      solenoid := true
      take := ((s.haltDrawer l).ldc.get l).take.freeze } := by
  unfold State.lockLane
  dsimp only
  rw [if_pos hf, if_pos h]
  simp

/-- A lock reports to the note transport alone. -/
theorem State.lockLane_noteGoverned (hk : governed b s.ntc.mode e d f w) (l : Lane) (z : ZoneId) :
    governed b (s.lockLane l z).ntc.mode e d f w := by
  unfold State.lockLane
  dsimp only
  (repeat' split) <;> simp [hk]

@[simp] theorem State.lockLane_governed (hk : governed b s.ntc.mode e s.ldc s.set.fittedLanes.value w) (l : Lane)
    (z : ZoneId) : governed b (s.lockLane l z).ntc.mode e (s.lockLane l z).ldc s.set.fittedLanes.value w := by
  refine State.lockLane_noteGoverned ?_ l z
  cases hf : s.fitted l with
  | false => rwa [State.lockLane_of_not_fitted hf]
  | true =>
    have hl : l.num ≤ s.set.fittedLanes.value := of_decide_eq_true hf
    by_cases h0 : (s.ldc.get l).locks = 0
    · rw [State.lockLane_begins_ldc hf h0]
      refine governed_put (State.haltDrawer_governed hk l) l fun h => ?_
      rw [decide_eq_true hl] at h ⊢
      have hm := h.motor (s.haltDrawer_stands l)
      exact Ldc.lawful_engaged hm (s.haltDrawer_stands l) (zoneBit_ne_zero z) rfl
    · rw [State.lockLane_joins hf h0]
      refine governed_put hk l fun h => ?_
      rw [decide_eq_true hl] at h ⊢
      have hm := h.motor_of_locked h0
      exact Ldc.lawful_engaged hm (h.stands hm) (fun e => h0 (BitVec.or_eq_zero_iff.mp e).1)
        (h.2.1.trans (by simpa using h0))

@[simp] theorem State.presentDelivered_governed (hk : governed b s.ntc.mode e s.ldc f w) (l : Lane)
    (hw : s.pins.warning = w) :
    governed b (s.presentDelivered l).ntc.mode e (s.presentDelivered l).ldc f w := by
  unfold State.presentDelivered
  split
  · split
    · exact State.autoPresent_governed hk l hw
    · exact hk
  · exact hk

/-- A lock that ends releases its solenoid, and the drawer is free to move (R102). -/
theorem Ldc.lawful.released {x y : Ldc} {i : Bool} (h : y.lawful i w) (hm : x.motor = y.motor) (hs : x.state = y.state)
    (hl : x.locks = 0) (ho : x.solenoid = false) : x.lawful i w := by
  refine ⟨(Ldc.driveLawful_iff x).mpr ⟨?_, fun _ => hl⟩, by simp [hl, ho], fun hw => hm.trans (h.2.2 hw)⟩
  rw [hm, hs]
  exact ((Ldc.driveLawful_iff y).mp h.1).1

@[simp] theorem State.endLock_governed (hk : governed b s.ntc.mode e s.ldc s.set.fittedLanes.value w) (l : Lane)
    (hw : s.pins.warning = w) :
    governed b (s.endLock l).ntc.mode e (s.endLock l).ldc (s.endLock l).set.fittedLanes.value w := by
  have h0 : governed b s.ntc.mode e (s.onLdc l fun d => { d with locks := 0, saved := none, solenoid := false }).ldc
      s.set.fittedLanes.value w := governed_put hk l fun h => h.released rfl rfl rfl rfl
  have hl : (s.onLdc l fun d => { d with locks := 0, saved := none, solenoid := false }).locked l = false := by
    simp [State.locked]
  have tail (t : State) (h : governed b t.ntc.mode e t.ldc t.set.fittedLanes.value w) (ht : t.pins.warning = w) :
      governed b ((((t.setLaneFlag l .laneLocked).presentDelivered l).reportLane l).examineQueue).ntc.mode e
        ((((t.setLaneFlag l .laneLocked).presentDelivered l).reportLane l).examineQueue).ldc
        ((((t.setLaneFlag l .laneLocked).presentDelivered l).reportLane l).examineQueue).set.fittedLanes.value w := by
    have h1 := State.presentDelivered_governed (s := t.setLaneFlag l .laneLocked) (by simpa using h) l
      (by simpa using ht)
    simp [h1, ht]
  unfold State.endLock
  dsimp only
  split
  · split
    · exact tail _ (by simpa using State.enterOut_governed (s := s.onLdc l _) h0 l) (by simpa using hw)
    · have h1 := State.present_governed (s := (s.onLdc l fun d =>
          { d with locks := 0, saved := none, solenoid := false }).onLdc l fun d => { d with restartHoming := false })
        (governed_put h0 l fun h => h.same rfl rfl rfl rfl) l hw (by simp [State.locked])
      exact tail _ (by simpa using h1) (by simpa using hw)
  · exact tail _ (State.sendHome_governed (s := (s.onLdc l _).stopTake l) (State.stopTake_governed h0 l) l true hw
      (by rw [State.stopTake_locked, hl])) (by simpa using hw)

@[simp] theorem State.resetLane_governed (hk : governed b s.ntc.mode e s.ldc s.set.fittedLanes.value w) (l : Lane)
    (hw : s.pins.warning = w) :
    governed b (s.resetLane l).ntc.mode e (s.resetLane l).ldc (s.resetLane l).set.fittedLanes.value w := by
  unfold State.resetLane
  dsimp only
  split
  · next hl =>
    have hl : (s.ldc.get l).locks ≠ 0 := by simpa [State.locked] using hl
    have h1 := governed_put hk l (x := { s.ldc.get l with
      state := if (s.ldc.get l).state = .jammed then .stopped else (s.ldc.get l).state
      halted := if (s.ldc.get l).state = .jammed then some .retracting else (s.ldc.get l).halted
      saved := (s.ldc.get l).saved.map fun c => { c with state := .retracting } }) fun h => h.stops
        (h.motor_of_locked hl) (h.stands_of_locked hl) rfl rfl
    simp only [State.reportLane_frame]
    exact State.reportLane_governed (s := (s.clearLaneFlags l).onLdc l _) h1 l
  · next hl =>
    have hl : (s.clearLaneFlags l).locked l = false := by simpa using hl
    split
    · exact State.stopTake_governed hk l
    · exact State.sendHome_governed (s := (s.clearLaneFlags l).stopTake l) (State.stopTake_governed hk l) l true hw
        (by rw [State.stopTake_locked, hl])

@[simp] theorem State.warnLane_governed (hk : governed b n e s.ldc f w) (l : Lane) :
    governed b n e (s.warnLane l).ldc f w :=
  governed_put (State.haltDrawer_governed hk l) l fun h => h.same rfl rfl rfl rfl

@[simp] theorem State.endWarnLane_governed (hk : governed b s.ntc.mode e s.ldc s.set.fittedLanes.value w) (l : Lane)
    (hw : s.pins.warning = w) :
    governed b (s.endWarnLane l).ntc.mode e (s.endWarnLane l).ldc (s.endWarnLane l).set.fittedLanes.value w := by
  unfold State.endWarnLane
  dsimp only
  split
  · exact hk
  · next hn =>
    have hl : s.locked l = false := by simpa using (not_or.mp (mt Bool.or_eq_true_iff.mpr hn)).1
    split
    · exact State.sendHome_governed (s := s.stopTake l) (State.stopTake_governed hk l) l true hw (by simpa using hl)
    · split
      · simp [State.startMotion_governed hk l _ hw hl]
      · exact governed_put hk l fun h => h.same rfl rfl rfl rfl
      · exact hk

@[simp] theorem State.bundleArrives_governed (hk : governed b s.ntc.mode e s.ldc f w) (l : Lane)
    (hw : s.pins.warning = w) :
    governed b (s.bundleArrives l).ntc.mode e (s.bundleArrives l).ldc f w := by
  unfold State.bundleArrives
  split
  · next hs _ =>
    split
    · have h1 := governed_noteEnters hk (by simp [hs]) (st := .idle) (by simp)
      dsimp only
      simp only [State.enterNoteIdle_frame]
      refine State.enterNoteIdle_governed (s := State.autoPresent _ l) ?_ (by simpa using hw)
      exact State.autoPresent_governed (by simpa using h1) l (by simpa using hw)
    · exact hk
  · exact hk

end Sys2Proof.Machine
end

section
/-! PROOF. Holds, zones, windows, grants and switches under the laws of the drives and of the pauses (R82, R83, R99 to
R102, R111, R119, R136 to R162). -/

open Sys2Proof Sys2Proof.Machine

namespace Sys2Proof.Machine

/-- A state keeps the laws of the drives and of the pauses that the state `b` meets. -/
def State.Governs (b s : State) : Prop :=
  governed b s.ntc.mode s.ecc.mode s.ldc s.set.fittedLanes.value s.pins.warning = true

theorem State.governs_refl (s : State) : s.Governs s := governed_refl s

variable {b s : State}

/-- What the laws do not read may change. -/
theorem State.Governs.same {t : State} (h : b.Governs s) (hn : t.ntc.mode = s.ntc.mode)
    (he : t.ecc.mode = s.ecc.mode) (hd : t.ldc = s.ldc) (hf : t.set.fittedLanes.value = s.set.fittedLanes.value)
    (hp : t.pins.warning = s.pins.warning) : b.Governs t := by
  rw [State.Governs, hn, he, hd, hf, hp]
  exact h

theorem State.Governs.ite {t : State} {c : Prop} [Decidable c] (h : b.Governs s) (ht : b.Governs t) :
    b.Governs (if c then s else t) := by
  split
  · exact h
  · exact ht

/-! ## Changes that the laws do not read -/

theorem State.Governs.onCt (h : b.Governs s) (g : Ct → Ct) : b.Governs (s.onCt g) := h

theorem State.Governs.onAzu (h : b.Governs s) (g : Azu → Azu) : b.Governs (s.onAzu g) := h

theorem State.Governs.setWallFlag (h : b.Governs s) (x : WallFlag) : b.Governs (s.setWallFlag x) := by
  simpa [State.Governs] using h

theorem State.Governs.setLaneFlag (h : b.Governs s) (l : Lane) (x : LaneFlag) : b.Governs (s.setLaneFlag l x) := by
  simpa [State.Governs] using h

theorem State.Governs.onPins (h : b.Governs s) {g : Pins → Pins} (hg : (g s.pins).warning = s.pins.warning) :
    b.Governs (s.onPins g) := by
  simpa [State.Governs, hg] using h

/-! ## Operations of one transport or lane -/

theorem State.Governs.examineQueue (h : b.Governs s) : b.Governs s.examineQueue := by
  simpa [State.Governs] using State.examineQueue_governed h rfl

theorem State.Governs.resumeNote (h : b.Governs s) : b.Governs s.resumeNote := by
  simpa [State.Governs] using State.resumeNote_governed h rfl

theorem State.Governs.arbitrate (h : b.Governs s) : b.Governs s.arbitrate := by
  simpa [State.Governs] using State.arbitrate_governed h rfl

theorem State.Governs.followOpen (h : b.Governs s) (before : Bool) : b.Governs (s.followOpen before) := by
  simpa [State.Governs] using State.followOpen_governed h before rfl

theorem State.Governs.recheckDestination (h : b.Governs s) (held : Bool) :
    b.Governs (s.recheckDestination held) := by
  simpa [State.Governs] using State.recheckDestination_governed h held rfl

theorem State.Governs.resumeEnv (h : b.Governs s) : b.Governs s.resumeEnv := by
  simpa [State.Governs] using State.resumeEnv_governed h rfl

theorem State.Governs.enterHome (h : b.Governs s) (l : Lane) (flag : Bool) : b.Governs (s.enterHome l flag) := by
  simpa [State.Governs] using State.enterHome_governed h l flag rfl

theorem State.Governs.noteDoorStop (h : b.Governs s) (already : Bool) : b.Governs (s.noteDoorStop already) := by
  simpa [State.Governs] using State.noteDoorStop_governed h already

theorem State.Governs.pauseNote (h : b.Governs s) : b.Governs s.pauseNote := by
  simpa [State.Governs] using State.pauseNote_governed h

theorem State.Governs.pauseEnv (h : b.Governs s) : b.Governs s.pauseEnv := by
  simpa [State.Governs] using State.pauseEnv_governed h

theorem State.Governs.lockLane (h : b.Governs s) (l : Lane) (z : ZoneId) : b.Governs (s.lockLane l z) := by
  simpa [State.Governs] using State.lockLane_governed h l z

theorem State.Governs.enterOut (h : b.Governs s) (l : Lane) : b.Governs (s.enterOut l) := by
  simpa [State.Governs] using State.enterOut_governed h l

/-! ## Holds -/

theorem State.Governs.holdNotes (h : b.Governs s) (z : ZoneId) (already : Bool) :
    b.Governs (s.holdNotes z already) := by
  have h1 : b.Governs (if holdsDispenser z || holdsReject z then s.noteDoorStop already else s) :=
    (h.noteDoorStop already).ite h
  exact State.Governs.ite (c := holdsReject z = true) (h1.same (by simp) (by simp) (by simp) (by simp) (by simp)) h1

theorem State.Governs.holdEnvelopes (h : b.Governs s) (z : ZoneId) : b.Governs (s.holdEnvelopes z) :=
  ((h.onCt _).recheckDestination true).ite h

theorem State.Governs.holdLanes (h : b.Governs s) (z : ZoneId) : b.Governs (s.holdLanes z) := by
  refine List.foldlRecOn Lane.all _ (motive := fun t => b.Governs t) h fun t ht l _ => ?_
  exact State.Governs.ite (c := holdsLane z l = true) (ht.lockLane l z) ht

theorem State.Governs.takeHold (h : b.Governs s) (z : ZoneId) (already : Bool) :
    b.Governs (s.takeHold z already) := by
  have h1 := ((h.holdLanes z).holdNotes z already).holdEnvelopes z
  exact h1.pauseNote.pauseEnv.ite h1

theorem State.Governs.liftHold (h : b.Governs s) (z : ZoneId) : b.Governs (s.liftHold z) :=
  h.resumeNote.resumeEnv.ite h

theorem State.Governs.releaseHolds (h : b.Governs s) (old : Ct) : b.Governs (s.releaseHolds old) := by
  have h1 : b.Governs (if (old.holdDispenser != 0 && s.ct.holdDispenser = 0)
      || (old.holdReject != 0 && s.ct.holdReject = 0) then s.examineQueue else s) :=
    h.examineQueue.ite h
  exact h1.arbitrate.ite h1

theorem State.Governs.writeZones (h : b.Governs s) (news : List (ZoneId × Zone)) :
    b.Governs (s.writeZones news) := by
  unfold State.writeZones
  dsimp only
  split <;> exact h.same rfl rfl rfl rfl rfl

theorem State.Governs.putZones (h : b.Governs s) (news : List (ZoneId × Zone)) : b.Governs (s.putZones news) := by
  have h1 := List.foldlRecOn (s.enterForce news)
    (fun t z => t.takeHold z (s.ct.holdDispenser != 0 || s.ct.holdReject != 0)) (motive := fun t => b.Governs t)
    (h.writeZones news) fun t ht z _ => ht.takeHold z _
  have h2 := List.foldlRecOn (s.leaveForce news) State.liftHold (motive := fun t => b.Governs t) h1
    fun t ht z _ => ht.liftHold z
  have h3 := (h2.followOpen s.openCondition).releaseHolds s.ct
  exact (h3.setWallFlag _).ite h3

theorem State.Governs.putZone (h : b.Governs s) (z : ZoneId) (new : Zone) : b.Governs (s.putZone z new) :=
  h.putZones [(z, new)]

/-! ## Loops, windows and the scanner -/

theorem State.Governs.changeLoop (h : b.Governs s) (z : ZoneId) (c : LoopClass) : b.Governs (s.changeLoop z c) :=
  h.ite (h.putZone z _)

theorem State.Governs.forcingEvent (h : b.Governs s) (l : Lane) (switch : DrawerSwitch) (closed : Bool) :
    b.Governs (s.forcingEvent l switch closed) :=
  h.putZone _ _

theorem State.Governs.judgeWindow (h : b.Governs s) (z : ZoneId) : b.Governs (s.judgeWindow z) := by
  unfold State.judgeWindow
  dsimp only
  split
  · exact h
  · exact h.putZone z _

theorem State.Governs.tailOut (h : b.Governs s) (z : ZoneId) : b.Governs (s.tailOut z) := by
  unfold State.tailOut
  split
  · exact ((h.onAzu _).judgeWindow z).ite h
  · exact ((h.onAzu _).judgeWindow z).ite h

theorem State.Governs.scanChannel (h : b.Governs s) (cycle : List ZoneId) (z : ZoneId) :
    b.Governs (s.scanChannel cycle z) :=
  h.ite (((h.putZone z _).ite h).ite (h.ite (h.putZone z _)))

theorem State.Governs.formCycle (h : b.Governs s) : b.Governs s.formCycle := by
  unfold State.formCycle
  dsimp only
  exact List.foldlRecOn allZones _ (motive := fun t => b.Governs t) (h.onAzu _) fun t ht z _ => ht.scanChannel _ z

theorem State.Governs.convertLoop (h : b.Governs s) (z : ZoneId) (band : LoopClass) :
    b.Governs (s.convertLoop z band) :=
  (h.putZone z _).ite ((h.changeLoop z band).ite (h.putZone z _))

theorem State.Governs.convertNext (h : b.Governs s) (code : Sample) : b.Governs (s.convertNext code) := by
  have h1 : b.Governs (if s.azu.cycle.length ≤ s.azu.converted then s.formCycle else s) :=
    h.formCycle.ite h
  unfold State.convertNext
  dsimp only
  split
  · exact h1
  · exact (h1.onAzu _).convertLoop _ _

theorem State.Governs.enableZones (h : b.Governs s) (mask : ZoneSet) (on : Bool) :
    b.Governs (s.enableZones mask on) :=
  h.putZones _

theorem State.Governs.armZone (h : b.Governs s) (z : ZoneId) : b.Governs (s.armZone z) := by
  have h1 := h.putZone z { s.azu.zones[z].restore with mode := .armed }
  exact (h1.putZone z _).ite h1

/-! ## Grants and switches -/

theorem State.Governs.putGrant (h : b.Governs s) (a : Area) (g : Grant) : b.Governs (s.putGrant a g) :=
  ((h.onAzu _).setWallFlag .grantChange).followOpen _

theorem State.Governs.endGrant (h : b.Governs s) (a : Area) : b.Governs (s.endGrant a) := by
  have h1 := List.foldlRecOn (blankedZones a) (fun (t : State) z => t.judgeWindow z)
    (motive := fun t => b.Governs t) (b := s.onAzu fun z => { z with grants := z.grants.put a Grant.shut })
    (h.onAzu _) fun t ht z _ => ht.judgeWindow z
  have h2 := (h1.setWallFlag .grantChange).followOpen s.openCondition
  unfold State.endGrant
  dsimp only
  split
  · exact h2.examineQueue
  · exact h2.arbitrate
  · exact h2

theorem State.Governs.lapse (h : b.Governs s) (a : Area) : b.Governs (s.lapse a) := by
  unfold State.lapse
  dsimp only
  split
  · split
    · exact (h.putGrant _ _).arbitrate
    · exact h.putGrant _ _
  · exact h

theorem State.Governs.grantOut (h : b.Governs s) (a : Area) : b.Governs (s.grantOut a) :=
  (h.endGrant a).ite h

theorem State.Governs.endMotion (h : b.Governs s) (l : Lane) (switch : DrawerSwitch) (closed : Bool) :
    b.Governs (s.endMotion l switch closed) := by
  unfold State.endMotion
  split
  · exact h.enterOut l
  · exact h.enterHome l true
  · exact h

theorem State.Governs.switchChange (h : b.Governs s) (l : Lane) (switch : DrawerSwitch) (closed : Bool) :
    b.Governs (s.switchChange l switch closed) := by
  unfold State.switchChange
  dsimp only
  refine State.Governs.ite ?_ h
  have h1 := h.onPins (g := fun p =>
    match switch with
    | .home => { p with home := p.home.put l closed }
    | .out => { p with out := p.out.put l closed }) (by cases switch <;> rfl)
  exact (h1.forcingEvent l switch closed).ite (h1.endMotion l switch closed)

end Sys2Proof.Machine
end

section
/-! PROOF. The owners of the requests under the laws of the drives and of the pauses. -/

open Sys2Proof Sys2Proof.Machine

namespace Sys2Proof.Machine

variable {b s : State}

/-- An owner's checks refuse with no change, or they all pass. -/
theorem State.Governs.unless (h : b.Governs s) {checks : List (Bool × Reply)} {taken : State × Reply}
    (ht : firstFailure checks = none → b.Governs taken.1) : b.Governs (s.unless checks taken).1 := by
  rw [State.unless_fst]
  split
  · next hc => exact ht hc
  · exact h

/-- A lane whose drawer a request may move is not locked (R89, R92). -/
theorem State.locked_of_drawerChecks {r : Role} {l : Lane} {x : List (Bool × Reply)}
    (h : firstFailure (s.drawerChecks r l ++ x) = none) : s.locked l = false :=
  firstFailure_eq_none.mp h (s.locked l, .refuse .held) (by simp [State.drawerChecks])

/-! ## Operations -/

theorem State.Governs.present (h : b.Governs s) (l : Lane) (hl : s.locked l = false) : b.Governs (s.present l) := by
  simpa [State.Governs] using State.present_governed h l rfl hl

theorem State.Governs.retract (h : b.Governs s) (l : Lane) (hl : s.locked l = false) : b.Governs (s.retract l) := by
  simpa [State.Governs] using State.retract_governed h l rfl hl

theorem State.Governs.endLock (h : b.Governs s) (l : Lane) : b.Governs (s.endLock l) := by
  simpa [State.Governs] using State.endLock_governed h l rfl

theorem State.Governs.resetLane (h : b.Governs s) (l : Lane) : b.Governs (s.resetLane l) := by
  simpa [State.Governs] using State.resetLane_governed h l rfl

theorem State.Governs.enterNoteLeader (h : b.Governs s) : b.Governs s.enterNoteLeader := by
  simpa [State.Governs] using State.enterNoteLeader_governed h rfl

theorem State.Governs.cancelInTransport (h : b.Governs s) : b.Governs s.cancelInTransport := by
  simpa [State.Governs] using State.cancelInTransport_governed h rfl

theorem State.Governs.doubtStockInUse (h : b.Governs s) (j : Handle) (c : DoubtCause) :
    b.Governs (s.doubtStockInUse j c) := by
  simpa [State.Governs] using State.doubtStockInUse_governed h j c rfl

theorem State.Governs.enterEnvLeader (h : b.Governs s) : b.Governs s.enterEnvLeader := by
  simpa [State.Governs] using State.enterEnvLeader_governed h rfl

theorem State.Governs.reportLane (h : b.Governs s) (l : Lane) : b.Governs (s.reportLane l) := by
  simpa [State.Governs] using State.reportLane_governed h l

/-- A cassette loaded leaves what the laws read (R123). -/
theorem State.Governs.loadStock (h : b.Governs s) (st : Stock) : b.Governs (s.loadStock st).1 := by
  have h1 : b.Governs ((s.createRecord (.stock st)).1.onNtc fun n =>
      { n with pickFails := n.pickFails.put st.pos 0 }) := h.same (by simp) (by simp) (by simp) (by simp) (by simp)
  exact (h1.setWallFlag _).ite h1

/-- No write of a setting changes the number of fitted lanes before the next power-on (R172). -/
theorem State.written_fittedLanes (s : State) (x : Setting) (v : Nat) :
    (x.store s.set (s.written x v)).fittedLanes.value = s.set.fittedLanes.value := by
  cases x with
  | threshold t | gainA t | gainB t | skew t => cases t <;> rfl
  | _ => rfl

/-- A wait written anew leaves the mode. -/
@[simp] theorem Ntc.rebaseWait_mode (m : Ntc) (old new : Nat) : (m.rebaseWait old new).mode = m.mode := by
  unfold Ntc.rebaseWait
  split <;> rfl

theorem State.Governs.writeSetting (h : b.Governs s) (x : Setting) (v : Nat) : b.Governs (s.writeSetting x v) := by
  have h1 : b.Governs (s.onSet fun c => x.store c (s.written x v)) :=
    h.same rfl rfl rfl (s.written_fittedLanes x v) rfl
  unfold State.writeSetting State.settingEffect
  split
  · exact h1.same (by simp) (by simp) (by simp) (by simp) (by simp)
  · exact h1.followOpen _
  · exact h1.examineQueue
  · exact h1.same (Ntc.rebaseWait_mode _ _ _) rfl rfl rfl rfl
  · exact h1

/-! ## Owners -/

theorem State.Governs.presentOwner (h : b.Governs s) (r : Role) (l : Lane) : b.Governs (s.presentOwner r l).1 :=
  h.unless fun hc => h.present l (State.locked_of_drawerChecks hc)

theorem State.Governs.retractOwner (h : b.Governs s) (r : Role) (l : Lane) : b.Governs (s.retractOwner r l).1 :=
  h.unless fun hc => h.retract l (State.locked_of_drawerChecks hc)

theorem State.Governs.declareOwner (h : b.Governs s) (r : Role) (a : Lane × Nat) :
    b.Governs (s.declareOwner r a).1 :=
  h.unless fun _ => State.Governs.reportLane (h.same (by simp) (by simp) (by simp) (by simp) (by simp)) a.1

theorem State.Governs.resolveOwner (h : b.Governs s) (r : Role) (j : Handle) : b.Governs (s.resolveOwner r j).1 := by
  unfold State.resolveOwner
  split
  · exact h
  · exact h.unless fun _ => State.Governs.reportLane (h.same (by simp) (by simp) (by simp) (by simp) (by simp)) _
  · exact h.unless fun _ => State.Governs.reportLane (h.same (by simp) (by simp) (by simp) (by simp) (by simp)) _
  · exact h

theorem State.Governs.acceptOwner (h : b.Governs s) (r : Role) (a : Handle × Nat) :
    b.Governs (s.acceptOwner r a).1 := by
  unfold State.acceptOwner
  split
  · exact h
  · exact h.unless fun _ => State.Governs.reportLane (h.same (by simp) (by simp) (by simp) (by simp) (by simp)) _
  · exact h

theorem State.Governs.resumeOwner (h : b.Governs s) (r : Role) (l : Lane) : b.Governs (s.resumeOwner r l).1 :=
  h.unless fun _ => h.endLock l

theorem State.Governs.resetOwner (h : b.Governs s) (r : Role) (l : Lane) : b.Governs (s.resetOwner r l).1 :=
  h.unless fun _ => h.resetLane l

/-- A plan committed leaves what the laws read, and the queue is examined (R53, R58). -/
theorem State.Governs.commitPlan (h : b.Governs s) (l : Lane) (amount : Nat) (parts : List QuotePart) :
    b.Governs (s.commitPlan l amount parts).1 := h.same (by simp) (by simp) (by simp) (by simp) (by simp)

theorem State.Governs.onDpl (h : b.Governs s) (g : Dpl → Dpl) : b.Governs (s.onDpl g) := h

theorem State.Governs.commitOwner (h : b.Governs s) (r : Role) (a : Lane × Nat) :
    b.Governs (s.commitOwner r a).1 := by
  refine h.unless fun _ => ?_
  split
  · exact h
  · exact ((h.commitPlan _ _ _).onDpl _).examineQueue

theorem State.Governs.dispenseOwner (h : b.Governs s) (r : Role) (a : Lane × Nat) :
    b.Governs (s.dispenseOwner r a).1 := by
  refine h.unless fun _ => ?_
  split
  · exact h
  · exact (h.commitPlan _ _ _).examineQueue

theorem State.Governs.dispenseMixOwner (h : b.Governs s) (r : Role) (a : Lane × PerPos Nat) :
    b.Governs (s.dispenseMixOwner r a).1 := by
  refine h.unless fun _ => ?_
  split
  · exact h
  · exact (h.commitPlan _ _ _).examineQueue

theorem State.Governs.cancelOwner (h : b.Governs s) (r : Role) (j : Handle) : b.Governs (s.cancelOwner r j).1 := by
  unfold State.cancelOwner
  split
  · exact h
  · refine h.unless fun _ => ?_
    split
    · exact h.same (by simp) (by simp) (by simp) (by simp) (by simp)
    · exact h.cancelInTransport
    · exact h.cancelInTransport
    · exact h
  · exact h

theorem State.Governs.clearNoteOwner (h : b.Governs s) (r : Role) (u : Unit) :
    b.Governs (s.clearNoteOwner r u).1 :=
  h.unless fun _ => h.enterNoteLeader

theorem State.Governs.clearEnvOwner (h : b.Governs s) (r : Role) (u : Unit) : b.Governs (s.clearEnvOwner r u).1 :=
  h.unless fun _ => h.enterEnvLeader

theorem State.Governs.loadOwner (h : b.Governs s) (r : Role) (y : Declaration) : b.Governs (s.loadOwner r y).1 :=
  h.unless fun _ => h.loadStock _

theorem State.Governs.presenceOpens (h : b.Governs s) (p : CassettePos) : b.Governs (s.presenceOpens p) := by
  have h1 := h.onPins (g := fun x => { x with presence := x.presence.put p false }) rfl
  unfold State.presenceOpens
  dsimp only
  split
  · exact h1.doubtStockInUse _ _
  · exact h1

theorem State.Governs.reconcileRvOwner (h : b.Governs s) (r : Role) (counted : Nat) :
    b.Governs (s.reconcileRvOwner r counted).1 := by
  unfold State.reconcileRvOwner
  split
  · split
    · exact h
    · next v _ =>
      have h1 : b.Governs (s.onVault fun _ => { v with count := counted, quality := .exact }) :=
        h.same (by simp) (by simp) (by simp) (by simp) (by simp)
      exact h.unless fun _ => h1.examineQueue.ite h1
  · exact h

theorem State.Governs.emptyVaultOwner (h : b.Governs s) (r : Role) (u : Unit) :
    b.Governs (s.emptyVaultOwner r u).1 :=
  h.unless fun _ => State.Governs.examineQueue (h.same (by simp) (by simp) (by simp) (by simp) (by simp))

/-- A bin that takes the other's role leaves what the laws read (R114). -/
theorem State.Governs.switchBins (h : b.Governs s) (x : BinId) : b.Governs ((s.switchBins x).getD s) := by
  unfold State.switchBins
  (repeat' split) <;> exact h.same (by simp) (by simp) (by simp) (by simp) (by simp)

theorem State.Governs.collect (h : b.Governs s) (j : Handle) (v : Bin) : b.Governs (s.collect j v) := by
  unfold State.collect
  dsimp only
  refine State.Governs.followOpen ?_ _
  exact State.Governs.ite (State.Governs.switchBins (h.onCt _) _) (h.onCt _)

theorem State.Governs.collectOwner (h : b.Governs s) (r : Role) (x : BinId) : b.Governs (s.collectOwner r x).1 := by
  unfold State.collectOwner
  split
  · split
    · exact h
    · exact h.unless fun _ => h.collect _ _
  · exact h

theorem State.Governs.insertOwner (h : b.Governs s) (r : Role) (x : BinId) : b.Governs (s.insertOwner r x).1 := by
  refine h.unless fun _ => State.Governs.arbitrate (State.Governs.followOpen ?_ _)
  exact h.same (by simp) (by simp) (by simp) (by simp) (by simp)

theorem State.Governs.restoreOwner (h : b.Governs s) (r : Role) (z : ZoneId) : b.Governs (s.restoreOwner r z).1 :=
  h.unless fun _ => h.putZone z _

theorem State.Governs.enableOwner (h : b.Governs s) (on : Bool) (r : Role) (mask : Half) :
    b.Governs (State.enableOwner on s r mask).1 := h.enableZones mask on

theorem State.Governs.delegationOwner (h : b.Governs s) (r : Role) (a : ZoneId × Byte) :
    b.Governs (s.delegationOwner r a).1 := h.putZone a.1 _

theorem State.Governs.testOwner (h : b.Governs s) (r : Role) (z : ZoneId) : b.Governs (s.testOwner r z).1 := by
  unfold State.testOwner
  dsimp only
  split
  · exact h
  · exact h.unless fun _ => h.putZone z _

theorem State.Governs.armOwner (h : b.Governs s) (r : Role) (z : ZoneId) : b.Governs (s.armOwner r z).1 := by
  unfold State.armOwner
  split
  · exact h
  · exact h.armZone z

theorem State.Governs.injectOwner (h : b.Governs s) (r : Role) (z : ZoneId) : b.Governs (s.injectOwner r z).1 :=
  h.unless fun _ => h.putZone z _

theorem State.Governs.openGrantOwner (h : b.Governs s) (op : Nat) (r : Role) (a : Area) :
    b.Governs (State.openGrantOwner op s r a).1 := h.unless fun _ => h.putGrant a _

theorem State.Governs.confirmGrantOwner (h : b.Governs s) (op : Nat) (r : Role) (a : Area) :
    b.Governs (State.confirmGrantOwner op s r a).1 := h.unless fun _ => h.putGrant a _

theorem State.Governs.closeGrantOwner (h : b.Governs s) (r : Role) (a : Area) :
    b.Governs (s.closeGrantOwner r a).1 :=
  h.unless fun _ => h.endGrant a

theorem State.Governs.writeSettingOwner (h : b.Governs s) (r : Role) (a : Byte × Byte × Half) :
    b.Governs (s.writeSettingOwner r a).1 := by
  unfold State.writeSettingOwner
  split
  · exact h
  · split
    · exact h.writeSetting _ _
    · exact h

end Sys2Proof.Machine
end

section
/-! PROOF. The rows of the table, the clock and the power commands under the laws of the drives and of the pauses. -/

open Sys2Proof Sys2Proof.Machine

namespace Sys2Proof.Machine

variable {b s : State}

/-! ## The rows' operations -/

theorem State.Governs.noteLeaderOver (h : b.Governs s) (empty : Bool) : b.Governs (s.noteLeaderOver empty) := by
  simpa [State.Governs] using State.noteLeaderOver_governed h empty rfl

theorem State.Governs.notePulse (h : b.Governs s) (a x : Nat) : b.Governs (s.notePulse a x) := by
  simpa [State.Governs] using State.notePulse_governed h a x rfl

theorem State.Governs.noteEnds (h : b.Governs s) (m : Measure) : b.Governs (s.noteEnds m) := by
  simpa [State.Governs] using State.noteEnds_governed h m rfl

theorem State.Governs.noteAtLimit (h : b.Governs s) : b.Governs s.noteAtLimit := by
  simpa [State.Governs] using State.noteAtLimit_governed h rfl

theorem State.Governs.failPick (h : b.Governs s) : b.Governs s.failPick := by
  simpa [State.Governs] using State.failPick_governed h rfl

theorem State.Governs.exitDiverter (h : b.Governs s) : b.Governs s.exitDiverter := by
  simpa [State.Governs] using State.exitDiverter_governed h rfl

theorem State.Governs.emptyStacker (h : b.Governs s) : b.Governs s.emptyStacker := by
  simpa [State.Governs] using State.emptyStacker_governed h rfl

theorem State.Governs.stackerWaitOut (h : b.Governs s) : b.Governs s.stackerWaitOut := by
  simpa [State.Governs] using State.stackerWaitOut_governed h rfl

theorem State.Governs.startRestartNote (h : b.Governs s) : b.Governs s.startRestartNote := by
  simpa [State.Governs] using State.startRestartNote_governed h rfl

theorem State.Governs.bundleArrives (h : b.Governs s) (l : Lane) : b.Governs (s.bundleArrives l) := by
  simpa [State.Governs] using State.bundleArrives_governed h l rfl

theorem State.Governs.takeOut (h : b.Governs s) (l : Lane) : b.Governs (s.takeOut l) := by
  simpa [State.Governs] using State.takeOut_governed h l rfl

theorem State.Governs.arriveHome (h : b.Governs s) (l : Lane) : b.Governs (s.arriveHome l) := by
  simpa [State.Governs] using State.arriveHome_governed h l rfl

theorem State.Governs.noteJam (h : b.Governs s) : b.Governs s.noteJam := by
  simpa [State.Governs] using State.noteJam_governed h

theorem State.Governs.motionOut (h : b.Governs s) (l : Lane) : b.Governs (s.motionOut l) := by
  simpa [State.Governs] using State.motionOut_governed h l

theorem State.Governs.arriveOut (h : b.Governs s) (l : Lane) : b.Governs (s.arriveOut l) := by
  simpa [State.Governs] using State.arriveOut_governed h l

theorem State.Governs.trayChange (h : b.Governs s) (l : Lane) (occupied : Bool) :
    b.Governs (s.trayChange l occupied) := by
  simpa [State.Governs] using State.trayChange_governed h l occupied

theorem State.Governs.envPulse (h : b.Governs s) (a x : Nat) : b.Governs (s.envPulse a x) := by
  simpa [State.Governs] using State.envPulse_governed h a x rfl

theorem State.Governs.envEnds (h : b.Governs s) (m : Measure) : b.Governs (s.envEnds m) := by
  simpa [State.Governs] using State.envEnds_governed h m rfl

theorem State.Governs.envAtLimit (h : b.Governs s) (thickness skew : Nat) :
    b.Governs (s.envAtLimit thickness skew) := by
  simpa [State.Governs] using State.envAtLimit_governed h thickness skew rfl

theorem State.Governs.envLeaderOver (h : b.Governs s) : b.Governs s.envLeaderOver := by
  simpa [State.Governs] using State.envLeaderOver_governed h rfl

theorem State.Governs.envJam (h : b.Governs s) : b.Governs s.envJam := by
  simpa [State.Governs] using State.envJam_governed h rfl

theorem State.Governs.intakeOut (h : b.Governs s) : b.Governs s.intakeOut := by
  simpa [State.Governs] using State.intakeOut_governed h rfl

theorem State.Governs.gateReport (h : b.Governs s) : b.Governs s.gateReport := by
  simpa [State.Governs] using State.gateReport_governed h rfl

theorem State.Governs.binReport (h : b.Governs s) (x : BinId) : b.Governs (s.binReport x) := by
  simpa [State.Governs] using State.binReport_governed h x rfl

theorem State.Governs.recaptureOut (h : b.Governs s) : b.Governs s.recaptureOut := by
  simpa [State.Governs] using State.recaptureOut_governed h rfl

theorem State.Governs.waitOut (h : b.Governs s) (t : Throat) : b.Governs (s.waitOut t) := by
  simpa [State.Governs] using State.waitOut_governed h t rfl

theorem State.Governs.throatChange (h : b.Governs s) (t : Throat) (here : Bool) :
    b.Governs (s.throatChange t here) := by
  simpa [State.Governs] using State.throatChange_governed h t here rfl

theorem State.Governs.startRestartEnv (h : b.Governs s) : b.Governs s.startRestartEnv := by
  simpa [State.Governs] using State.startRestartEnv_governed h rfl

theorem State.Governs.imprinterSays (h : b.Governs s) (printed : Bool) : b.Governs (s.imprinterSays printed) :=
  h.same (by simp) (by simp) (by simp) (by simp) (by simp)

/-! ## Requests -/

theorem State.Governs.request {α : Type} (h : b.Governs s) (code : Nat) (auth : Byte) (op : Half) (sel : Option α)
    {owner : State → Role → α → State × Reply} (ho : ∀ r a, b.Governs (owner s r a).1) :
    b.Governs (s.request code auth op sel owner) := by
  unfold State.request
  split
  · exact h.same (by simp) (by simp) (by simp) (by simp) (by simp)
  · next r a _ => exact (ho r a).same (by simp) (by simp) (by simp) (by simp) (by simp)

theorem State.Governs.inTurn (h : b.Governs s) (i : Instr) {taken : State} (ht : b.Governs taken) :
    b.Governs (s.inTurn i taken) := by
  unfold State.inTurn State.await
  (repeat' split)
  · exact ht
  · exact h.same (by simp) (by simp) (by simp) (by simp) (by simp)
  · exact h
  · exact h

/-! ## A millisecond -/

theorem State.Governs.whenDue (h : b.Governs s) (t : Timer) {x : State → State}
    (hx : ∀ {u : State}, b.Governs u → b.Governs (x u)) : b.Governs (s.whenDue t x) :=
  (hx h).ite h

/-- The timers lose a millisecond, and nothing that the laws read changes. -/
theorem State.Governs.pass (h : b.Governs s) : b.Governs s.pass := by
  have hd := governed_iff.mp h
  refine governed_iff.mpr ⟨hd.note, hd.env, hd.still, fun l hb => ?_⟩
  cases l
  · exact (hd.lane .l1 hb).same rfl rfl rfl rfl
  · exact (hd.lane .l2 hb).same rfl rfl rfl rfl
  · exact (hd.lane .l3 hb).same rfl rfl rfl rfl
  · exact (hd.lane .l4 hb).same rfl rfl rfl rfl

theorem State.Governs.resetReceiver (h : b.Governs s) : b.Governs s.resetReceiver :=
  h.same (by simp) (by simp) (by simp) (by simp) (by simp)

theorem State.Governs.expireNote (h : b.Governs s) : b.Governs s.expireNote :=
  ((((((h.whenDue _ .resetReceiver).whenDue _ .noteJam).whenDue _ .noteJam).whenDue _ .failPick).whenDue _
    .stackerWaitOut).whenDue _ .noteJam).whenDue _ .noteJam

theorem State.Governs.expireLane (h : b.Governs s) (l : Lane) : b.Governs (s.expireLane l) :=
  (h.whenDue _ fun h => h.motionOut l).whenDue _ fun h => h.takeOut l

theorem State.Governs.expireEnv (h : b.Governs s) : b.Governs s.expireEnv :=
  ((((((h.whenDue _ .envJam).whenDue _ .intakeOut).whenDue _ .envJam).whenDue _ .envJam).whenDue _
    .recaptureOut).whenDue _ fun h => h.waitOut .t1).whenDue _ fun h => h.waitOut .t2

theorem State.Governs.expireGrant (h : b.Governs s) (a : Area) : b.Governs (s.expireGrant a) :=
  h.whenDue _ fun h => (h.lapse a).grantOut a

theorem State.Governs.expireAzu (h : b.Governs s) : b.Governs s.expireAzu :=
  List.foldlRecOn _ State.expireGrant (motive := fun t => b.Governs t)
    (((((h.whenDue _ fun h => h.tailOut 4).whenDue _ fun h => h.tailOut 5).whenDue _ fun h => h.tailOut 6).whenDue _
      fun h => h.tailOut 7).whenDue _ fun h => h.tailOut 12) fun _ ht a _ => ht.expireGrant a

theorem State.Governs.tick (h : b.Governs s) : b.Governs s.tick :=
  State.Governs.expireAzu (State.Governs.expireEnv (List.foldlRecOn Lane.all State.expireLane
    (motive := fun t => b.Governs t) h.pass.expireNote fun _ ht l _ => ht.expireLane l))

/-! ## The rows of the table -/

/-- A command that answers a next state keeps the laws. -/
def GovernsNext (b : State) (o : Host.Outcome State Fault Refusal) : Prop := ∀ t, o = .next t → b.Governs t

theorem governsNext_next {t : State} (h : b.Governs t) : GovernsNext b (.next t) :=
  fun _ ht => Host.Outcome.next.inj ht ▸ h

theorem governsNext_fault (f : Fault) : GovernsNext b (.fault f) := fun _ h => by simp at h

theorem governsNext_answer {α : Type} (h : b.Governs s) {i : Instr} {code : Nat} {auth : Byte} {op : Half}
    {sel : Option α} {owner : State → Role → α → State × Reply} (ho : ∀ r a, b.Governs (owner s r a).1) :
    GovernsNext b (.next (s.inTurn i (s.request code auth op sel owner))) :=
  governsNext_next (h.inTurn i (h.request code auth op sel ho))

/-- An event that is taken under a condition alone. -/
theorem governsNext_when (h : b.Governs s) {c : Prop} [Decidable c] {t : State} (ht : b.Governs t) :
    GovernsNext b (.next (if c then t else s)) := governsNext_next (ht.ite h)

/-- The power commands. -/
def ofPower : Instr → Bool
  | .powerOn .. | .powerWarning | .powerWarningEnd => true
  | _ => false

/-- Every row of the table but the power commands and the two that take a request that came as bytes. -/
theorem exec_governs_of_row (h : b.Governs s) {i : Instr} (hi : takesRaw i = false) (hp : ofPower i = false) :
    GovernsNext b (exec i s) := by
  cases i with
  | byteReceived | responseSent => cases hi
  | powerOn | powerWarning | powerWarningEnd => cases hp
  | unknownRequest auth op code =>
    show GovernsNext b (execUnknownRequest auth op code s)
    unfold execUnknownRequest
    split
    · exact governsNext_next (h.inTurn _ (h.same (by simp) (by simp) (by simp) (by simp) (by simp)))
    · exact governsNext_fault _
  | itemEnd t m =>
    show GovernsNext b (execItemEnd t m s)
    unfold execItemEnd
    split
    · cases t
      · exact governsNext_next (h.noteEnds m)
      · exact governsNext_next (h.envEnds m)
    · exact governsNext_fault _
  | envelopeLengthLimit t k =>
    show GovernsNext b (execEnvelopeLengthLimit t k s)
    unfold execEnvelopeLengthLimit
    split
    · exact governsNext_next (h.envAtLimit t k)
    · exact governsNext_fault _
  | loopClassChange z k =>
    show GovernsNext b (execLoopClassChange z k s)
    unfold execLoopClassChange
    split
    · exact governsNext_when h (h.changeLoop z k)
    · exact governsNext_fault _
  | blankingTailExpiry z =>
    show GovernsNext b (execBlankingTailExpiry z s)
    unfold execBlankingTailExpiry
    split
    · exact governsNext_next (h.tailOut z)
    · exact governsNext_fault _
  | encoderPulse t x y =>
    cases t
    · exact governsNext_next (h.notePulse x.toNat y.toNat)
    · exact governsNext_next (h.envPulse x.toNat y.toNat)
  | frameGapTimeout => exact governsNext_when h h.resetReceiver
  | lineBreak | badFrame | requestOverflow => exact governsNext_next h.resetReceiver
  | noteLeaderEnd empty => exact governsNext_next (h.noteLeaderOver empty)
  | noteLengthLimit => exact governsNext_next h.noteAtLimit
  | notePresenceLimit | stackerDumpTimeout | chuteTimeout | diverterExitTimeout | noteEncoderStall =>
    exact governsNext_when h h.noteJam
  | pickFailure => exact governsNext_when h h.failPick
  | diverterExit => exact governsNext_next h.exitDiverter
  | stackerEmpty => exact governsNext_next h.emptyStacker
  | stackerWaitExpiry => exact governsNext_next h.stackerWaitOut
  | bundleArrival l => exact governsNext_next (h.bundleArrives l)
  | noteRestartLeaderStart => exact governsNext_next h.startRestartNote
  | envelopeRestartLeaderStart => exact governsNext_next h.startRestartEnv
  | presenceSwitchOpen p => exact governsNext_when h (h.presenceOpens p)
  | presenceSwitchClose p => exact governsNext_next (h.onPins rfl)
  | drawerArriveOut l => exact governsNext_next (h.arriveOut l)
  | drawerArriveHome l => exact governsNext_next (h.arriveHome l)
  | drawerMotionTimeout l => exact governsNext_next (h.motionOut l)
  | takeTimerExpiry l => exact governsNext_next (h.takeOut l)
  | traySensorChange l o => exact governsNext_next (h.trayChange l o)
  | drawerSwitchChange l x c => exact governsNext_next (h.switchChange l x c)
  | throatSensorChange t x => exact governsNext_next (h.throatChange t x)
  | envelopeLeaderEnd => exact governsNext_next h.envLeaderOver
  | intakeTimeout => exact governsNext_next h.intakeOut
  | envelopePresenceLimit | forwardTimeout | returnTimeout | envelopeEncoderStall =>
    exact governsNext_when h h.envJam
  | gatePassage => exact governsNext_next h.gateReport
  | imprinterReport p => exact governsNext_next (h.imprinterSays p)
  | binEntry x => exact governsNext_next (h.binReport x)
  | returnWaitExpiry t => exact governsNext_next (h.waitOut t)
  | recaptureTimeout => exact governsNext_next h.recaptureOut
  | scanCycleStart => exact governsNext_next h.formCycle
  | loopConversion code => exact governsNext_next (h.convertNext code)
  | proposalLapse a => exact governsNext_next (h.lapse a)
  | grantExpiry a => exact governsNext_next (h.grantOut a)
  | commit => exact governsNext_answer h fun r a => h.commitOwner r a
  | dispenseAmount => exact governsNext_answer h fun r a => h.dispenseOwner r a
  | dispenseMix => exact governsNext_answer h fun r a => h.dispenseMixOwner r a
  | cancelBundle => exact governsNext_answer h fun r a => h.cancelOwner r a
  | clearTransportNote => exact governsNext_answer h fun r a => h.clearNoteOwner r a
  | clearTransportEnvelope => exact governsNext_answer h fun r a => h.clearEnvOwner r a
  | presentDrawer => exact governsNext_answer h fun r a => h.presentOwner r a
  | retractDrawer => exact governsNext_answer h fun r a => h.retractOwner r a
  | declareTransit => exact governsNext_answer h fun r a => h.declareOwner r a
  | resolveRetract => exact governsNext_answer h fun r a => h.resolveOwner r a
  | acceptDeposit => exact governsNext_answer h fun r a => h.acceptOwner r a
  | resumeLane => exact governsNext_answer h fun r a => h.resumeOwner r a
  | laneReset => exact governsNext_answer h fun r a => h.resetOwner r a
  | loadCassette => exact governsNext_answer h fun r a => h.loadOwner r a
  | emptyRejectVault => exact governsNext_answer h fun r a => h.emptyVaultOwner r a
  | reconcileRv => exact governsNext_answer h fun r a => h.reconcileRvOwner r a
  | collectBin => exact governsNext_answer h fun r a => h.collectOwner r a
  | insertBin => exact governsNext_answer h fun r a => h.insertOwner r a
  | restoreZone => exact governsNext_answer h fun r a => h.restoreOwner r a
  | setZoneEnable => exact governsNext_answer h fun r a => h.enableOwner true r a
  | clearZoneEnable => exact governsNext_answer h fun r a => h.enableOwner false r a
  | setDelegation => exact governsNext_answer h fun r a => h.delegationOwner r a
  | setZoneModeTest => exact governsNext_answer h fun r a => h.testOwner r a
  | setZoneModeArmed => exact governsNext_answer h fun r a => h.armOwner r a
  | injectTrip => exact governsNext_answer h fun r a => h.injectOwner r a
  | openGrant => exact governsNext_answer h fun r a => h.openGrantOwner _ r a
  | confirmGrant => exact governsNext_answer h fun r a => h.confirmGrantOwner _ r a
  | closeGrant => exact governsNext_answer h fun r a => h.closeGrantOwner r a
  | writeSetting => exact governsNext_answer h fun r a => h.writeSettingOwner r a
  | identify | readEvents | readSetting | readRecord | findByLocation | findEnvelope | listLane | readTotals
  | readDrawer | readTransportNote | readTransportEnvelope | readAlarms | quote | claimEnvelope | releaseClaim
  | unloadCassette | reconcile =>
    exact governsNext_answer h fun r a => h.same (by simp) (by simp) (by simp) (by simp) (by simp)

end Sys2Proof.Machine
end

section
/-! PROOF. The power commands under the laws of the drives and of the pauses, and what every step keeps of both laws
(R82, R84 to R86, R104, R119, R120, R175, R177). -/

open Sys2Proof Sys2Proof.Machine

namespace Sys2Proof.Machine

variable {b s : State} {n : NoteMode} {e : EnvMode} {d : PerLane Ldc} {f : Nat} {w : Bool}

/-! ## A power warning begins -/

theorem Ldc.lawful.warned {x : Ldc} {i : Bool} (h : x.lawful i false)
    (hs : x.state ≠ .extending ∧ x.state ≠ .retracting) : x.lawful i true :=
  ⟨h.1, h.2.1, fun _ => h.motor hs⟩

theorem Ldc.lawful.unwarned {x : Ldc} {i : Bool} (h : x.lawful i w) : x.lawful i false :=
  ⟨h.1, h.2.1, fun h => Bool.noConfusion h⟩

/-- A drawer that does not move stands under a power warning too. -/
theorem governed_warned (hk : governed b n e d f false) (hn : n.still) (he : e.still)
    (hd : ∀ l, (d.get l).state ≠ .extending ∧ (d.get l).state ≠ .retracting) : governed b n e d f true :=
  have hk := governed_iff.mp hk
  governed_iff.mpr ⟨hk.note, hk.env, fun _ _ => ⟨hn, he⟩, fun l hb => (hk.lane l hb).warned (hd l)⟩

/-- The first lane's drawer stops, and those of the others stay as they are. -/
theorem State.warnLane_stands (s : State) (l : Lane) :
    ((s.warnLane l).ldc.get l).state ≠ .extending ∧ ((s.warnLane l).ldc.get l).state ≠ .retracting := by
  simpa [State.warnLane] using s.haltDrawer_stands l

theorem State.haltDrawer_other (s : State) {l k : Lane} (h : k ≠ l) : (s.haltDrawer l).ldc.get k = s.ldc.get k := by
  rcases s.moving_or_not l with ⟨m, hm⟩ | hm
  · rw [State.haltDrawer_ldc_of_moving hm, PerLane.get_put_other _ _ h]
  · rw [State.haltDrawer_of_not_moving hm]

theorem State.warnLane_other (s : State) {l k : Lane} (h : k ≠ l) : (s.warnLane l).ldc.get k = s.ldc.get k := by
  simp only [State.warnLane, State.onLdc_ldc, PerLane.get_put_other _ _ h, s.haltDrawer_other h]

/-- No drawer moves after the warning (R104). -/
theorem State.warnLanes_stand (s : State) (k : Lane) :
    ((Lane.all.foldl State.warnLane s).ldc.get k).state ≠ .extending
      ∧ ((Lane.all.foldl State.warnLane s).ldc.get k).state ≠ .retracting := by
  cases k <;> simp only [Lane.all, List.foldl_cons, List.foldl_nil]
  · rw [State.warnLane_other _ (by decide), State.warnLane_other _ (by decide), State.warnLane_other _ (by decide)]
    exact State.warnLane_stands _ _
  · rw [State.warnLane_other _ (by decide), State.warnLane_other _ (by decide)]
    exact State.warnLane_stands _ _
  · rw [State.warnLane_other _ (by decide)]
    exact State.warnLane_stands _ _
  · exact State.warnLane_stands _ _

/-- What the warning does once its input reads active (R84, R104, R120). -/
theorem State.warning_governs (hw : s.pins.warning = true)
    (h : governed b s.ntc.mode s.ecc.mode s.ldc s.set.fittedLanes.value false) (before : Bool) :
    b.Governs ((Lane.all.foldl State.warnLane s.warnNote).warnEnv before) := by
  have h2 := List.foldlRecOn Lane.all State.warnLane (b := s.warnNote)
    (motive := fun t => governed b t.ntc.mode t.ecc.mode t.ldc t.set.fittedLanes.value false)
    (by simpa using State.warnNote_governed h) fun t ht l _ => by simpa using State.warnLane_governed ht l
  have hd := s.warnNote.warnLanes_stand
  generalize ht : Lane.all.foldl State.warnLane s.warnNote = t at h2 hd
  have hn : t.ntc.mode.still := by
    have h : t.ntc = s.warnNote.ntc := by simp [← ht]
    rw [h]
    simpa [State.warnNote] using ⟨rfl, rfl⟩
  have hp : t.pins.warning = true := by simp [← ht, hw]
  have h3 := governed_warned (governed_env h2 (e' := ⟨t.ecc.phase, none, false⟩) (fun h => h.phase) fun _ _ => rfl)
    hn rfl hd
  have h4 :
    b.Governs (((t.onEcc fun e => { e with state := e.phase, saved := none }).suspendEnv).runEnd .envelope) := by
    simpa [State.Governs, hp] using h3
  exact h4.followOpen before

theorem State.Governs.warn (h : b.Governs s) : b.Governs s.warn := by
  unfold State.warn
  split
  · exact h
  · next hw =>
    rw [Bool.not_eq_true] at hw
    rw [State.Governs, hw] at h
    exact State.warning_governs (s := s.onPins fun p => { p with warning := true }) rfl h _

/-! ## A power warning ends -/

theorem governed_unwarned (hk : governed b n e d f w) : governed b n e d f false :=
  have hk := governed_iff.mp hk
  governed_iff.mpr ⟨hk.note, hk.env, fun _ h => Bool.noConfusion h, fun l hb => (hk.lane l hb).unwarned⟩

theorem State.Governs.endWarnNote (h : b.Governs s) : b.Governs s.endWarnNote := by
  simpa [State.Governs] using State.endWarnNote_governed h rfl

theorem State.Governs.endWarnLane (h : b.Governs s) (l : Lane) : b.Governs (s.endWarnLane l) := by
  simpa [State.Governs] using State.endWarnLane_governed h l rfl

theorem State.Governs.endWarnEnv (h : b.Governs s) (before : Bool) : b.Governs (s.endWarnEnv before) := by
  simpa [State.Governs] using State.endWarnEnv_governed h before rfl

theorem State.Governs.endWarn (h : b.Governs s) : b.Governs s.endWarn := by
  have h0 : b.Governs (s.onPins fun p => { p with warning := false }) := governed_unwarned h
  have h1 := List.foldlRecOn Lane.all State.endWarnLane (motive := fun t => b.Governs t) h0.endWarnNote
    fun t ht l _ => ht.endWarnLane l
  exact (h1.endWarnEnv _).ite h

/-! ## Power-on -/

/-- A locked lane's drawer stays where it is (R85). -/
theorem State.startLocked_ldc (s : State) (l : Lane) : ∃ st hd,
    (st ≠ .extending ∧ st ≠ .retracting) ∧ (s.startLocked l).ldc = s.ldc.put l { s.ldc.get l with
      state := st, halted := hd, solenoid := true, restartHoming := true } := by
  have hst : ∀ st ∈ s.switchState l, st ≠ .extending ∧ st ≠ .retracting := by
    intro st hs
    unfold State.switchState at hs
    split at hs
    · cases hs; exact ⟨by simp, by simp⟩
    · split at hs <;> cases hs
      exact ⟨by simp, by simp⟩
  unfold State.startLocked
  rw [State.onLdc_ldc]
  dsimp only
  split
  · next st hs => exact ⟨st, _, hst st hs, rfl⟩
  · exact ⟨.stopped, _, ⟨by simp, by simp⟩, rfl⟩

theorem State.Governs.startLocked (h : b.Governs s) (l : Lane) (hf : s.fitted l = true) (hl : s.locked l = true) :
    b.Governs (s.startLocked l) := by
  obtain ⟨st, hd, hs, hldc⟩ := s.startLocked_ldc l
  have hn : (s.ldc.get l).locks ≠ 0 := by simpa [State.locked] using hl
  have h1 : b.Governs { s with ldc := (s.startLocked l).ldc } := by
    rw [hldc]
    refine governed_put h l fun hx => ?_
    rw [show decide (l.num ≤ s.set.fittedLanes.value) = true from hf] at hx ⊢
    exact Ldc.lawful_engaged (hx.motor_of_locked hn) hs hn rfl
  exact h1

theorem State.Governs.startUnlocked (h : b.Governs s) (l : Lane) (hl : s.locked l = false) :
    b.Governs (s.startUnlocked l) := by
  have h1 : b.Governs (s.onLdc l fun d => { d with restartHoming := true }) :=
    governed_put h l fun h => h.same rfl rfl rfl rfl
  have hl1 : (s.onLdc l fun d => { d with restartHoming := true }).locked l = false := by
    simpa [State.locked] using hl
  unfold State.startUnlocked
  dsimp only
  split
  · exact h1.enterHome l false
  split
  · next hw =>
    refine governed_put h1 l fun hx => hx.stops (hx.2.2 (Bool.and_eq_true_iff.mp hw).1) (by simp) rfl rfl
  · simpa [State.Governs] using State.startMotion_governed h1 l .retracting rfl hl1

theorem State.Governs.startLane (h : b.Governs s) (l : Lane) : b.Governs (s.startLane l) := by
  unfold State.startLane
  split
  · next hf =>
    split
    · next hl => exact h.startLocked l hf hl
    · next hl => exact h.startUnlocked l (Bool.not_eq_true _ ▸ hl)
  · exact h

/-- The blocks start (R65, R85, R105). -/
theorem State.Governs.startBlocks (h : b.Governs s) : b.Governs s.startBlocks := by
  have h1 : b.Governs s.startLanes := List.foldlRecOn Lane.all State.startLane (motive := fun t => b.Governs t) h
    fun t ht l _ => ht.startLane l
  have h2 : b.Governs s.startLanes.startThroats := h1
  exact h2.pauseNote.pauseEnv.ite h2.startRestartNote.startRestartEnv

/-- The controllers and transports as power-on finds them: nothing driven, nothing moving, no pause. -/
structure State.Unpowered (s : State) : Prop where
  note : s.ntc.mode = ⟨.leader, none, false, false⟩
  env : s.ecc.mode = ⟨.leader, none, false⟩
  idle : s.ntc.current = none
  lane : ∀ l, (s.ldc.get l).motor = false ∧ (s.ldc.get l).state = .home ∧ (s.ldc.get l).solenoid = false

/-- A lane's start touches its own controller alone. -/
theorem State.startLane_other (s : State) {l k : Lane} (h : k ≠ l) : (s.startLane l).ldc.get k = s.ldc.get k := by
  obtain ⟨st, hd, -, hl⟩ := s.startLocked_ldc l
  unfold State.startLane
  split
  · split
    · rw [hl, PerLane.get_put_other _ _ h]
    · unfold State.startUnlocked
      dsimp only
      (repeat' split) <;> simp [State.enterHome_ldc, State.startMotion_ldc, PerLane.get_put_other _ _ h]
  · rfl

theorem foldl_startLane_other (ls : List Lane) {k : Lane} (h : k ∉ ls) :
    (ls.foldl State.startLane s).ldc.get k = s.ldc.get k := by
  induction ls generalizing s with
  | nil => rfl
  | cons l ls ih =>
    rw [List.mem_cons, not_or] at h
    obtain ⟨hl, hls⟩ := h
    rw [List.foldl_cons, ih hls, s.startLane_other hl]

/-- A lane that starts has a lawful drawer (R85). -/
theorem State.startLane_lawful {l : Lane} (hm : (s.ldc.get l).motor = false) (hs : (s.ldc.get l).state = .home)
    (ho : (s.ldc.get l).solenoid = false) (hn : s.ntc.current = none) :
    ((s.startLane l).ldc.get l).lawful (s.fitted l) s.pins.warning := by
  have hst : (s.ldc.get l).state ≠ .extending ∧ (s.ldc.get l).state ≠ .retracting := by simp [hs]
  cases hl : s.fitted l && s.locked l with
  | true =>
    obtain ⟨hf, hl⟩ := Bool.and_eq_true_iff.mp hl
    obtain ⟨st, hd, hst, hldc⟩ := s.startLocked_ldc l
    rw [State.startLane, if_pos hf, if_pos hl, hldc, PerLane.get_put_same, hf]
    exact Ldc.lawful_engaged hm hst (by simpa [State.locked] using hl) rfl
  | false =>
    have h0 : (s.ldc.get l).lawful (s.fitted l) s.pins.warning := by
      refine ⟨(Ldc.driveLawful_iff _).mpr (by simp [hm, hst]), ?_, fun _ => hm⟩
      rw [ho, ← hl, State.locked]
    have h1 := (governed_iff.mp (s.governs_refl.startLane l)).lane l h0
    have h2 := State.startLane_settles hn l
    rw [h2.pins] at h1
    rw [h2.set] at h1
    exact h1

theorem foldl_startLane_lawful (ls : List Lane) (hnd : ls.Nodup) {k : Lane} (hk : k ∈ ls)
    (hm : (s.ldc.get k).motor = false) (hs : (s.ldc.get k).state = .home)
    (ho : (s.ldc.get k).solenoid = false) (hn : s.ntc.current = none) :
    ((ls.foldl State.startLane s).ldc.get k).lawful (s.fitted k) s.pins.warning := by
  induction ls generalizing s with
  | nil => cases hk
  | cons l ls ih =>
    obtain ⟨hl, hls⟩ := List.nodup_cons.mp hnd
    rw [List.foldl_cons]
    by_cases he : k = l
    · subst he
      rw [foldl_startLane_other ls hl]
      exact State.startLane_lawful hm hs ho hn
    · have h2 := State.startLane_settles hn l
      have ho2 := s.startLane_other he
      rw [← State.fitted_of_set h2.set, ← h2.pins]
      exact ih hls ((List.mem_cons.mp hk).resolve_left he) (ho2 ▸ hm) (ho2 ▸ hs) (ho2 ▸ ho) (h2.ntc ▸ hn)

/-- The blocks start from what power-on finds into drives and pauses that are lawful. -/
theorem State.Unpowered.startBlocks (h : s.Unpowered) :
    s.startBlocks.drivesLawful = true ∧ s.startBlocks.pausesLegal := by
  have hg := governed_iff.mp s.governs_refl.startBlocks
  obtain ⟨-, -, hp, hset⟩ := State.startBlocks_settles h.idle
  refine ⟨(State.drivesLawful_iff _).mpr ⟨fun l => ?_, fun hw => ?_⟩, (State.pausesLegal_iff _).mpr ⟨?_, ?_⟩⟩
  · obtain ⟨hm, hs, ho⟩ := h.lane l
    have hl : (s.startLanes.ldc.get l).lawful (s.fitted l) s.pins.warning :=
      foldl_startLane_lawful Lane.all (by decide) (by cases l <;> decide) hm hs ho h.idle
    rw [State.fitted_of_set hset, hp]
    simpa only [State.startBlocks, State.startLeaders_frame, State.startThroats_frame] using hl
  · refine hg.still (fun _ => ?_) hw
    rw [h.note, h.env]
    exact ⟨⟨rfl, rfl⟩, rfl⟩
  · exact hg.note (by rw [h.note]; simp)
  · exact hg.env (by rw [h.env]; simp)

theorem State.dark_unpowered (s : State) (inputs : Pins) : (s.dark inputs).Unpowered :=
  ⟨rfl, rfl, rfl, fun l => by cases l <;> exact ⟨rfl, rfl, rfl⟩⟩

/-- The judgement of an envelope in flight leaves the mode (R176). -/
@[simp] theorem State.failInFlight_mode (s : State) : s.failInFlight.ecc.mode = s.ecc.mode := by
  unfold State.failInFlight
  split <;> simp

@[simp] theorem State.restartChanges_mode (s : State) : s.restartChanges.ecc.mode = s.ecc.mode := by
  unfold State.restartChanges
  dsimp only
  split <;> simp

@[simp] theorem State.restartRetained_mode (s : State) : s.restartRetained.ecc.mode = s.ecc.mode := by
  simp [State.restartRetained]

theorem State.Unpowered.restartRetained (h : s.Unpowered) : s.restartRetained.Unpowered := by
  obtain ⟨hn, he, hc, hl⟩ := h
  constructor
  · simpa using hn
  · simpa using he
  · simpa using hc
  · simpa using hl

/-- What stands in the backup memory leaves both laws. -/
theorem State.markBackup_lawful {x : Bool} (h : s.drivesLawful = true ∧ s.pausesLegal) :
    (s.markBackup x).drivesLawful = true ∧ (s.markBackup x).pausesLegal := h

/-- A power-on leaves both laws met (R65, R85, R105, R177). -/
theorem State.powerOn_lawful (s : State) (retained : Bool) (inputs : Pins) :
    (s.powerOn retained inputs).drivesLawful = true ∧ (s.powerOn retained inputs).pausesLegal := by
  unfold State.powerOn
  split
  · exact State.markBackup_lawful (s.dark_unpowered inputs).restartRetained.startBlocks
  · have h : ((s.clearBackup.dark inputs).setWallFlag .backupLost).Unpowered := by
      obtain ⟨hn, he, hc, hl⟩ := s.clearBackup.dark_unpowered inputs
      exact ⟨by simpa using hn, by simpa using he, by simpa using hc, by simpa using hl⟩
    exact State.markBackup_lawful h.startBlocks

theorem exec_powerOn (s : State) (a c : Bool) (inputs : Pins) :
    exec (.powerOn a c inputs) s = .next (s.powerOn (a && c) inputs) := by
  rfl

theorem exec_powerWarning (s : State) : exec .powerWarning s = .next s.warn := by
  rfl

theorem exec_powerWarningEnd (s : State) : exec .powerWarningEnd s = .next s.endWarn := by
  rfl

/-! ## Every step -/

/-- Both laws hold after a change that governs them. -/
theorem State.Governs.laws {t : State} (h : s.Governs t) :
    (s.drivesLawful = true → t.drivesLawful = true) ∧ (s.pausesLegal → t.pausesLegal) := by
  obtain ⟨hn, he, hs, hl⟩ := governed_iff.mp h
  refine ⟨fun hd => ?_, fun hp => ?_⟩
  · obtain ⟨hlane, hrest⟩ := (State.drivesLawful_iff s).mp hd
    exact (State.drivesLawful_iff t).mpr ⟨fun l => hl l (hlane l), hs hrest⟩
  · obtain ⟨hnote, henv⟩ := (State.pausesLegal_iff s).mp hp
    exact (State.pausesLegal_iff t).mpr ⟨hn hnote, he henv⟩

/-- A step is a power-on or governs both laws. -/
theorem step_governs {t : State} (h : step s = .next t) :
    (∃ u retained inputs, t = State.powerOn u retained inputs) ∨ s.Governs t := by
  have hlink {u : State} (hu : s.LinkOnly u) : s.Governs u := by
    obtain ⟨p, q, rfl⟩ := hu
    exact s.governs_refl
  rcases step_cases h with ht | hl | ⟨u, i, hu, hi, ht⟩
  · rw [ht]
    exact .inr (State.Governs.tick s.governs_refl)
  · exact .inr (hlink hl)
  · cases hp : ofPower i with
    | false => exact .inr (exec_governs_of_row (hlink hu) hi hp t ht)
    | true =>
      cases i with
      | powerOn a c inputs =>
        rw [exec_powerOn] at ht
        exact .inl ⟨u, a && c, inputs, (Host.Outcome.next.inj ht).symm⟩
      | powerWarning =>
        rw [exec_powerWarning] at ht
        exact .inr (Host.Outcome.next.inj ht ▸ (hlink hu).warn)
      | powerWarningEnd =>
        rw [exec_powerWarningEnd] at ht
        exact .inr (Host.Outcome.next.inj ht ▸ (hlink hu).endWarn)
      | _ => cases hp

end Sys2Proof.Machine

/-- Settles O11: every operation governs the laws of the drives (`Governed`), and a power-on starts from drawers and
transports that are undriven. -/
theorem drivesStayLawful : Obligations.DrivesStayLawful := by
  unfold Obligations.DrivesStayLawful
  intro s t hs ht
  rcases step_governs ht with ⟨u, retained, inputs, rfl⟩ | h
  · exact (u.powerOn_lawful retained inputs).1
  · exact h.laws.1 hs

/-- Settles O14: the same change of the transports' modes keeps the saved states. -/
theorem pausesStayLegal : Obligations.PausesStayLegal := by
  unfold Obligations.PausesStayLegal
  intro s t hs ht
  rcases step_governs ht with ⟨u, retained, inputs, rfl⟩ | h
  · exact (u.powerOn_lawful retained inputs).2
  · exact h.laws.2 hs
end

section
/-! PROOF. A power warning stops every mechanism and keeps every state (R84, R104, R120). -/

open Sys2Proof Sys2Proof.Machine

namespace Sys2Proof.Machine

variable {s : State}

/-! ## The open condition at a change that closes it -/

/-- Under a power warning the open condition does not hold (R106). -/
theorem State.openCondition_of_warning (h : s.pins.warning = true) : s.openCondition = false := by
  simp [State.openCondition, h]

/-- Where the open condition does not hold, what follows it is the throats alone (R106). -/
theorem State.followOpen_of_closed (h : s.openCondition = false) (before : Bool) :
    ∃ y, s.followOpen before = s.onEcc fun e => { e with throats := y } := by
  unfold State.followOpen
  rw [h]
  split
  · exact ⟨s.ecc.throats, rfl⟩
  · exact ⟨_, rfl⟩

/-! ## The drawers -/

/-- The warning reaches each lane's drawer as if it were the only one (R104). -/
theorem State.warnLanes_get (s : State) (k : Lane) : ∃ u : State, u.ldc.get k = s.ldc.get k
    ∧ (Lane.all.foldl State.warnLane s).ldc.get k = (u.warnLane k).ldc.get k := by
  cases k <;> simp only [Lane.all, List.foldl_cons, List.foldl_nil]
  · refine ⟨s, rfl, ?_⟩
    rw [State.warnLane_other _ (by decide), State.warnLane_other _ (by decide), State.warnLane_other _ (by decide)]
  · refine ⟨s.warnLane .l1, State.warnLane_other _ (by decide), ?_⟩
    rw [State.warnLane_other _ (by decide), State.warnLane_other _ (by decide)]
  · refine ⟨(s.warnLane .l1).warnLane .l2, ?_, State.warnLane_other _ (by decide)⟩
    rw [State.warnLane_other _ (by decide), State.warnLane_other _ (by decide)]
  · refine ⟨((s.warnLane .l1).warnLane .l2).warnLane .l3, ?_, rfl⟩
    rw [State.warnLane_other _ (by decide), State.warnLane_other _ (by decide), State.warnLane_other _ (by decide)]

/-- A moving drawer is STOPPED with its motion halted, and its take timer freezes (R104). -/
theorem State.warnLane_of_moving {l : Lane} {m : Motion} (h : (s.ldc.get l).state = m.state) :
    (s.warnLane l).ldc.get l = { s.ldc.get l with
      state := .stopped, halted := some m, motor := false, motion := .stopped, take := (s.ldc.get l).take.freeze } := by
  rw [State.warnLane, State.onLdc_ldc, PerLane.get_put_same, State.haltDrawer_ldc_of_moving h, PerLane.get_put_same]

/-- A drawer that does not move stays as it is, its take timer frozen (R104). -/
theorem State.warnLane_of_standing {l : Lane} (h : ∀ m, (s.ldc.get l).state ≠ Motion.state m) :
    (s.warnLane l).ldc.get l = { s.ldc.get l with take := (s.ldc.get l).take.freeze } := by
  rw [State.warnLane, State.onLdc_ldc, PerLane.get_put_same, State.haltDrawer_of_not_moving h]

/-- The take timer keeps its time (R104). -/
theorem State.warnLane_take (s : State) (l : Lane) :
    ((s.warnLane l).ldc.get l).take = (s.ldc.get l).take.freeze := by
  rcases s.moving_or_not l with ⟨m, hm⟩ | hm
  · rw [State.warnLane_of_moving hm]
  · rw [State.warnLane_of_standing hm]

/-! ## The whole warning -/

/-- The lanes under a warning, after the note transport. -/
def State.warned (s : State) : State :=
  Lane.all.foldl State.warnLane (s.onPins fun p => { p with warning := true }).warnNote

/-- The envelope transport stops in the state it is in, a pause left for its saved state, and its throats follow the
open condition, which a warning ends (R106, R120). -/
theorem State.warnEnv_eq (h : s.pins.warning = true) (before : Bool) : ∃ y,
    s.warnEnv before = ((((s.onEcc fun e => { e with state := e.phase, saved := none }).suspendEnv).runEnd
      .envelope).onEcc fun e => { e with throats := y }) :=
  State.followOpen_of_closed (State.openCondition_of_warning (by simp [h])) before

theorem exec_powerWarning_of_none (h : s.pins.warning = false) :
    exec .powerWarning s = .next (s.warned.warnEnv s.openCondition) := by
  rw [exec_powerWarning, State.warn, h, if_neg Bool.false_ne_true]
  rfl

theorem State.warned_frame (s : State) :
    s.warned.ct = s.ct ∧ s.warned.dpl = s.dpl ∧ s.warned.ecc = s.ecc ∧ s.warned.slp = s.slp
      ∧ s.warned.azu.zones = s.azu.zones ∧ s.warned.azu.grants = s.azu.grants
      ∧ s.warned.pins = { s.pins with warning := true } := by
  simp [State.warned]

/-- The note transport stops in the state it is in, a pause left for its saved state (R84). -/
theorem State.warned_note (s : State) :
    s.warned.ntc.motor = false ∧ s.warned.ntc.dump = false ∧ s.warned.ntc.state = s.ntc.phase
      ∧ s.warned.ntc.current = s.ntc.current ∧ s.warned.ntc.stackerCount = s.ntc.stackerCount := by
  simp [State.warned, State.warnNote, State.suspendNote]

end Sys2Proof.Machine

/-- Settles O16: the note transport, then each lane as if it were the only one, then the envelope transport, whose
throats alone follow the open condition that the warning ends. -/
theorem powerWarningStopsTheMechanisms : Obligations.PowerWarningStopsTheMechanisms := by
  unfold Obligations.PowerWarningStopsTheMechanisms
  intro s hw
  obtain ⟨hct, hdpl, hecc, hslp, hz, hg, hp⟩ := s.warned_frame
  obtain ⟨hmotor, hdump, hstate, hcurrent, hcount⟩ := s.warned_note
  obtain ⟨y, hy⟩ := State.warnEnv_eq (s := s.warned) (by rw [hp]) s.openCondition
  have henv : (s.warned.warnEnv s.openCondition).ecc.motor = false
      ∧ (s.warned.warnEnv s.openCondition).ecc.feed = .stopped
      ∧ (s.warned.warnEnv s.openCondition).ecc.state = s.ecc.phase
      ∧ (s.warned.warnEnv s.openCondition).ecc.current = s.ecc.current
      ∧ (s.warned.warnEnv s.openCondition).ct = s.ct ∧ (s.warned.warnEnv s.openCondition).slp = s.slp := by
    rw [hy]
    simp [State.suspendEnv, hecc, hct, hslp]
  obtain ⟨hem, hef, hes, hec, hect, hesl⟩ := henv
  have hlane (l : Lane) : ∃ u : State, u.ldc.get l = s.ldc.get l
      ∧ (s.warned.warnEnv s.openCondition).ldc.get l = (u.warnLane l).ldc.get l := by
    simpa [State.warned] using (s.onPins fun p => { p with warning := true }).warnNote.warnLanes_get l
  refine ⟨_, exec_powerWarning_of_none hw, by simp [hp], by simp [hmotor], by simp [hdump], hem, hef, by simp [hstate],
    by simp [hcurrent], by simp [hcount], hes, hec, fun l m hm => ?_, fun l hm => ?_, fun l => ?_, hect, by simp [hdpl],
    by simp [hg], by simp [hz], hesl⟩
  · obtain ⟨u, hu, hl⟩ := hlane l
    rw [hl, State.warnLane_of_moving (hu ▸ hm)]
    exact ⟨rfl, rfl, rfl, rfl⟩
  · obtain ⟨u, hu, hl⟩ := hlane l
    rw [hl, State.warnLane_of_standing (hu ▸ hm), hu]
    exact ⟨rfl, rfl⟩
  · obtain ⟨u, hu, hl⟩ := hlane l
    rw [hl, State.warnLane_take, hu]
end

section
/-! PROOF. What the operations of a power warning's end leave alone: the inputs but the stacker's, the number of fitted
lanes, and the wall flags that are set (R84, R104, R120, R169). -/

open Sys2Proof Sys2Proof.Machine

namespace Sys2Proof.Machine

variable {s : State}

/-! ## The inputs -/

/-- The inputs but the stacker's, which a routing finds empty (R77). -/
def State.sensors (s : State) : Pins := { s.pins with stackerEmpty := false }

theorem State.sensors_of_pins {t : State} (h : t.pins = s.pins) : t.sensors = s.sensors := by
  rw [State.sensors, State.sensors, h]

@[simp] theorem State.route_sensors (s : State) (h : Handle) (l : Lane) : (s.route h l).sensors = s.sensors := by
  simp [State.route, State.sensors]

@[simp] theorem State.checkReady_sensors (s : State) : s.checkReady.sensors = s.sensors := by
  unfold State.checkReady
  (repeat' split) <;> simp

@[simp] theorem State.reportLane_sensors (s : State) (l : Lane) : (s.reportLane l).sensors = s.sensors := by
  unfold State.reportLane
  (repeat' split) <;> simp

@[simp] theorem State.enterHome_sensors (s : State) (l : Lane) (flag : Bool) :
    (s.enterHome l flag).sensors = s.sensors := by
  unfold State.enterHome
  dsimp only
  rw [State.reportLane_sensors]
  exact State.sensors_of_pins (by split <;> simp)

@[simp] theorem State.sendHome_sensors (s : State) (l : Lane) (flag : Bool) :
    (s.sendHome l flag).sensors = s.sensors := by
  unfold State.sendHome
  split
  · simp
  · rw [State.reportLane_sensors]
    exact State.sensors_of_pins (by simp)

@[simp] theorem State.endWarnLane_sensors (s : State) (l : Lane) : (s.endWarnLane l).sensors = s.sensors := by
  unfold State.endWarnLane
  dsimp only
  split
  · rfl
  split
  · rw [State.sendHome_sensors]
    exact State.sensors_of_pins (by simp)
  split
  · rw [State.reportLane_sensors]
    exact State.sensors_of_pins (by simp)
  · rfl
  · rfl

@[simp] theorem State.endWarnNote_sensors (s : State) : s.endWarnNote.sensors = s.sensors := by
  unfold State.endWarnNote
  dsimp only
  split
  · split <;> exact State.sensors_of_pins (by simp)
  · exact State.sensors_of_pins (by simp)
  · exact State.sensors_of_pins (by simp)
  · split
    · rfl
    · rw [State.checkReady_sensors]
      rfl
  · exact State.sensors_of_pins (by simp)
  · rfl

/-! ## The number of fitted lanes -/

@[simp] theorem State.endBundle_fittedLanes (s : State) (e : Ending) :
    (s.endBundle e).set.fittedLanes = s.set.fittedLanes := by
  unfold State.endBundle
  dsimp only
  (repeat' split) <;> simp

@[simp] theorem State.decideEnding_fittedLanes (s : State) (e : Ending) :
    (s.decideEnding e).set.fittedLanes = s.set.fittedLanes := by
  unfold State.decideEnding
  (repeat' split) <;> simp

@[simp] theorem State.doubtsDrawn_fittedLanes (s : State) (x : List Handle) :
    (s.doubtsDrawn x).set.fittedLanes = s.set.fittedLanes := by
  unfold State.doubtsDrawn
  (repeat' split) <;> simp

@[simp] theorem State.judgeHome_fittedLanes (s : State) (l : Lane) (restart : Bool) :
    (s.judgeHome l restart).set.fittedLanes = s.set.fittedLanes := by
  unfold State.judgeHome State.takeUnseen
  (repeat' split) <;> simp

@[simp] theorem State.enterHome_fittedLanes (s : State) (l : Lane) (flag : Bool) :
    (s.enterHome l flag).set.fittedLanes = s.set.fittedLanes := by
  cases flag <;> simp [State.enterHome]

@[simp] theorem State.endWarnLane_fittedLanes (s : State) (l : Lane) :
    (s.endWarnLane l).set.fittedLanes = s.set.fittedLanes := by
  unfold State.endWarnLane State.sendHome
  dsimp only
  (repeat' split) <;> simp

@[simp] theorem State.stopTransport_fittedLanes (s : State) (c : DoubtCause) (r : FailReason) (vault : Bool) :
    (s.stopTransport c r vault).set.fittedLanes = s.set.fittedLanes := by
  unfold State.stopTransport
  (repeat' split) <;> simp

@[simp] theorem State.endWarnNote_fittedLanes (s : State) : s.endWarnNote.set.fittedLanes = s.set.fittedLanes := by
  unfold State.endWarnNote
  dsimp only
  (repeat' split) <;> simp

/-! ## The wall flags -/

/-- A wall flag that is set stays set through a change of the SLP that keeps its wall flags. -/
theorem State.wallFlag_of_slp {t : State} {x : WallFlag} (h : s.wallFlag x = true)
    (ht : t.slp.wallFlags = s.slp.wallFlags) : t.wallFlag x = true := by
  rwa [State.wallFlag, ht]

variable {x : WallFlag}

/-- Setting a flag clears none (R169). -/
@[simp] theorem State.setWallFlag_raised (h : s.wallFlag x = true) (y : WallFlag) :
    (s.setWallFlag y).wallFlag x = true := by
  simp only [State.wallFlag, State.setWallFlag, bne_iff_ne, State.onSlp] at h ⊢
  rw [BitVec.and_or_distrib_right]
  exact fun h0 => h (BitVec.or_eq_zero_iff.mp h0).1

theorem foldl_raised {α : Type} (l : List α) {g : State → α → State}
    (hg : ∀ (s : State) a, s.wallFlag x = true → (g s a).wallFlag x = true) (h : s.wallFlag x = true) :
    (l.foldl g s).wallFlag x = true :=
  List.foldlRecOn l g (motive := fun t => t.wallFlag x = true) h fun s hs a _ => hg s a hs

@[simp] theorem State.setLaneFlag_raised (h : s.wallFlag x = true) (l : Lane) (y : LaneFlag) :
    (s.setLaneFlag l y).wallFlag x = true := by
  unfold State.setLaneFlag
  split <;> exact h

@[simp] theorem State.onCt_wallFlag (s : State) (g : Ct → Ct) (x : WallFlag) :
    (s.onCt g).wallFlag x = s.wallFlag x := rfl

@[simp] theorem State.onDpl_wallFlag (s : State) (g : Dpl → Dpl) (x : WallFlag) :
    (s.onDpl g).wallFlag x = s.wallFlag x := rfl

@[simp] theorem State.onLdc_wallFlag (s : State) (l : Lane) (g : Ldc → Ldc) (x : WallFlag) :
    (s.onLdc l g).wallFlag x = s.wallFlag x := rfl

@[simp] theorem State.invalidateQuotes_wallFlag (s : State) (k : Handle) (x : WallFlag) :
    (s.invalidateQuotes k).wallFlag x = s.wallFlag x := rfl

@[simp] theorem State.putStock_raised (h : s.wallFlag x = true) (k : Handle) (new : Stock) :
    (s.putStock k new).wallFlag x = true := by
  unfold State.putStock
  dsimp only
  (repeat' split) <;> simp [h]

@[simp] theorem State.tallyStock_raised (h : s.wallFlag x = true) (k : Handle) (g : Stock → Stock) :
    (s.tallyStock k g).wallFlag x = true := by
  unfold State.tallyStock
  split <;> simp [h]

@[simp] theorem State.releaseParts_raised (h : s.wallFlag x = true) (parts : List Part) :
    (s.releaseParts parts).wallFlag x = true :=
  foldl_raised parts (fun _ p h => State.tallyStock_raised h p.stock _) h

@[simp] theorem State.retireBundle_raised (h : s.wallFlag x = true) (k : Handle) (e : Ending) :
    (s.retireBundle k e).wallFlag x = true := by
  unfold State.retireBundle
  dsimp only
  split <;> simp [h]

@[simp] theorem State.cancelQueued_raised (h : s.wallFlag x = true) (k : Handle) :
    (s.cancelQueued k).wallFlag x = true := by
  unfold State.cancelQueued
  split <;> simp [h]

@[simp] theorem State.cancelDrawing_raised (h : s.wallFlag x = true) (k : Handle) :
    (s.cancelDrawing k).wallFlag x = true := by
  refine foldl_raised s.dpl.queue (fun s j h => ?_) h
  (repeat' split) <;> simp [h]

@[simp] theorem State.doubtStock_raised (h : s.wallFlag x = true) (k : Handle) (c : DoubtCause) :
    (s.doubtStock k c).wallFlag x = true := by
  unfold State.doubtStock State.changeStock
  dsimp only
  (repeat' split) <;> simp [h]

@[simp] theorem State.doubtPlan_raised (h : s.wallFlag x = true) (b : Bundle) (c : DoubtCause) :
    (s.doubtPlan b c).wallFlag x = true :=
  foldl_raised b.parts (fun _ p h => State.doubtStock_raised h p.stock c) h

@[simp] theorem State.takeBundle_raised (h : s.wallFlag x = true) (k : Handle) (b : Bundle) :
    (s.takeBundle k b).wallFlag x = true :=
  State.retireBundle_raised (foldl_raised b.parts (fun _ p h => State.tallyStock_raised h p.stock _) h) k _

@[simp] theorem State.retireTransit_raised (h : s.wallFlag x = true) (k : Handle) :
    (s.retireTransit k).wallFlag x = true := by
  unfold State.retireTransit
  split <;> simp [h]

@[simp] theorem State.takeConsignment_raised (h : s.wallFlag x = true) (g : Consignment) :
    (s.takeConsignment g).wallFlag x = true := by
  cases g <;> simp [State.takeConsignment, h]

@[simp] theorem State.setBundleState_wallFlag (s : State) (k : Handle) (st : BundleState) (x : WallFlag) :
    (s.setBundleState k st).wallFlag x = s.wallFlag x := by
  simp [State.wallFlag]

@[simp] theorem State.comeBack_raised (h : s.wallFlag x = true) (g : Consignment) :
    (s.comeBack g).wallFlag x = true := by
  unfold State.comeBack State.setTransitState
  (repeat' split) <;> simp [h]

/-- The judgement of a tray clears no wall flag, with no bundle in the note transport (R94, R177). -/
theorem State.judgeHome_raised (h : s.wallFlag x = true) (hn : s.ntc.current = none) (l : Lane) (restart : Bool) :
    (s.judgeHome l restart).wallFlag x = true := by
  have hu (b : Bundle) (g : Consignment) : (s.takeUnseen b g).wallFlag x = true := by
    rw [State.takeUnseen, State.doubtsDrawn_of_idle (by simp [hn])]
    simp [h]
  have hd : (s.takeDeposit l).wallFlag x = true := by
    simp [State.takeDeposit, State.createRecord, h]
  unfold State.judgeHome
  (repeat' split) <;> simp [h, hu, hd]

/-- A drawer's own changes clear no wall flag. -/
@[simp] theorem State.stopDrawer_wallFlag (s : State) (l : Lane) (x : WallFlag) :
    (s.stopDrawer l).wallFlag x = s.wallFlag x := by
  simp [State.wallFlag]

@[simp] theorem State.startMotion_wallFlag (s : State) (l : Lane) (m : Motion) (x : WallFlag) :
    (s.startMotion l m).wallFlag x = s.wallFlag x := by
  simp [State.wallFlag]

@[simp] theorem State.reportLane_wallFlag (s : State) (l : Lane) (x : WallFlag) :
    (s.reportLane l).wallFlag x = s.wallFlag x := by
  simp [State.wallFlag]

/-- A drawer that enters HOME clears no wall flag, with no bundle in the note transport (R86, R94). -/
theorem State.enterHome_raised (h : s.wallFlag x = true) (hn : s.ntc.current = none) (l : Lane) (flag : Bool) :
    (s.enterHome l flag).wallFlag x = true := by
  have hd : (((s.onLdc l fun d => { d with state := .home, halted := none, restartHoming := false }).stopDrawer
      l).judgeHome l (s.ldc.get l).restartHoming).wallFlag x = true :=
    State.judgeHome_raised (by simpa using h) (by simpa using hn) l _
  cases flag <;> simp [State.enterHome, hd]

end Sys2Proof.Machine
end

section
/-! PROOF. A power warning that ends with the supply kept: the note transport's picking fails, an envelope on its way
jams, and an unlocked lane's halted motion goes on (R84, R104, R120, R175). -/

open Sys2Proof Sys2Proof.Machine

namespace Sys2Proof.Machine

variable {s : State} {x : WallFlag}

/-! ## The envelope transport -/

@[simp] theorem State.arbitrate_wallFlag (s : State) (x : WallFlag) : s.arbitrate.wallFlag x = s.wallFlag x := by
  unfold State.arbitrate State.wallFlag
  (repeat' split) <;> simp

@[simp] theorem State.followOpen_wallFlag (s : State) (before : Bool) (x : WallFlag) :
    (s.followOpen before).wallFlag x = s.wallFlag x := by
  have he : s.examineThroats.wallFlag x = s.wallFlag x := by simp [State.wallFlag]
  unfold State.followOpen
  (repeat' split) <;> simp [he]

/-- A transport that is not IDLE takes no throat (R108). -/
theorem State.arbitrate_of_busy (h : s.ecc.state ≠ .idle) : s.arbitrate = s := by
  simp [State.arbitrate, h]

/-- A JAMMED transport stays JAMMED as the open condition is followed, its throats alone changing (R106). -/
theorem State.followOpen_of_jammed (h : s.ecc.state = .jammed) (before : Bool) :
    ∃ y, s.followOpen before = s.onEcc fun e => { e with throats := y } :=
  State.followOpen_of_closed (by simp [State.openCondition, h]) before

theorem State.followOpen_jammedEmpty (h : s.ecc.jammedEmpty) (before : Bool) :
    (s.followOpen before).ecc.jammedEmpty := by
  obtain ⟨y, hy⟩ := State.followOpen_of_jammed h.1 before
  rw [hy]
  exact h

@[simp] theorem State.haltEnv_feed (s : State) : s.haltEnv.ecc.feed = .stopped := by
  simp [State.haltEnv, State.stopEnvMotor]

@[simp] theorem State.onThroat_feed (s : State) (t : Throat) (g : ThroatUnit → ThroatUnit) :
    (s.onThroat t g).ecc.feed = s.ecc.feed := rfl

/-- The transport stops into JAMMED with no envelope, and TRANSPORT_JAM is set (R117, R120). -/
theorem State.stopEnvTransport_jammed (s : State) (c : DoubtCause) :
    (s.stopEnvTransport c).ecc.jammedEmpty ∧ (s.stopEnvTransport c).wallFlag .transportJam = true := by
  unfold State.stopEnvTransport
  dsimp only
  refine ⟨?_, State.setWallFlag_wallFlag _ _⟩
  rw [show ∀ u : State, (u.setWallFlag .transportJam).ecc = u.ecc from fun _ => rfl]
  refine State.followOpen_jammedEmpty ⟨rfl, ?_, ?_, rfl, rfl⟩ _
  all_goals (repeat' split) <;> simp

@[simp] theorem State.doubtActiveBin_wallFlag (s : State) (c : DoubtCause) (x : WallFlag) :
    (s.doubtActiveBin c).wallFlag x = s.wallFlag x := by
  simp [State.wallFlag]

@[simp] theorem State.onThroat_wallFlag (s : State) (t : Throat) (g : ThroatUnit → ThroatUnit) (x : WallFlag) :
    (s.onThroat t g).wallFlag x = s.wallFlag x := rfl

@[simp] theorem State.onEcc_wallFlag (s : State) (g : Ecc → Ecc) (x : WallFlag) :
    (s.onEcc g).wallFlag x = s.wallFlag x := rfl

@[simp] theorem State.haltEnv_wallFlag (s : State) (x : WallFlag) : s.haltEnv.wallFlag x = s.wallFlag x := by
  simp [State.wallFlag]

@[simp] theorem State.enterEnvIdle_wallFlag (s : State) (x : WallFlag) :
    s.enterEnvIdle.wallFlag x = s.wallFlag x := rfl

@[simp] theorem State.examineThroats_wallFlag (s : State) (x : WallFlag) :
    s.examineThroats.wallFlag x = s.wallFlag x := rfl

@[simp] theorem State.stopEnvTransport_raised (h : s.wallFlag x = true) (c : DoubtCause) :
    (s.stopEnvTransport c).wallFlag x = true := by
  unfold State.stopEnvTransport
  refine State.setWallFlag_raised ?_ _
  rw [State.followOpen_wallFlag, State.onEcc_wallFlag]
  (repeat' split) <;> simp [h]

theorem State.haltEnv_doubt_settles (s : State) (c : DoubtCause) : s.ct.Settles (s.haltEnv.doubtActiveBin c).ct := by
  have h := (s.haltEnv.doubtActiveBin_settles c).ct
  simpa using h

theorem State.stopEnvTransport_settles (s : State) (c : DoubtCause) : s.ct.Settles (s.stopEnvTransport c).ct := by
  have h : (s.stopEnvTransport c).ct = (s.haltEnv.doubtActiveBin c).ct := by
    unfold State.stopEnvTransport
    dsimp only
    (repeat' split) <;> simp
  rw [h]
  exact s.haltEnv_doubt_settles c

theorem State.dropLeader_settles (s : State) : s.ct.Settles s.dropLeader.ct := by
  unfold State.dropLeader State.finishEnvClear
  split
  · split
    · simpa using s.haltEnv_doubt_settles .jam
    · simpa using Ct.Settles.refl s.ct
  · dsimp only
    split <;> simpa [State.backToOverdue, State.backToWaiting] using Ct.Settles.refl s.ct

theorem State.dropLeader_raised (h : s.wallFlag x = true) : s.dropLeader.wallFlag x = true := by
  unfold State.dropLeader State.finishEnvClear State.backToOverdue State.backToWaiting
  dsimp only
  (repeat' split) <;> simp [h]

theorem State.endWarnEnv_settles (s : State) (before : Bool) : s.ct.Settles (s.endWarnEnv before).ct := by
  unfold State.endWarnEnv
  dsimp only
  rw [State.arbitrate_ct, State.followOpen_ct]
  (repeat' split)
  · simpa using Ct.Settles.refl s.ct
  · exact s.dropLeader_settles
  · exact s.stopEnvTransport_settles _
  · exact s.stopEnvTransport_settles _
  · exact s.stopEnvTransport_settles _
  · exact s.stopEnvTransport_settles _
  · exact .refl _

theorem State.endWarnEnv_raised (h : s.wallFlag x = true) (before : Bool) :
    (s.endWarnEnv before).wallFlag x = true := by
  unfold State.endWarnEnv
  dsimp only
  rw [State.arbitrate_wallFlag, State.followOpen_wallFlag]
  have hs : s.startRestartEnv.wallFlag x = true := State.wallFlag_of_slp h (by simp)
  (repeat' split) <;> simp [h, hs, State.dropLeader_raised h]

/-- An envelope on its way leaves its transport JAMMED when the warning ends (R120). -/
theorem State.endWarnEnv_jammed (h : s.ecc.phase ∈ [EnvState.measuring, .forward, .reversing, .recapture])
    (before : Bool) : (s.endWarnEnv before).ecc.jammedEmpty ∧ (s.endWarnEnv before).wallFlag .transportJam = true := by
  have he : s.endWarnEnv before = ((s.stopEnvTransport .power).followOpen before).arbitrate := by
    simp only [List.mem_cons, List.not_mem_nil, or_false] at h
    rcases h with h | h | h | h <;> simp [State.endWarnEnv, h]
  obtain ⟨hj, hf⟩ := s.stopEnvTransport_jammed .power
  have hj' := State.followOpen_jammedEmpty hj before
  rw [he, State.arbitrate_of_busy (by rw [hj'.1]; simp)]
  exact ⟨hj', by simpa using hf⟩

/-! ## The lanes -/

/-- A drawer that enters HOME settles custody, with no bundle in the note transport (R86, R94). -/
theorem State.enterHome_settlesFlag (hn : s.ntc.current = none) (l : Lane) (flag : Bool) :
    s.Settles (s.enterHome l flag) := by
  cases flag with
  | false => exact State.enterHome_settles hn l
  | true =>
    have hd : s.Settles
      ((s.onLdc l fun d => { d with state := .home, halted := none, restartHoming := false }).stopDrawer
        l) := (s.onLdc_settles l _).trans (State.stopDrawer_settles _ l)
    have hj := hd.trans (State.judgeHome_settles (hd.ntc ▸ hn) l (s.ldc.get l).restartHoming)
    have hf := hj.trans (State.setLaneFlag_settles _ l .drawerHome)
    unfold State.enterHome
    dsimp only
    rw [if_pos rfl, State.reportLane_of_idle (hf.ntc ▸ hn)]
    exact hf

theorem State.startMotion_settles (s : State) (l : Lane) (m : Motion) : s.Settles (s.startMotion l m) :=
  .of_same (by simp) (by simp) (by simp) (by simp) (by simp)

theorem State.stopTake_settles (s : State) (l : Lane) : s.Settles (s.stopTake l) := s.onLdc_settles l _

theorem State.endWarnLane_settles (hn : s.ntc.current = none) (l : Lane) : s.Settles (s.endWarnLane l) := by
  unfold State.endWarnLane
  dsimp only
  split
  · exact .refl s
  split
  · have ht := s.stopTake_settles l
    unfold State.sendHome
    split
    · exact ht.trans (State.enterHome_settlesFlag (ht.ntc ▸ hn) l true)
    · have hm := ht.trans (State.startMotion_settles _ l .retracting)
      rw [State.reportLane_of_idle (hm.ntc ▸ hn)]
      exact hm
  split
  · next m _ _ =>
    have hm := s.startMotion_settles l m
    rw [State.reportLane_of_idle (hm.ntc ▸ hn)]
    exact hm
  · exact s.onLdc_settles l _
  · exact .refl s

theorem State.endWarnLane_raised (h : s.wallFlag x = true) (hn : s.ntc.current = none) (l : Lane) :
    (s.endWarnLane l).wallFlag x = true := by
  have ht : (s.stopTake l).wallFlag x = true := h
  have he := State.enterHome_raised ht (by simpa using hn) l true
  unfold State.endWarnLane State.sendHome
  dsimp only
  (repeat' split) <;> simp [h, ht, he]

/-- With no bundle in the note transport the lanes settle custody and clear no wall flag. -/
theorem State.endWarnLanes_settle (hn : s.ntc.current = none) (h : s.wallFlag x = true) :
    s.Settles (Lane.all.foldl State.endWarnLane s)
      ∧ (Lane.all.foldl State.endWarnLane s).wallFlag x = true :=
  List.foldlRecOn Lane.all State.endWarnLane (motive := fun t => s.Settles t ∧ t.wallFlag x = true) ⟨.refl s, h⟩
    fun _ ht l _ => ⟨ht.1.trans (State.endWarnLane_settles (ht.1.ntc ▸ hn) l),
      State.endWarnLane_raised ht.2 (ht.1.ntc ▸ hn) l⟩

/-- The end of a warning reaches a lane's drawer through its own lane alone. -/
theorem State.endWarnLane_other (s : State) {l k : Lane} (h : k ≠ l) :
    (s.endWarnLane l).ldc.get k = s.ldc.get k := by
  unfold State.endWarnLane State.sendHome
  dsimp only
  (repeat' split) <;>
    simp [State.enterHome_ldc, State.startMotion_ldc, State.stopTake, PerLane.get_put_other _ _ h]

/-- An unlocked lane's STOPPED drawer goes on in its halted motion, under a new limit (R104). -/
theorem State.endWarnLane_resumes {l : Lane} {m : Motion} (hw : s.pins.warning = false) (hl : s.locked l = false)
    (hf : s.fitted l = true) (hr : (s.ldc.get l).restartHoming = false) (hs : (s.ldc.get l).state = .stopped)
    (hm : (s.ldc.get l).halted = some m) :
    (s.endWarnLane l).ldc.get l = { s.ldc.get l with
      state := m.state, halted := none, motor := true, motion := .running Config.motionLimit } := by
  have he : s.endWarnLane l = (s.startMotion l m).reportLane l := by
    simp [State.endWarnLane, hl, hf, hr, hs, hm]
  simp [he, State.startMotion_ldc, hw]

end Sys2Proof.Machine
end

section
/-! PROOF. The note transport's part in a power warning's end, and the whole of it (R84, R104, R120, R175). -/

open Sys2Proof Sys2Proof.Machine

namespace Sys2Proof.Machine

variable {s : State}

/-- A change that reaches each lane's controller through its own lane alone leaves a lane as if the lane's own part
were the only one, in a state that keeps what every part keeps. -/
theorem foldl_lanes_get {f : State → Lane → State} (p : State → Prop)
    (ho : ∀ (s : State) {l k : Lane}, k ≠ l → (f s l).ldc.get k = s.ldc.get k) (hp : ∀ s l, p s → p (f s l))
    (hs : p s) (k : Lane) :
    ∃ u, p u ∧ u.ldc.get k = s.ldc.get k ∧ (Lane.all.foldl f s).ldc.get k = (f u k).ldc.get k := by
  cases k <;> simp only [Lane.all, List.foldl_cons, List.foldl_nil]
  · exact ⟨s, hs, rfl, by rw [ho _ (by decide), ho _ (by decide), ho _ (by decide)]⟩
  · exact ⟨f s .l1, hp _ _ hs, ho _ (by decide), by rw [ho _ (by decide), ho _ (by decide)]⟩
  · exact ⟨f (f s .l1) .l2, hp _ _ (hp _ _ hs), by rw [ho _ (by decide), ho _ (by decide)], ho _ (by decide)⟩
  · exact ⟨f (f (f s .l1) .l2) .l3, hp _ _ (hp _ _ (hp _ _ hs)),
      by rw [ho _ (by decide), ho _ (by decide), ho _ (by decide)], rfl⟩

/-! ## The note transport stops -/

/-- The note transport stands JAMMED with no bundle, its run ended, and TRANSPORT_JAM is set (R80, R83, R84). -/
theorem State.stopTransport_jammed (s : State) (c : DoubtCause) (r : FailReason) (vault : Bool) :
    (s.stopTransport c r vault).ntc.jammedEmpty ∧ (s.stopTransport c r vault).wallFlag .transportJam = true := by
  refine ⟨?_, State.setWallFlag_wallFlag _ _⟩
  simp [State.stopTransport, Ntc.jammedEmpty, State.closeGate, State.haltNote_ntc]

/-- Its bundle, the one of its lane and in no queue, has failed (R80, R83, R84). -/
theorem State.stopTransport_failed {h : Handle} {b : Bundle} (hb : s.currentBundle = some (h, b))
    (hq : h ∉ s.dpl.queue) (hsole : s.soleBundle h b) (c : DoubtCause) (r : FailReason) (vault : Bool) :
    (s.stopTransport c r vault).ct.Failed h b r := by
  have hct : (s.stopTransport c r vault).ct = (s.failBundle h b c r vault).ct := by
    simp [State.stopTransport, hb]
  rw [hct]
  exact State.failBundle_failed (State.currentBundle_eq_some.mp hb).2 hq
    (fun k b' hk hlane => hsole _ (Ct.mem_bundles_of_bundle? hk) hlane) c r vault

/-! ## The whole end of a warning -/

/-- The note transport as the warning ends, with its supply kept (R84, R175). -/
def State.endingNote (s : State) : State := (s.onPins fun p => { p with warning := false }).endWarnNote

/-- The lanes after it. -/
def State.endingLanes (s : State) : State := Lane.all.foldl State.endWarnLane s.endingNote

theorem exec_powerWarningEnd_of_warning (h : s.pins.warning = true) :
    exec .powerWarningEnd s = .next (s.endingLanes.endWarnEnv s.openCondition) := by
  rw [exec_powerWarningEnd, State.endWarn, if_pos h]
  rfl

theorem State.endingLanes_ecc (s : State) : s.endingLanes.ecc = s.ecc := by
  simp [State.endingLanes, State.endingNote]

theorem State.pins_of_sensors {t : State} (h : t.sensors = s.sensors) :
    t.pins = { s.pins with stackerEmpty := t.pins.stackerEmpty } := by
  calc t.pins = { t.sensors with stackerEmpty := t.pins.stackerEmpty } := rfl
    _ = { s.pins with stackerEmpty := t.pins.stackerEmpty } := by rw [h]; rfl

/-- The inputs but the stacker's stay as they are. -/
theorem State.endingLanes_pins (s : State) :
    s.endingLanes.pins = { s.pins with warning := false, stackerEmpty := s.endingLanes.pins.stackerEmpty } := by
  have h : s.endingLanes.sensors = (s.onPins fun p => { p with warning := false }).sensors := by
    refine List.foldlRecOn Lane.all State.endWarnLane (motive := fun t => t.sensors = _) ?_ fun t ht l _ => ?_
    · exact State.endWarnNote_sensors _
    · rw [State.endWarnLane_sensors, ht]
  exact State.pins_of_sensors h

/-- Picking stops the transport (R84). -/
theorem State.endingNote_picking (h : s.ntc.phase = .picking) : s.endingNote
    = ((s.onPins fun p => { p with warning := false }).onNtc fun n =>
        { n with chuteTimer := n.chuteTimer.thaw }).stopTransport .power .power true := by
  have hp : ((s.onPins fun p => { p with warning := false }).onNtc fun n =>
      { n with chuteTimer := n.chuteTimer.thaw }).ntc.phase = .picking := h
  simp only [State.endingNote, State.endWarnNote, hp]

end Sys2Proof.Machine

/-- Settles O17: each block's part in turn, and what the later parts leave of it. -/
theorem powerWarningEndResumesOrJams : Obligations.PowerWarningEndResumesOrJams := by
  unfold Obligations.PowerWarningEndResumesOrJams
  intro s hw
  refine ⟨_, exec_powerWarningEnd_of_warning hw, ?_, fun hp => ?_, fun he => ?_, fun l m hl hf hr hs hm => ?_⟩
  · simpa using s.endingLanes_pins
  · obtain ⟨hj, hflag⟩ := State.stopTransport_jammed ((s.onPins fun p => { p with warning := false }).onNtc fun n =>
      { n with chuteTimer := n.chuteTimer.thaw }) .power .power true
    rw [← State.endingNote_picking hp] at hj hflag
    obtain ⟨-, -, -, -, hcur, -⟩ := id hj
    obtain ⟨hset, hflag'⟩ : s.endingNote.Settles s.endingLanes ∧ s.endingLanes.wallFlag .transportJam = true :=
      State.endWarnLanes_settle hcur hflag
    have hct := hset.ct.trans (State.endWarnEnv_settles _ s.openCondition)
    refine ⟨?_, State.endWarnEnv_raised hflag' _, fun h b hb hq hsole => ?_⟩
    · have hn : (s.endingLanes.endWarnEnv s.openCondition).ntc = s.endingNote.ntc := by
        simpa using hset.ntc
      rw [hn]
      exact hj
    · have hfail := State.stopTransport_failed (s := (s.onPins fun p => { p with warning := false }).onNtc fun n =>
        { n with chuteTimer := n.chuteTimer.thaw }) hb hq hsole .power .power true
      rw [← State.endingNote_picking hp] at hfail
      exact (hct.failed hfail).hasFailed
  · exact State.endWarnEnv_jammed (by rwa [s.endingLanes_ecc]) _
  · have hn : s.endingNote.ldc = s.ldc := by simp [State.endingNote]
    obtain ⟨u, ⟨hpw, hfit⟩, hu, ht⟩ : ∃ u, _ ∧ _ ∧ s.endingLanes.ldc.get l = _ := foldl_lanes_get (s := s.endingNote)
      (fun t => t.pins.warning = false ∧ t.set.fittedLanes = s.set.fittedLanes)
      (fun s _ _ h => s.endWarnLane_other h) (fun t l h => by simpa using h) (by simp [State.endingNote]) l
    rw [hn] at hu
    have hfu : u.fitted l = true := by rw [State.fitted, hfit]; exact hf
    have hlu : u.locked l = false := by rw [State.locked, hu]; exact hl
    have hget : (s.endingLanes.endWarnEnv s.openCondition).ldc.get l = (u.endWarnLane l).ldc.get l := by
      simpa using ht
    rw [hget, State.endWarnLane_resumes hpw hlu hfu (hu ▸ hr) (hu ▸ hs) (hu ▸ hm)]
    exact ⟨rfl, rfl, rfl⟩
end

section
/-! PROOF. What a bundle's end in the transport leaves of custody and of the transport (R74, R75): its stocks keep what
they have picked out, its notes enter the vault, and its record is retired. -/

open Sys2Proof Sys2Proof.Machine

namespace Sys2Proof.Machine

variable {s : State} {h k : Handle} {b : Bundle} {st : Stock} {p : Part}

/-! ## A retirement and the vault -/

/-- After a retirement of a live record the live records are the others, in the same order. -/
theorem Ct.live_retire {ct : Ct} {x : Record} (hx : ct.find h = some x) :
    (ct.retire h).live = ct.live.filter fun p => p.1 ≠ h := by
  obtain ⟨sl, hsl, hgen, h0, hr⟩ := (ct.find_eq_some h x).1 hx
  have hself : handleOf (handleGen h) (handleSlot h) = h :=
    handle_ext (by simp) (handleSlot_handleOf _ (handleSlot_lt h))
  have hset : (ct.slots.toList.set (handleSlot h) ⟨nextGen (handleGen h), none⟩).zipIdx
      = ct.slots.toList.zipIdx.map fun p =>
          if p.2 = handleSlot h then ((⟨nextGen (handleGen h), none⟩ : Slot), p.2) else p := by
    apply List.ext_getElem?
    intro j
    rw [List.getElem?_zipIdx, List.getElem?_map, List.getElem?_zipIdx, List.getElem?_set]
    by_cases hj : handleSlot h = j
    · subst hj
      simp [handleSlot_lt]
    · simp only [if_neg hj, Option.map_map]
      congr 1
      funext a
      simp [Ne.symm hj]
  have hw : ct.retire h
      = { ct with slots := ct.slots.setIfInBounds (handleSlot h) ⟨nextGen (handleGen h), none⟩ } := by
    unfold Ct.retire; rw [hx]
  rw [hw]
  simp only [Ct.live, Vector.toList_setIfInBounds, hset, List.filterMap_map, List.filter_filterMap]
  apply List.filterMap_congr
  rintro ⟨sl', j⟩ hj
  rw [List.mk_mem_zipIdx_iff_getElem?, Vector.getElem?_toList] at hj
  have hj256 : j < 256 := (Vector.getElem?_eq_some_iff.mp hj).1
  by_cases he : j = handleSlot h
  · subst he
    rw [hsl] at hj
    cases hj
    simp [hr, hgen, hself, Option.filter]
  · have hne : handleOf sl'.gen j ≠ h := fun c => he (by rw [← c, handleSlot_handleOf _ hj256])
    cases hrec : sl'.record <;> simp [he, hne, hrec, Option.filter]

theorem findSome?_filter_of_none {α β : Type} {p : α → Bool} {f : α → Option β} (l : List α)
    (hp : ∀ x ∈ l, p x = false → f x = none) : (l.filter p).findSome? f = l.findSome? f := by
  induction l with
  | nil => rfl
  | cons x l ih =>
    have ih' := ih fun y hy => hp y (List.mem_cons_of_mem _ hy)
    cases hx : p x with
    | true => rw [List.filter_cons_of_pos hx, List.findSome?_cons, List.findSome?_cons, ih']
    | false =>
      rw [List.filter_cons_of_neg (by simp [hx]), List.findSome?_cons, hp x List.mem_cons_self hx, ih']

/-- A retirement of a bundle leaves the vault as it is. -/
theorem Ct.vault?_retire_bundle {ct : Ct} (hb : ct.bundle? h = some b) : (ct.retire h).vault? = ct.vault? := by
  have hf := Ct.bundle?_eq_some.mp hb
  rw [Ct.vault?_eq, Ct.vault?_eq, Ct.live_retire hf]
  refine findSome?_filter_of_none _ fun x hx hxh => ?_
  obtain ⟨y, r⟩ := x
  obtain rfl : y = h := by simpa using hxh
  obtain rfl := Ct.eq_of_mem_live hx hf
  rfl

/-! ## Tallies -/

/-- Stocks' tallies change, but no stock's quality and picked_out, and neither the vault nor what is a bundle. -/
structure Ct.Tallies (c c' : Ct) : Prop where
  gens : c.generationsLegal = true → c'.generationsLegal = true
  vault : c.generationsLegal = true → c'.vault? = c.vault?
  stock : ∀ h st, c.stock? h = some st →
    ∃ st', c'.stock? h = some st' ∧ st'.quality = st.quality ∧ st'.pickedOut = st.pickedOut
  bundle : ∀ h, c'.bundle? h = c.bundle? h

theorem Ct.Tallies.refl (c : Ct) : c.Tallies c := ⟨id, fun _ => rfl, fun _ st h => ⟨st, h, rfl, rfl⟩, fun _ => rfl⟩

theorem Ct.Tallies.trans {c c' c'' : Ct} (h : c.Tallies c') (h' : c'.Tallies c'') : c.Tallies c'' where
  gens hg := h'.gens (h.gens hg)
  vault hg := (h'.vault (h.gens hg)).trans (h.vault hg)
  stock k st hs := by
    obtain ⟨st', hs', hq, hp⟩ := h.stock k st hs
    obtain ⟨st'', hs'', hq', hp'⟩ := h'.stock k st' hs'
    exact ⟨st'', hs'', hq'.trans hq, hp'.trans hp⟩
  bundle k := (h'.bundle k).trans (h.bundle k)

theorem Stock.evalLow_pickedOut (old new : Stock) (mark : Nat) :
    (Stock.evalLow old new mark).pickedOut = new.pickedOut := by
  unfold Stock.evalLow
  split <;> rfl

theorem Stock.evalLow_reserved (old new : Stock) (mark : Nat) :
    (Stock.evalLow old new mark).reserved = new.reserved := by
  unfold Stock.evalLow
  split <;> rfl

theorem State.tallyStock_of_none {f : Stock → Stock} (hs : s.ct.stock? h = none) : s.tallyStock h f = s := by
  simp only [State.tallyStock, hs]

theorem State.tallyStock_of_some {f : Stock → Stock} (hs : s.ct.stock? h = some st) :
    s.tallyStock h f = s.putStock h (f st) := by
  simp only [State.tallyStock, hs]

theorem State.tallyStock_tallies (s : State) (h : Handle) {f : Stock → Stock}
    (hf : ∀ st, (f st).quality = st.quality ∧ (f st).pickedOut = st.pickedOut) :
      s.ct.Tallies (s.tallyStock h f).ct := by
  cases hs : s.ct.stock? h with
  | none => rw [State.tallyStock_of_none hs]; exact .refl _
  | some old =>
    have hx := Ct.stock?_eq_some.mp hs
    rw [State.tallyStock_of_some hs, State.putStock_ct hs]
    refine ⟨fun hg => Ct.generationsLegal_write hg _ _, fun hg => Ct.vault?_write_other hg hx rfl rfl,
      fun k st hk => ?_,
      fun k => ?_⟩
    · rw [Ct.stock?_write hx]
      split
      · next he =>
        obtain rfl : old = st := Option.some.inj (hs.symm.trans (he ▸ hk))
        exact ⟨_, rfl, by rw [Stock.evalLow_quality, (hf _).1], by rw [Stock.evalLow_pickedOut, (hf _).2]⟩
      · exact ⟨st, hk, rfl, rfl⟩
    · rw [Ct.bundle?_write hx]
      split
      · next he => rw [he, Ct.bundle?_eq, hx]; rfl
      · rfl

/-- A change of the stock of each part. -/
theorem foldl_tallyStock_tallies (parts : List Part) {f : Part → Stock → Stock}
    (hf : ∀ p st, (f p st).quality = st.quality ∧ (f p st).pickedOut = st.pickedOut) (s : State) :
    s.ct.Tallies (parts.foldl (fun s p => s.tallyStock p.stock (f p)) s).ct := by
  induction parts generalizing s with
  | nil => exact .refl _
  | cons p parts ih => exact (s.tallyStock_tallies p.stock (hf p)).trans (ih _)

theorem State.tallyStock_stock? (s : State) (h : Handle) (f : Stock → Stock) (k : Handle) :
    (s.tallyStock h f).ct.stock? k
      = if k = h then (s.ct.stock? h).map fun st => Stock.evalLow st (f st) s.set.lowMark else s.ct.stock? k := by
  cases hs : s.ct.stock? h with
  | none =>
    rw [State.tallyStock_of_none hs]
    split
    · next hk => rw [hk, hs]; rfl
    · rfl
  | some old => rw [State.tallyStock_of_some hs, State.putStock_stock? hs]; rfl

theorem foldl_tallyStock_other (parts : List Part) (f : Part → Stock → Stock) (hn : h ∉ parts.map (·.stock))
    (s : State) :
    (parts.foldl (fun s p => s.tallyStock p.stock (f p)) s).ct.stock? h = s.ct.stock? h := by
  induction parts generalizing s with
  | nil => rfl
  | cons q parts ih =>
    rw [List.map_cons, List.mem_cons, not_or] at hn
    rw [List.foldl_cons, ih hn.2, State.tallyStock_stock?, if_neg hn.1]

/-- A plan that names no stock twice changes each of its stocks once. -/
theorem foldl_tallyStock_stock? {parts : List Part} (f : Part → Stock → Stock) (hn : (parts.map (·.stock)).Nodup)
    (hp : p ∈ parts) (hs : s.ct.stock? p.stock = some st) :
    (parts.foldl (fun s p => s.tallyStock p.stock (f p)) s).ct.stock? p.stock
      = some (Stock.evalLow st (f p st) s.set.lowMark) := by
  induction parts generalizing s with
  | nil => exact absurd hp List.not_mem_nil
  | cons q parts ih =>
    obtain ⟨hq, hn⟩ := List.nodup_cons.mp hn
    rw [List.foldl_cons]
    rcases List.mem_cons.mp hp with rfl | hp
    · rw [foldl_tallyStock_other parts f hq, State.tallyStock_stock?, if_pos rfl, hs]
      rfl
    · have hne : p.stock ≠ q.stock := fun he => hq (List.mem_map.mpr ⟨p, hp, he⟩)
      rw [ih hn hp (by rw [State.tallyStock_stock?, if_neg hne, hs])]
      simp

/-! ## The vault's change -/

theorem State.onVault_stock? (hg : s.ct.generationsLegal = true) (f : Vault → Vault) (k : Handle) :
    (s.onVault f).ct.stock? k = s.ct.stock? k := by
  cases hv : s.ct.vault? with
  | none => simp only [State.onVault, hv]
  | some d =>
    have hf := Ct.find_vault hg hv
    rw [State.onVault_of_some hv, State.onCt_ct, Ct.stock?_write hf]
    split
    · next hk => rw [hk, Ct.stock?_eq_none hf rfl]; rfl
    · rfl

theorem State.onVault_bundle? (hg : s.ct.generationsLegal = true) (f : Vault → Vault) (k : Handle) :
    (s.onVault f).ct.bundle? k = s.ct.bundle? k := by
  cases hv : s.ct.vault? with
  | none => simp only [State.onVault, hv]
  | some d =>
    have hf := Ct.find_vault hg hv
    rw [State.onVault_of_some hv, State.onCt_ct, Ct.bundle?_write hf]
    split
    · next hk => rw [hk, Ct.bundle?_eq, hf]; rfl
    · rfl

/-! ## A bundle is dismissed -/

/-- The tallies and reservations of a bundle that ends in the transport, before its notes enter the vault (R74). -/
def State.unstacked (s : State) (b : Bundle) : State :=
  (s.moveStacked b.parts Stock.toRejected).releaseParts b.parts

theorem State.rejectStacked_eq (s : State) (b : Bundle) :
    s.rejectStacked b = (s.unstacked b).addVault b.stackedSum .exact := rfl

theorem State.unstacked_tallies (s : State) (b : Bundle) : s.ct.Tallies (s.unstacked b).ct :=
  (foldl_tallyStock_tallies b.parts (f := fun p st => st.toRejected p.stacked) (fun _ _ => ⟨rfl, rfl⟩) s).trans
    (foldl_tallyStock_tallies b.parts (f := fun p st => st.release (p.target - p.stacked)) (fun _ _ => ⟨rfl, rfl⟩) _)

/-- A bundle's figures are settled and its record retired, and its transport stops (R74). -/
def State.dismissed (s : State) (k : Handle) (b : Bundle) (e : Ending) : State :=
  (((s.rejectStacked b).retireBundle k e).onNtc fun n =>
    { n with current := none, pendingEnd := none, lastPick := none }).haltNote

theorem State.endBundle_eq (hb : s.currentBundle = some (k, b)) (e : Ending) :
    s.endBundle e = if 0 < s.ntc.stackerCount then (s.dismissed k b e).enterDiverting
      else (s.dismissed k b e).enterNoteIdle := by
  have hn : (s.dismissed k b e).ntc.stackerCount = s.ntc.stackerCount := by
    simp [State.dismissed, State.haltNote_ntc, State.rejectStacked]
  simp only [State.endBundle, hb, ← hn]
  rfl

theorem State.dismissed_ntc (s : State) (k : Handle) (b : Bundle) (e : Ending) :
    (s.dismissed k b e).ntc = { s.ntc with
      current := none, pendingEnd := none, lastPick := none
      motor := false, stallTimer := .stopped, dump := false, dumpTimer := .stopped
      pick := none, path := [], pickTimer := .stopped, exitTimer := .stopped, waitTimer := .stopped } := by
  simp [State.dismissed, State.haltNote_ntc, State.rejectStacked]

theorem State.dismissed_frame (s : State) (k : Handle) (b : Bundle) (e : Ending) :
    (s.dismissed k b e).ldc = s.ldc ∧ (s.dismissed k b e).ecc = s.ecc ∧ (s.dismissed k b e).pins = s.pins := by
  simp [State.dismissed, State.rejectStacked]

theorem State.dismissed_queue (s : State) (k : Handle) (b : Bundle) (e : Ending) :
    (s.dismissed k b e).dpl.queue = s.dpl.queue := by
  have hm := s.moveStacked_tallied b.parts (move := Stock.toRejected) fun _ _ hd => hd
  have hr := (hm.trans (State.releaseParts_tallied _ b.parts)).lapsed.queue
  simpa [State.dismissed, State.rejectStacked] using hr

/-- What remains of custody when a bundle is dismissed, in one handle after another. -/
theorem State.dismissed_ct (hb : s.ct.bundle? k = some b) (hg : s.ct.generationsLegal = true) (e : Ending) :
    ∃ last, (s.dismissed k b e).ct = ({ (s.rejectStacked b).ct with last := last } : Ct).retire k
      ∧ last.get b.lane = some ((s.rejectStacked b).outcome k b e) ∧ (s.rejectStacked b).ct.bundle? k = some b := by
  have ht := s.unstacked_tallies b
  have hb' : (s.rejectStacked b).ct.bundle? k = some b := by
    rw [State.rejectStacked_eq, State.addVault, State.onVault_bundle? (ht.gens hg), ht.bundle, hb]
  have hct : (s.dismissed k b e).ct = ((s.rejectStacked b).retireBundle k e).ct := by simp [State.dismissed]
  exact ⟨_, hct.trans (State.retireBundle_of_some hb' e), PerLane.get_put_same _ _ _, hb'⟩

/-- A bundle that failed in the transport is retired with its outcome (R25, R74). -/
theorem State.dismissed_failed (hb : s.ct.bundle? k = some b) (hg : s.ct.generationsLegal = true) (r : FailReason) :
    (s.dismissed k b (.failed r)).ct.find k = none
      ∧ ∃ q, (s.dismissed k b (.failed r)).ct.last.get b.lane = some ⟨k, .failed r, b.amount, 0, q⟩ := by
  obtain ⟨last, hct, hl, hb'⟩ := State.dismissed_ct hb hg (.failed r)
  rw [hct]
  refine ⟨(Ct.spent_retire (c := { (s.rejectStacked b).ct with last := last }) (Ct.bundle?_eq_some.mp hb')).find, ?_⟩
  rw [Ct.retire_last]
  exact ⟨_, hl⟩

/-- The stacked notes of a bundle that ends in the transport are the vault's (R74). -/
theorem State.dismissed_vault? (hb : s.ct.bundle? k = some b)
    (hg : s.ct.generationsLegal = true) {d : Handle} {v : Vault}
    (hv : s.ct.vault? = some (d, v)) (e : Ending) :
    (s.dismissed k b e).ct.vault? = some (d, v.add b.stackedSum .exact) := by
  have ht := s.unstacked_tallies b
  obtain ⟨last, hct, -, hb'⟩ := State.dismissed_ct hb hg e
  rw [hct, Ct.vault?_retire_bundle (ct := { (s.rejectStacked b).ct with last := last }) hb']
  show (s.rejectStacked b).ct.vault? = _
  rw [State.rejectStacked_eq, State.addVault]
  exact State.onVault_vault? (ht.gens hg) ((ht.vault hg).trans hv) _

theorem State.dismissed_stock? (hb : s.ct.bundle? k = some b) (hg : s.ct.generationsLegal = true) (e : Ending)
    (h : Handle) :
    (s.dismissed k b e).ct.stock? h = (s.unstacked b).ct.stock? h := by
  have ht := s.unstacked_tallies b
  obtain ⟨last, hct, -, hb'⟩ := State.dismissed_ct hb hg e
  rw [hct, Ct.stock?_retire_last hb', State.rejectStacked_eq, State.addVault, State.onVault_stock? (ht.gens hg)]
  split
  · next hk => rw [hk, Ct.stock?_of_bundle? ((ht.bundle k).trans hb)]
  · rfl

/-- A plan that names no stock twice: each stock's stacked notes are rejected and the rest of its reservation is
released (R74). -/
theorem State.unstacked_stock? (hn : (b.parts.map (·.stock)).Nodup) (hp : p ∈ b.parts)
    (hs : s.ct.stock? p.stock = some st) :
    ∃ st', (s.unstacked b).ct.stock? p.stock = some st' ∧ st'.quality = st.quality ∧ st'.remaining = st.remaining
      ∧ st'.reserved = st.reserved - (p.target - p.stacked) := by
  have hm := foldl_tallyStock_stock? (fun p st => st.toRejected p.stacked) hn hp hs
  have hr := foldl_tallyStock_stock? (fun p st => st.release (p.target - p.stacked)) hn hp hm
  refine ⟨_, hr, ?_, ?_, ?_⟩
  · rw [Stock.evalLow_quality, Stock.release, Stock.evalLow_quality]
    rfl
  · rw [Stock.evalLow_remaining]
    exact Stock.evalLow_remaining _ _ _
  · rw [Stock.evalLow_reserved, Stock.release, Stock.evalLow_reserved]
    rfl

end Sys2Proof.Machine
end

section
/-! PROOF. A pick failure (O46): the candidates that may take a part over are the same before and after the failing
stock's doubt, and the plan goes on with the first of them or its bundle ends (R70, R71). -/

open Sys2Proof Sys2Proof.Machine

namespace Sys2Proof.Machine

variable {s t : State} {h k : Handle} {b : Bundle} {st st' : Stock} {p : Part}

/-! ## The candidates after one stock's change -/

/-- A stock's new figures change what is found at its position alone. -/
theorem Ct.stockAt_write {c : Ct} (hs : c.stock? h = some st) (hpos : st'.pos = st.pos) (q : CassettePos) :
    (c.write h (.stock st')).stockAt q = (c.stockAt q).map fun e => if e.1 = h then (h, st') else e := by
  have hf := Ct.stock?_eq_some.mp hs
  unfold Ct.stockAt
  rw [Ct.live_write hf, List.findSome?_map, List.map_findSome?]
  have hall : ∀ e ∈ c.live, e.1 = h → e.2 = .stock st := fun e he hk => Ct.eq_of_mem_live he (hk ▸ hf)
  generalize c.live = l at hall
  induction l with
  | nil => rfl
  | cons e l ih =>
    have ih' := ih fun x hx => hall x (List.mem_cons_of_mem _ hx)
    have he := hall e List.mem_cons_self
    obtain ⟨j, r⟩ := e
    rw [List.findSome?_cons, List.findSome?_cons, ih']
    congr 1
    by_cases hj : j = h
    · obtain rfl : r = .stock st := he hj
      by_cases hq : st.pos = q <;> simp [hj, hpos, hq]
    · cases r with
      | stock x => by_cases hq : x.pos = q <;> simp [hj, hq]
      | _ => simp [hj]

theorem Candidate.before_asymm {c d : Candidate} (h : c.before d) : ¬ d.before c := by
  rcases h with h | ⟨h, h'⟩ <;> rintro (g | ⟨g, g'⟩) <;> omega

/-- Ordered lists that agree in the candidates meeting a condition have the same first one. -/
theorem find?_eq_of_pairwise {l l' : List Candidate} {f : Candidate → Bool} (hl : l.Pairwise Candidate.before)
    (hl' : l'.Pairwise Candidate.before) (hm : ∀ c, f c = true → (c ∈ l ↔ c ∈ l')) : l.find? f = l'.find? f := by
  have : Std.Antisymm Candidate.before := ⟨fun _ _ h h' => absurd h' (Candidate.before_asymm h)⟩
  have : Std.Irrefl Candidate.before := ⟨fun _ h => Candidate.before_asymm h h⟩
  rw [← List.head?_filter, ← List.head?_filter]
  congr 1
  refine List.Pairwise.eq_of_mem_iff (hl.filter f) (hl'.filter f) fun c => ?_
  rw [List.mem_filter, List.mem_filter]
  exact and_congr_left (hm c)

/-- A stock's change leaves the first candidate that meets a condition which the stock's own does not (R47). -/
theorem State.candidates_find?_of_write (hs : s.ct.stock? h = some st) (hpos : st'.pos = st.pos)
    (ht : t.ct = s.ct.write h (.stock st')) (hh : t.ct.holdDispenser = s.ct.holdDispenser) {f : Candidate → Bool}
    (hf : ∀ c, f c = true → c.handle ≠ h) : t.candidates.find? f = s.candidates.find? f := by
  refine find?_eq_of_pairwise t.candidates_pairwise s.candidates_pairwise fun c hc => ?_
  have hat (y : Stock) : t.ct.stockAt c.pos = some (c.handle, y) ↔ s.ct.stockAt c.pos = some (c.handle, y) := by
    have hne := hf c hc
    rw [ht, Ct.stockAt_write hs hpos, Option.map_eq_some_iff]
    constructor
    · rintro ⟨e, he, hey⟩
      split at hey
      · cases hey
        exact absurd rfl hne
      · rwa [← hey]
    · exact fun he => ⟨_, he, if_neg hne⟩
  rw [State.mem_candidates, State.mem_candidates, State.candidateAt_eq_some, State.candidateAt_eq_some]
  simp only [hat, hh]

/-! ## The failing stock -/

theorem Bundle.names_of_mem (hp : p ∈ b.parts) : b.names p.stock = true :=
  List.any_eq_true.mpr ⟨p, hp, by simp⟩

theorem Bundle.mem_of_currentPart (hp : b.currentPart = some p) : p ∈ b.parts ∧ p.stacked < p.target :=
  ⟨List.mem_of_find?_eq_some hp, by simpa using List.find?_some (p := fun q : Part => decide (q.stacked < q.target)) hp⟩

/-- The current part is the first short one of its stock. -/
theorem Bundle.find?_short (hp : b.currentPart = some p) :
    (b.parts.find? fun q => q.stock = p.stock && decide (q.stacked < q.target)) = some p := by
  unfold Bundle.currentPart at hp
  generalize b.parts = l at hp ⊢
  induction l with
  | nil => cases hp
  | cons q l ih =>
    by_cases hq : q.stacked < q.target
    · rw [List.find?_cons_of_pos (by simpa using hq)] at hp
      cases hp
      rw [List.find?_cons_of_pos (by simpa using hq)]
    · rw [List.find?_cons_of_neg (by simpa using hq)] at hp
      rw [List.find?_cons_of_neg (by simp [hq]), ih hp]

/-- A doubt cancels nothing where the queue is empty (R62). -/
theorem State.doubtStock_of_empty (hs : s.ct.stock? h = some st) (hq : s.dpl.queue = []) (c : DoubtCause) :
    s.doubtStock h c = s.putStock h (st.worsen (.doubtful c)) := by
  have hq' := (s.putStock_lapsed h (st.worsen (.doubtful c))).queue
  simp [State.doubtStock, State.changeStock, hs, State.cancelDrawing, hq', hq]

/-- A stock that was not DOUBTFUL becomes so, where the queue is empty: nothing else of custody changes (R62, R71). -/
theorem State.doubtStock_ct (hs : s.ct.stock? h = some st) (hd : st.quality.isDoubtful = false) (hq : s.dpl.queue = [])
    (c : DoubtCause) : (s.doubtStock h c).ct = s.ct.write h (.stock { st with quality := .doubtful c }) := by
  have hw : st.worsen (.doubtful c) = { st with quality := .doubtful c } := by
    cases hst : st.quality <;> simp_all [Stock.worsen, Quality.worse, Quality.rank, Quality.isDoubtful]
  have he : Stock.evalLow st { st with quality := .doubtful c } s.set.lowMark = { st with quality := .doubtful c } := by
    simp [Stock.evalLow, Stock.remaining]
  rw [State.doubtStock_of_empty hs hq, State.putStock_ct hs, hw, he]

/-- PICK_RETRY failures in a row: the count starts anew and the stock is DOUBTFUL (R70, R71). -/
def State.pickFailed (s : State) (h : Handle) (pos : CassettePos) : State :=
  (s.onNtc fun n => { n with
    pick := none, pickTimer := .stopped, pickFails := n.pickFails.put pos 0 }).doubtStock h .pickFail

theorem State.pickFailed_ntc (s : State) (h : Handle) (pos : CassettePos) :
    (s.pickFailed h pos).ntc
      = { s.ntc with pick := none, pickTimer := .stopped, pickFails := s.ntc.pickFails.put pos 0 } := by
  simp [State.pickFailed]

theorem State.pickFailed_queue (hs : s.ct.stock? h = some st) (hq : s.dpl.queue = []) (pos : CassettePos) :
    (s.pickFailed h pos).dpl.queue = [] := by
  rw [State.pickFailed, State.doubtStock_of_empty (s := s.onNtc _) hs hq]
  exact (State.putStock_lapsed _ h _).queue.trans hq

/-- A failure below PICK_RETRY counts, and the current part is picked again (R70). -/
theorem State.failPick_again (hst : s.ntc.state = .picking) (hpick : s.ntc.pick = some h) (hs : s.ct.stock? h = some st)
    (he : s.ntc.pendingEnd = none) (hlt : s.ntc.pickFails.get st.pos + 1 < s.set.pickRetry)
    (hb : s.currentBundle = some (k, b)) (hp : b.currentPart = some p) :
    s.failPick = { s with ntc := { s.ntc with
      pickFails := s.ntc.pickFails.put st.pos (s.ntc.pickFails.get st.pos + 1)
      pick := some p.stock, lastPick := some p.stock, pickTimer := .running 400 } } := by
  let counted := s.onNtc fun n => { n with
    pick := none, pickTimer := .stopped, pickFails := n.pickFails.put st.pos (n.pickFails.get st.pos + 1) }
  have hu : s.failPick = counted.commandPick := by
    simp [State.failPick, hst, hpick, hs, he, hlt, State.onNtc, counted]
  have hb' : counted.currentBundle = some (k, b) := hb
  rw [hu, State.commandPick_eq hb' hp]
  rfl

theorem State.failPick_last (hst : s.ntc.state = .picking) (hp : s.ntc.pick = some h) (hs : s.ct.stock? h = some st)
    (he : s.ntc.pendingEnd = none) (hle : s.set.pickRetry ≤ s.ntc.pickFails.get st.pos + 1) :
    s.failPick = (s.pickFailed h st.pos).substitute h st.denom := by
  have hn : ((s.pickFailed h st.pos).ntc.pendingEnd.isSome) = false := by simp [State.pickFailed_ntc, he]
  have hu : s.failPick = if (s.pickFailed h st.pos).ntc.pendingEnd.isSome then (s.pickFailed h st.pos).pickingOn
      else (s.pickFailed h st.pos).substitute h st.denom := by
    simp [State.failPick, hst, hp, hs, Nat.not_lt.mpr hle, State.onNtc, State.pickFailed]
  rw [hu, hn]
  rfl

/-! ## A substitute takes over -/

/-- The candidates that may take over what a part misses (R71). -/
def Bundle.takesOver (b : Bundle) (denom missing : Nat) (c : Candidate) : Bool :=
  c.denom = denom && !b.names c.handle && decide (missing ≤ c.available)

theorem Bundle.handle_ne_of_takesOver {c : Candidate} {denom missing : Nat} (hc : b.takesOver denom missing c = true)
    (hp : p ∈ b.parts) : c.handle ≠ p.stock := by
  intro he
  have hn := Bundle.names_of_mem hp
  simp [Bundle.takesOver, he, hn] at hc

/-- A part that misses a note is open, and with it the plan has a current part (R67). -/
theorem Bundle.substituted_currentPart {n : Nat} (hn : 0 < n) (j : Handle) :
    ∃ q, (b.substituted h j n).currentPart = some q := by
  rw [← Option.isSome_iff_exists, Bundle.currentPart, List.find?_isSome]
  exact ⟨⟨j, n, 0⟩, by simp [Bundle.substituted], by simpa using hn⟩

/-- The substitute is reserved for what the closed part misses, and picked from when its turn comes (R71). -/
theorem State.substitute_takesOver {c : Candidate} (hb : s.currentBundle = some (k, b)) (hp : b.currentPart = some p)
    (hs : s.ct.stock? p.stock = some st) {sc : Stock} (hsc : s.ct.stock? c.handle = some sc)
    (hc : s.candidates.find? (b.takesOver st.denom (p.target - p.stacked)) = some c) (h5 : b.parts.length < 5) :
    ∃ u, s.substitute p.stock st.denom = u
      ∧ u.ct.bundle? k = some (b.substituted p.stock c.handle (p.target - p.stacked))
      ∧ u.ct.stock? p.stock = some (Stock.evalLow st (st.release (p.target - p.stacked)) s.set.lowMark)
      ∧ (∃ sc', u.ct.stock? c.handle = some sc' ∧ sc'.reserved = sc.reserved + (p.target - p.stacked))
      ∧ ∃ q, (b.substituted p.stock c.handle (p.target - p.stacked)).currentPart = some q
        ∧ u.ntc = { s.ntc with pick := some q.stock, lastPick := some q.stock, pickTimer := .running 400 } := by
  obtain ⟨hcur, hbk⟩ := State.currentBundle_eq_some.mp hb
  obtain ⟨hmem, hlt⟩ := Bundle.mem_of_currentPart hp
  have hne := Bundle.handle_ne_of_takesOver (List.find?_some hc) hmem
  have hfb := Ct.bundle?_eq_some.mp hbk
  let b' := b.substituted p.stock c.handle (p.target - p.stacked)
  let planned := s.onBundle k (Bundle.substituted p.stock c.handle (p.target - p.stacked))
  have hplanned : planned.ct = s.ct.write k (.bundle b') := by
    rw [show planned = _ from State.onBundle_of_some hbk _]
    rfl
  have hstock (x : Handle) (y : Stock) (hy : s.ct.stock? x = some y) : planned.ct.stock? x = some y := by
    rw [hplanned, Ct.stock?_write hfb, if_neg fun he => ?_, hy]
    rw [he, Ct.stock?_of_bundle? hbk] at hy
    cases hy
  let released := planned.tallyStock p.stock fun st => st.release (p.target - p.stacked)
  let reserved := released.tallyStock c.handle fun st => st.reserve (p.target - p.stacked)
  have htallied : planned.Tallied reserved :=
    (planned.tallyStock_tallied p.stock (f := fun st => st.release (p.target - p.stacked)) fun _ hd => hd).trans
      (released.tallyStock_tallied c.handle (f := fun st => st.reserve (p.target - p.stacked)) fun _ hd => hd)
  have hntc : reserved.ntc = s.ntc := by simp [reserved, released, planned]
  have hset : planned.set = s.set := by simp [planned]
  have hset' : released.set = s.set := by simp [released, planned]
  have hb' : reserved.ct.bundle? k = some b' := by
    rw [htallied.bundle?, hplanned, Ct.bundle?_write hfb, if_pos rfl]
    rfl
  obtain ⟨q, hq⟩ := Bundle.substituted_currentPart (b := b) (h := p.stock) (Nat.sub_pos_of_lt hlt) c.handle
  have hpick := State.commandPick_eq
    (State.currentBundle_eq_some.mpr ⟨hntc ▸ hcur, hb'⟩) (show b'.currentPart = some q from hq)
  have hsub : s.substitute p.stock st.denom = reserved.commandPick := by
    have hc' : (s.candidates.find? fun c => decide (c.denom = st.denom) && !b.names c.handle
        && decide (p.target - p.stacked ≤ c.available)) = some c := hc
    simp only [State.substitute, hb, Bundle.find?_short hp, hc', if_pos h5]
    rfl
  refine ⟨_, hsub, ?_, ?_, ⟨Stock.evalLow sc (sc.reserve (p.target - p.stacked)) s.set.lowMark, ?_, ?_⟩, q, hq, ?_⟩
  · rw [hpick]
    exact hb'
  · rw [hpick]
    show reserved.ct.stock? p.stock = _
    rw [State.tallyStock_stock?, if_neg hne.symm, State.tallyStock_stock?, if_pos rfl, hstock _ _ hs, hset]
    rfl
  · rw [hpick]
    show reserved.ct.stock? c.handle = _
    rw [State.tallyStock_stock?, if_pos rfl, State.tallyStock_stock?, if_neg hne, hstock _ _ hsc, hset']
    rfl
  · rw [Stock.evalLow_reserved]
    rfl
  · rw [hpick, ← hntc]

/-- With no substitute or five parts the bundle ends (R71, R74). -/
theorem State.substitute_ends (hb : s.currentBundle = some (k, b)) (hp : b.currentPart = some p)
    (hc : ∀ c, s.candidates.find? (b.takesOver st.denom (p.target - p.stacked)) = some c → ¬ b.parts.length < 5)
    (he : s.ntc.pendingEnd = none) (hclear : s.ntc.pathClear = true) :
    s.substitute p.stock st.denom = s.endBundle (.failed .empty) := by
  have hd : s.decideEnding (.failed .empty) = s.endBundle (.failed .empty) := by
    simp [State.decideEnding, he, hclear]
  have hu : s.substitute p.stock st.denom = s.decideEnding (.failed .empty) := by
    simp only [State.substitute, hb, Bundle.find?_short hp]
    split
    · next c hf => exact if_neg (hc c hf)
    · rfl
  rw [hu, hd]

theorem State.enterDiverting_ct (s : State) : s.enterDiverting.ct = s.ct := by
  unfold State.enterDiverting
  dsimp only
  (repeat' split) <;> simp

theorem State.enterDiverting_work (s : State) : s.enterDiverting.ntc.pickFails = s.ntc.pickFails
    ∧ s.enterDiverting.ntc.current = s.ntc.current ∧ s.enterDiverting.ntc.pick = s.ntc.pick := by
  unfold State.enterDiverting
  dsimp only
  (repeat' split) <;> simp [State.startDump_ntc]

/-- With no bundle queued, what a bundle's end leaves is what its dismissal leaves (R58, R75). -/
theorem State.endBundle_of_empty (hb : s.currentBundle = some (k, b)) (hq : s.dpl.queue = []) (e : Ending) :
    (s.endBundle e).ct = (s.dismissed k b e).ct ∧ (s.endBundle e).ntc.pickFails = s.ntc.pickFails
      ∧ (s.endBundle e).ntc.current = none ∧ (s.endBundle e).ntc.pick = none := by
  have hn := s.dismissed_ntc k b e
  rw [State.endBundle_eq hb]
  split
  · obtain ⟨hf, hc, hp⟩ := State.enterDiverting_work (s.dismissed k b e)
    rw [hf, hc, hp, hn]
    exact ⟨State.enterDiverting_ct _, rfl, rfl, rfl⟩
  · rw [State.enterNoteIdle_of_empty ((s.dismissed_queue k b e).trans hq)]
    exact ⟨rfl, by rw [hn], by rw [hn], by rw [hn]⟩

end Sys2Proof.Machine

/-- Settles O46. -/
theorem pickFailuresRetryThenSubstitute : Obligations.PickFailuresRetryThenSubstitute := by
  intro s h k st b p hst hrun hpick hs he hb hp hph hpath hg
  subst hph
  have hexec : exec .pickFailure s = .next s.failPick := by
    show Host.Outcome.next _ = _
    rw [hrun]
    rfl
  rw [hexec]
  refine ⟨fun hlt => ?_, fun hle hq hn hd => ?_⟩
  · rw [State.failPick_again hst hpick hs he hlt hb hp]
  dsimp only
  obtain ⟨hcur, hbk⟩ := State.currentBundle_eq_some.mp hb
  obtain ⟨hmem, -⟩ := Bundle.mem_of_currentPart hp
  have hfs := Ct.stock?_eq_some.mp hs
  let doubted := s.pickFailed p.stock st.pos
  let st' : Stock := { st with quality := .doubtful .pickFail }
  have hntc : doubted.ntc = _ := s.pickFailed_ntc p.stock st.pos
  have hct : doubted.ct = s.ct.write p.stock (.stock st') := State.doubtStock_ct (s := s.onNtc _) hs hd hq .pickFail
  have hs' : doubted.ct.stock? p.stock = some st' := by
    rw [hct, Ct.stock?_write hfs, if_pos rfl]
    rfl
  have hbk' : doubted.ct.bundle? k = some b := by
    rw [hct, Ct.bundle?_write hfs, if_neg (Ct.bundle_ne_stock hs hbk), hbk]
  have hb' : doubted.currentBundle = some (k, b) :=
    State.currentBundle_eq_some.mpr ⟨by rw [hntc]; exact hcur, hbk'⟩
  have hg' : doubted.ct.generationsLegal = true := hct ▸ Ct.generationsLegal_write hg _ _
  have hfits : doubted.candidates.find? (b.takesOver st.denom (p.target - p.stacked))
      = s.candidates.find? (b.takesOver st.denom (p.target - p.stacked)) :=
    State.candidates_find?_of_write (st' := st') hs rfl hct (by simp [doubted, State.pickFailed]) fun c hc =>
      Bundle.handle_ne_of_takesOver hc hmem
  refine ⟨_, rfl, ?_⟩
  rw [State.failPick_last hst hpick hs he hle]
  by_cases hsub : ∃ c, s.candidates.find? (b.takesOver st.denom (p.target - p.stacked)) = some c ∧ b.parts.length < 5
  · obtain ⟨c, hc, h5⟩ := hsub
    obtain ⟨-, sc, hat, -⟩ := State.candidateAt_eq_some.mp (State.mem_candidates.mp (List.mem_of_find?_eq_some hc))
    have hsc := Ct.stock?_stockAt hg hat
    have hsc' : doubted.ct.stock? c.handle = some sc := by
      rw [hct, Ct.stock?_write hfs, if_neg (Bundle.handle_ne_of_takesOver (List.find?_some hc) hmem), hsc]
    obtain ⟨u, hu, hub, hus, ⟨sc', husc, hres⟩, q, hq', hun⟩ :=
      State.substitute_takesOver (st := st') hb' hp hs' hsc' (hfits.trans hc) h5
    rw [show (s.pickFailed p.stock st.pos).substitute p.stock st.denom = u from hu]
    refine ⟨by rw [hun, hntc], ⟨_, hus, ?_, ?_, ?_⟩, fun c' hc' _ => ?_, fun hnone => ?_⟩
    · rw [Stock.evalLow_quality]
      rfl
    · rw [Stock.evalLow_reserved]
      rfl
    · rw [Stock.evalLow_remaining]
      rfl
    · obtain rfl : c = c' := Option.some.inj (hc.symm.trans hc')
      refine ⟨_, hub, rfl, rfl, ⟨sc, sc', hsc, husc, hres⟩, ?_, by rw [hun], by rw [hun, hq']; rfl⟩
      rw [hun, hntc]
      exact hst
    · exact absurd (hc.symm.trans hnone) (by simp)
  · have hends : doubted.substitute p.stock st.denom = doubted.endBundle (.failed .empty) :=
      State.substitute_ends hb' hp (fun c hc h5 => hsub ⟨c, hfits ▸ hc, h5⟩) (by rw [hntc]; exact he)
        (by simp [Ntc.pathClear, hntc, hpath])
    obtain ⟨hect, hefails, hecur, hepick⟩ :=
      State.endBundle_of_empty hb' (State.pickFailed_queue hs hq st.pos) (.failed .empty)
    rw [show (s.pickFailed p.stock st.pos).substitute p.stock st.denom = _ from hends, hect, hefails]
    obtain ⟨st'', hs'', hqual, hrem, hres⟩ := State.unstacked_stock? hn hmem hs'
    obtain ⟨hgone, hlast⟩ := State.dismissed_failed hbk' hg' .empty
    refine ⟨by rw [hntc], ⟨st'', ?_, hqual, hres, hrem⟩, fun c hc h5 => absurd ⟨c, hc, h5⟩ hsub,
      fun _ => ⟨hgone, hlast, hecur, hepick⟩⟩
    rw [State.dismissed_stock? hbk' hg', hs'']

end

section
/-! PROOF. The end of a bundle's time in the note transport (O47): STACKED and ROUTING (R69, R77), the delivery and the
presentation that it starts (R78, R88), the wait that runs out and the dump (R75, R79). -/

open Sys2Proof Sys2Proof.Machine

namespace Sys2Proof.Machine

variable {s t : State} {h k : Handle} {b : Bundle} {l : Lane}

@[simp] theorem State.setLaneFlag_laneFlag (hf : s.fitted l = true) (f : LaneFlag) :
    (s.setLaneFlag l f).laneFlag l f = true := by
  have hm : f.mask ≠ 0 := by cases f <;> decide
  have ha : (s.slp.laneFlags.get l ||| f.mask) &&& f.mask = f.mask := by
    ext i
    simp
    tauto
  simpa [State.laneFlag, State.setLaneFlag, hf, ha] using hm

/-! ## A bundle's state -/

theorem State.setBundleState_ct (hb : s.ct.bundle? k = some b) (st : BundleState) :
    (s.setBundleState k st).ct = s.ct.write k (.bundle { b with state := st }) := by
  rw [State.setBundleState, State.onBundle_of_some hb]
  rfl

theorem State.setBundleState_bundle? (hb : s.ct.bundle? k = some b) (st : BundleState) :
    (s.setBundleState k st).ct.bundle? k = some { b with state := st } := by
  rw [State.setBundleState_ct hb, Ct.bundle?_write (Ct.bundle?_eq_some.mp hb), if_pos rfl]
  rfl

theorem State.setBundleState_find (hb : s.ct.bundle? k = some b) (st : BundleState) {x : Handle} (hx : x ≠ k) :
    (s.setBundleState k st).ct.find x = s.ct.find x := by
  rw [State.setBundleState_ct hb, Ct.find_write _ (Ct.bundle?_eq_some.mp hb), if_neg hx]

/-- A bundle's new figures are no transit's. -/
theorem Ct.transitOf_write_bundle {c : Ct} (hb : c.bundle? k = some b) (b' : Bundle) (l : Lane) :
    (c.write k (.bundle b')).transitOf l = c.transitOf l := by
  have hf := Ct.bundle?_eq_some.mp hb
  unfold Ct.transitOf
  rw [Ct.live_write hf, List.findSome?_map]
  have hall : ∀ e ∈ c.live, e.1 = k → e.2 = .bundle b := fun e he hk => Ct.eq_of_mem_live he (hk ▸ hf)
  generalize c.live = l at hall
  induction l with
  | nil => rfl
  | cons e l ih =>
    have ih' := ih fun x hx => hall x (List.mem_cons_of_mem _ hx)
    have he := hall e List.mem_cons_self
    obtain ⟨j, r⟩ := e
    rw [List.findSome?_cons, List.findSome?_cons, ih']
    by_cases hj : j = k
    · obtain rfl : r = .bundle b := he hj
      simp [hj]
    · simp [hj]

/-! ## STACKED and ROUTING -/

theorem State.haltNote_stackerWait (s : State) : s.haltNote.set.stackerWait = s.set.stackerWait := by
  simp only [State.haltNote, State.onNtc_set, State.runEnd]
  split <;> simp [Settings.applyGauge]

/-- A complete bundle is STACKED and waits for its lane (R69). -/
def State.stackedFor (s : State) (k : Handle) (l : Lane) : State :=
  ((s.haltNote.setBundleState k .stacked).onNtc fun n => { n with
    state := .stackedWait, waitTimer := .running (s.set.stackerWait * 1000)
    waitPast := 0 }).setLaneFlag l .bundleStacked

theorem State.stackedFor_ntc (s : State) (k : Handle) (l : Lane) :
    (s.stackedFor k l).ntc = { s.ntc with
      motor := false, stallTimer := .stopped, dump := false, dumpTimer := .stopped
      pick := none, path := [], pickTimer := .stopped, exitTimer := .stopped
      state := .stackedWait, waitTimer := .running (s.set.stackerWait * 1000), waitPast := 0 } := by
  simp [State.stackedFor, State.haltNote_ntc]

theorem State.stackedFor_ct (hb : s.ct.bundle? k = some b) (l : Lane) :
    (s.stackedFor k l).ct = s.ct.write k (.bundle { b with state := .stacked }) := by
  have hb' : s.haltNote.ct.bundle? k = some b := by simpa using hb
  have hct : (s.stackedFor k l).ct = (s.haltNote.setBundleState k .stacked).ct := by simp [State.stackedFor]
  rw [hct, State.setBundleState_ct hb']
  simp

theorem State.stackedFor_frame (s : State) (k : Handle) (l : Lane) :
    (s.stackedFor k l).ldc = s.ldc ∧ (s.stackedFor k l).ecc = s.ecc ∧ (s.stackedFor k l).pins = s.pins := by
  simp [State.stackedFor]

theorem State.stackedFor_ready (hb : s.ct.bundle? k = some b) (l j : Lane) :
    (s.stackedFor k l).laneReady j = s.laneReady j := by
  obtain ⟨hldc, -, hpins⟩ := s.stackedFor_frame k l
  simp only [State.laneReady, State.locked, hldc, hpins, State.stackedFor_ct hb, Ct.transitOf_write_bundle hb]

theorem State.stackedFor_laneFlag (hf : s.fitted l = true) (k : Handle) :
    (s.stackedFor k l).laneFlag l .bundleStacked = true :=
  State.setLaneFlag_laneFlag (by simpa [State.fitted] using hf) _

/-- The readiness check of a bundle that waits, no power warning being active (R77, R84). -/
theorem State.checkReady_of_waiting (hs : s.ntc.state = .stackedWait) (hw : s.pins.warning = false)
    (hb : s.currentBundle = some (k, b)) : s.checkReady = if s.laneReady b.lane then s.route k b.lane else s := by
  simp [State.checkReady, hs, hw, hb]

theorem State.stackedFor_bundle? (hb : s.ct.bundle? k = some b) (l : Lane) :
    (s.stackedFor k l).ct.bundle? k = some { b with state := .stacked } := by
  rw [State.stackedFor_ct hb, Ct.bundle?_write (Ct.bundle?_eq_some.mp hb), if_pos rfl]
  rfl

theorem State.stackedFor_find (hb : s.ct.bundle? k = some b) (l : Lane) {x : Handle} (hx : x ≠ k) :
    (s.stackedFor k l).ct.find x = s.ct.find x := by
  rw [State.stackedFor_ct hb, Ct.find_write _ (Ct.bundle?_eq_some.mp hb), if_neg hx]

/-- A complete bundle is STACKED, and ROUTING in the same change when its lane is ready (R69, R77). -/
theorem State.completeBundle_eq (hb : s.currentBundle = some (k, b)) (hw : s.pins.warning = false) :
    s.completeBundle = if s.laneReady b.lane then (s.stackedFor k b.lane).route k b.lane
      else s.stackedFor k b.lane := by
  obtain ⟨hcur, hbk⟩ := State.currentBundle_eq_some.mp hb
  have hn := s.stackedFor_ntc k b.lane
  have hc : s.completeBundle = (s.stackedFor k b.lane).checkReady := by
    simp [State.completeBundle, hb, State.stackedFor, State.haltNote_stackerWait]
  rw [hc, State.checkReady_of_waiting (by rw [hn]) (by rw [(s.stackedFor_frame k b.lane).2.2, hw])
    (State.currentBundle_eq_some.mpr ⟨by rw [hn]; exact hcur, State.stackedFor_bundle? hbk b.lane⟩)]
  dsimp only
  rw [State.stackedFor_ready hbk]

theorem State.route_ntc (s : State) (k : Handle) (l : Lane) :
    (s.route k l).ntc = { s.ntc with
      state := .routing, stackerCount := 0, waitTimer := .stopped, gate := some l, chuteTimer := .running 2000 } := by
  simp [State.route, State.openGate]

theorem State.route_frame' (s : State) (k : Handle) (l : Lane) :
    (s.route k l).ct = (s.setBundleState k .routing).ct ∧ (s.route k l).ldc = s.ldc ∧ (s.route k l).ecc = s.ecc := by
  simp [State.route]

/-- What the last item's exit leaves of the path (R67). -/
def State.pathLeft (s : State) : State := s.onNtc fun n => { n with path := [], exitTimer := .stopped }

theorem State.exitDiverter_last {it : PathItem} (hs : s.ntc.state = .picking) (hp : s.ntc.pick = none)
    (hpath : s.ntc.path = [it]) (hit : it.ended = true) (he : s.ntc.pendingEnd = none) (hw : s.pins.warning = false)
    (hb : s.currentBundle = some (k, b)) :
    s.exitDiverter = if b.complete then s.pathLeft.completeBundle else s.pathLeft.commandPick := by
  have hx : s.exitDiverter = s.pathLeft.pickingOn := by
    simp [State.exitDiverter, hpath, hit, Ntc.phase, hs, State.pathLeft]
  rw [hx]
  simp [State.pickingOn, Ntc.phase, Ntc.pathClear, State.pathLeft, hs, hp, he, hw, show
    (s.onNtc fun n => { n with path := [], exitTimer := .stopped }).currentBundle = some (k, b) from hb]

theorem State.commandPick_ntc (s : State) : s.commandPick.ntc.path = s.ntc.path
    ∧ s.commandPick.ntc.exitTimer = s.ntc.exitTimer ∧ s.commandPick.ntc.state = s.ntc.state := by
  unfold State.commandPick
  (repeat' split) <;> simp

/-! ## The delivery -/

/-- The bundle lies in its lane's tray, and the transport has left it (R78). -/
def State.deliveredTo (s : State) (k : Handle) (l : Lane) : State :=
  ((s.closeGate.setBundleState k .delivered).onNtc fun n => { n with state := .idle, current := none }).setLaneFlag l
    .bundleDelivered

theorem State.bundleArrives_eq (hs : s.ntc.state = .routing) (hb : s.currentBundle = some (k, b)) :
    s.bundleArrives b.lane = ((s.deliveredTo k b.lane).autoPresent b.lane).enterNoteIdle := by
  simp [State.bundleArrives, hs, hb, State.deliveredTo]

theorem State.deliveredTo_frame (s : State) (k : Handle) (l : Lane) :
    (s.deliveredTo k l).ntc = { s.ntc with gate := none, chuteTimer := .stopped, state := .idle, current := none }
      ∧ (s.deliveredTo k l).ldc = s.ldc ∧ (s.deliveredTo k l).ecc = s.ecc ∧ (s.deliveredTo k l).pins = s.pins
      ∧ (s.deliveredTo k l).set = s.set ∧ (s.deliveredTo k l).azu.zones = s.azu.zones
      ∧ (s.deliveredTo k l).azu.forcing = s.azu.forcing ∧ (s.deliveredTo k l).dpl = s.dpl := by
  have hf (u : State) : u.followVibration.azu.forcing = u.azu.forcing := rfl
  simp [State.deliveredTo, State.closeGate, hf]

theorem State.deliveredTo_ct (s : State) (k : Handle) (l : Lane) :
    (s.deliveredTo k l).ct = (s.closeGate.setBundleState k .delivered).ct := by
  simp [State.deliveredTo]

/-- The presentation that a delivery starts finds no bundle in the transport to report the lane to (R88). -/
theorem State.autoPresent_of_idle (hc : s.ntc.current = none) (l : Lane) :
    s.autoPresent l = if s.set.autoPresent.get l = 1 ∧ s.locked l = false ∧ s.pins.warning = false
      then s.startMotion l .extending else s := by
  have hr : (s.startMotion l .extending).reportLane l = s.startMotion l .extending := by
    simp [State.reportLane, State.currentBundle, hc]
  simp only [State.autoPresent, State.present, hr, Bool.and_eq_true, Bool.not_eq_true', decide_eq_true_eq, and_assoc]

/-- A drawer driven out: the motor, the limit and the open forcing window (R86, R142). -/
theorem State.startMotion_of_free (hw : s.pins.warning = false) (l : Lane) (m : Motion) :
    s.startMotion l m = { s with
      ldc := s.ldc.put l { s.ldc.get l with state := m.state, halted := none, motor := true, motion := .running 4000 }
      azu := { s.azu with forcing := s.azu.forcing.put l ⟨true, .stopped⟩ } } := by
  simp [State.startMotion, hw, State.driveDrawer, State.followForcing, State.onLdc, State.onAzu, Window.follow,
    Window.cause, Config.motionLimit]

/-! ## The dump -/

theorem State.stopDump_ntc (s : State) :
    s.stopDump.ntc = { s.ntc with dump := false, dumpTimer := .stopped } := by
  simp [State.stopDump]

theorem State.enterDiverting_of_free (hs : s.ntc.state ≠ .paused) (hw : s.pins.warning = false) :
    s.enterDiverting = (s.onNtc fun n => { n with state := .diverting, saved := none }).startDump := by
  simp [State.enterDiverting, hs, hw]

end Sys2Proof.Machine

/-- Settles O47. -/
theorem bundlesLeaveTheTransport : Obligations.BundlesLeaveTheTransport := by
  refine ⟨fun s it k b hs hp hpath hit he hw hb => ⟨_, rfl, ?_⟩, fun s k b hs hb hq => ⟨_, rfl, ?_⟩,
    fun s k b hs hrun hb hn hw hg => ?_, fun s hs hd hq => ⟨_, rfl, ?_⟩⟩
  · obtain ⟨hcur, hbk⟩ := State.currentBundle_eq_some.mp hb
    have hb' : s.pathLeft.currentBundle = some (k, b) := hb
    have hbk' : s.pathLeft.ct.bundle? k = some b := hbk
    have hbs := State.stackedFor_bundle? hbk' b.lane
    have hfind {x : Handle} (hx : x ≠ k) : (s.pathLeft.stackedFor k b.lane).ct.find x = s.ct.find x :=
      State.stackedFor_find hbk' b.lane hx
    have hn := s.pathLeft.stackedFor_ntc k b.lane
    obtain ⟨hldc, hecc, -⟩ := s.pathLeft.stackedFor_frame k b.lane
    rw [State.exitDiverter_last hs hp hpath hit he hw hb, State.completeBundle_eq hb' hw]
    rw [show s.pathLeft.laneReady b.lane = s.laneReady b.lane from rfl]
    cases hc : b.complete with
    | false =>
      obtain ⟨hpath', hexit, -⟩ := s.pathLeft.commandPick_ntc
      refine ⟨hpath', hexit, fun p _ hp => ?_, nofun, nofun, fun x _ => by simp [State.pathLeft],
        by simp [State.pathLeft], by simp [State.pathLeft]⟩
      rw [if_neg (by simp), State.commandPick_eq hb' hp]
      exact ⟨hs, rfl, rfl, rfl⟩
    | true =>
      cases hr : s.laneReady b.lane with
      | false =>
        simp only [if_pos, Bool.false_eq_true, if_false]
        rw [hn]
        exact ⟨rfl, rfl, nofun, fun _ _ => ⟨hbs, rfl, rfl, rfl, rfl, fun hf =>
          State.stackedFor_laneFlag (s := s.pathLeft) hf k⟩, nofun, fun x hx => hfind hx, hldc, hecc⟩
      | true =>
        obtain ⟨hrct, hrldc, hrecc⟩ := (s.pathLeft.stackedFor k b.lane).route_frame' k b.lane
        simp only [if_pos]
        rw [hrct, hrldc, hrecc, State.route_ntc, hn]
        exact ⟨rfl, rfl, nofun, nofun, fun _ _ => ⟨State.setBundleState_bundle? hbs _, rfl, rfl, rfl, rfl, rfl⟩,
          fun x hx => (State.setBundleState_find hbs _ hx).trans (hfind hx), hldc, hecc⟩
  · obtain ⟨hcur, hbk⟩ := State.currentBundle_eq_some.mp hb
    have hbk' : s.closeGate.ct.bundle? k = some b := by simpa using hbk
    obtain ⟨hn, hldc, hecc, hpins, hset, hzones, hforcing, hdpl⟩ := s.deliveredTo_frame k b.lane
    have hct := s.deliveredTo_ct k b.lane
    have hflag (hf : s.fitted b.lane = true) : (s.deliveredTo k b.lane).laneFlag b.lane .bundleDelivered = true :=
      State.setLaneFlag_laneFlag (by simpa [State.fitted] using hf) _
    have hfind (x : Handle) (hx : x ≠ k) : (s.deliveredTo k b.lane).ct.find x = s.ct.find x := by
      rw [hct, State.setBundleState_find hbk' _ hx]
      simp
    have hbd : (s.deliveredTo k b.lane).ct.bundle? k = some { b with state := .delivered } := by
      rw [hct, State.setBundleState_bundle? hbk']
    have hcond : ((s.deliveredTo k b.lane).set.autoPresent.get b.lane = 1
        ∧ (s.deliveredTo k b.lane).locked b.lane = false ∧ (s.deliveredTo k b.lane).pins.warning = false)
        ↔ (s.set.autoPresent.get b.lane = 1 ∧ s.locked b.lane = false ∧ s.pins.warning = false) := by
      simp only [State.locked, hset, hldc, hpins]
    rw [State.bundleArrives_eq hs hb, State.autoPresent_of_idle (by rw [hn])]
    by_cases hpres : s.set.autoPresent.get b.lane = 1 ∧ s.locked b.lane = false ∧ s.pins.warning = false
    · rw [if_pos (hcond.mpr hpres), State.startMotion_of_free (hcond.mpr hpres).2.2,
        State.enterNoteIdle_of_empty (by rw [← hq, ← hdpl])]
      dsimp only
      rw [hn, hldc, hforcing]
      exact ⟨hbd, hfind, rfl, rfl, rfl, rfl, hecc, hzones, fun hno => absurd hpres hno, fun _ => ⟨rfl, rfl⟩, hflag⟩
    · rw [if_neg (hcond.not.mpr hpres), State.enterNoteIdle_of_empty (by rw [hdpl, hq])]
      dsimp only
      rw [hn]
      exact ⟨hbd, hfind, rfl, rfl, rfl, rfl, hecc, hzones, fun _ => hldc, fun hyes => absurd hyes hpres, hflag⟩
  · obtain ⟨hcur, hbk⟩ := State.currentBundle_eq_some.mp hb
    have hends : s.stackerWaitOut = s.endBundle (.failed .stackerTimeout) := by
      simp [State.stackerWaitOut, hs, hrun]
    obtain ⟨hldc, hecc, hpins⟩ := s.dismissed_frame k b (.failed .stackerTimeout)
    have hd := s.dismissed_ntc k b (.failed .stackerTimeout)
    obtain ⟨hgone, q, hlast⟩ := State.dismissed_failed hbk hg .stackerTimeout
    refine ⟨s.stackerWaitOut, q, rfl, ?_⟩
    rw [hends, State.endBundle_eq hb, if_pos hn,
      State.enterDiverting_of_free (by rw [hd]; simp [hs]) (by rw [hpins, hw])]
    simp only [State.startDump_ntc, State.startDump_frame, State.onNtc_ct, State.onNtc_ldc, State.onNtc_ecc,
      State.onNtc_ntc]
    refine ⟨hgone, hlast, fun hv v hvault hcap => ?_, fun h st hst => ?_, trivial, by rw [hd], trivial, trivial,
      by rw [hd], hldc, hecc⟩
    · rw [State.dismissed_vault? hbk hg hvault, Vault.add_of_space hcap]
      simp [Quality.worse, Quality.rank]
    · rw [State.dismissed_stock? hbk hg]
      exact (s.unstacked_tallies b).stock h st hst
  · have hempty : s.emptyStacker = ((s.onPins fun p => { p with stackerEmpty := true }).stopDump.onNtc fun n =>
        { n with stackerCount := 0 }).enterNoteIdle := by
      simp [State.emptyStacker, State.stopDump_ntc, hs, hd]
    rw [hempty, State.enterNoteIdle_of_empty (by simpa using hq)]
    simp [State.stopDump_ntc]

end

section
/-! PROOF. A zone's change (R136 to R144): what it writes, and that one which moves no zone into or out of force changes
the zones alone. With it the scan cycle, the debounce, the classes and the tails of the windows. -/

open Sys2Proof Sys2Proof.Machine

namespace Sys2Proof.Machine

variable {s t u : State} {z x : ZoneId} {new w : Zone}

/-! ## The zone that is written -/

theorem zones_get_set (v : Vector Zone 16) (z x : ZoneId) (new : Zone) :
    (v.set z new)[x] = if z = x then new else v[x] := by
  show (v.set z.val new)[x.val] = _
  rw [Vector.getElem_set]
  simp only [Fin.ext_iff]
  rfl

theorem zones_set_self (v : Vector Zone 16) (z : ZoneId) : v.set z v[z] = v := by
  ext i hi
  rw [Vector.getElem_set]
  split
  · next h => subst h; rfl
  · rfl

/-- A change of one zone writes it and no other (R144). -/
theorem State.putZone_zones (s : State) (z : ZoneId) (new : Zone) :
    (s.putZone z new).azu.zones = s.azu.zones.set z new := by
  have hw : (s.writeZones [(z, new)]).azu.zones = s.azu.zones.set z new := by
    unfold State.writeZones
    dsimp only
    split <;> rfl
  have ht (l : List ZoneId) (already : Bool) (u : State) :
      (l.foldl (fun t z => t.takeHold z already) u).azu.zones = u.azu.zones :=
    foldl_azu_zones _ _ (fun s a => by simp) u
  have hl (l : List ZoneId) (u : State) : (l.foldl State.liftHold u).azu.zones = u.azu.zones :=
    foldl_azu_zones _ _ (fun s a => by simp) u
  unfold State.putZone State.putZones
  dsimp only
  split <;> simp [ht, hl, hw]

theorem State.putZone_zone (s : State) (z x : ZoneId) (new : Zone) :
    ((s.putZone z new).azu.zones[x]) = if z = x then new else s.azu.zones[x] := by
  rw [State.putZone_zones, zones_get_set]

/-! ## A change that moves no zone into or out of force -/

/-- The zone alone is written, with no consequence. -/
def State.setZone (s : State) (z : ZoneId) (new : Zone) : State :=
  s.onAzu fun a => { a with zones := a.zones.set z new }

theorem State.setZone_zone (s : State) (z x : ZoneId) (new : Zone) :
    ((s.setZone z new).azu.zones[x]) = if z = x then new else s.azu.zones[x] := zones_get_set _ _ _ _

theorem State.zoneInForce_setZone (h : new.inForce = (s.azu.zones[z]).inForce) (x : ZoneId) :
    (s.setZone z new).zoneInForce x = s.zoneInForce x := by
  rw [State.zoneInForce, State.setZone_zone]
  split
  · next hx => rw [h, hx]; rfl
  · rfl

theorem State.openCondition_setZone (h : new.inForce = (s.azu.zones[z]).inForce) :
    (s.setZone z new).openCondition = s.openCondition := by
  simp only [State.openCondition, State.zoneInForce_setZone h]
  rfl

theorem State.followOpen_of_same (h : s.openCondition = b) : s.followOpen b = s := by
  simp [State.followOpen, h]

/-- A set that is what it was has not become empty (R58, R108, R157). -/
theorem State.releaseHolds_of_same {old : Ct} (hd : s.ct.holdDispenser = old.holdDispenser)
    (hr : s.ct.holdReject = old.holdReject) (hc : s.ct.holdCapture = old.holdCapture) : s.releaseHolds old = s := by
  simp [State.releaseHolds, hd, hr, hc]

theorem State.enterForce_one (s : State) (z : ZoneId) (new : Zone) :
    s.enterForce [(z, new)] = if !(s.azu.zones[z]).inForce && new.inForce then [z] else [] := by
  cases h : (!(s.azu.zones[z]).inForce && new.inForce) <;>
    simp only [State.enterForce, List.filter_cons, List.filter_nil, h] <;> rfl

theorem State.leaveForce_one (s : State) (z : ZoneId) (new : Zone) :
    s.leaveForce [(z, new)] = if (s.azu.zones[z]).inForce && !new.inForce then [z] else [] := by
  cases h : ((s.azu.zones[z]).inForce && !new.inForce) <;>
    simp only [State.leaveForce, List.filter_cons, List.filter_nil, h] <;> rfl

/-- The zone is written, and ALARM_CHANGE follows (R153). -/
theorem State.putZone_of_force (h : new.inForce = (s.azu.zones[z]).inForce) :
    s.putZone z new = if alarmChange z s.azu.zones[z] new then (s.setZone z new).setWallFlag .alarmChange
      else s.setZone z new := by
  have he : s.enterForce [(z, new)] = [] := by rw [State.enterForce_one, h]; simp
  have hl : s.leaveForce [(z, new)] = [] := by rw [State.leaveForce_one, h]; simp
  have hw : s.writeZones [(z, new)] = s.setZone z new := by
    simp [State.writeZones, he, hl, State.setZone, State.onCt, State.onAzu]
  simp only [State.putZone, State.putZones, he, hl, hw, List.foldl_nil,
    State.followOpen_of_same (State.openCondition_setZone h), List.any_cons, List.any_nil, Bool.or_false]
  rw [State.releaseHolds_of_same (s := s.setZone z new) (old := s.ct) rfl rfl rfl]

/-- A change of marks that the console does not see (R153). -/
theorem alarmChange_of_marks (hp : new.pending = w.pending) (hr : new.repeated = w.repeated)
    (ht : new.trouble = w.trouble) (he : new.enable = w.enable) (hm : new.mode = w.mode)
    (hd : new.delegation = w.delegation) (z : ZoneId) : alarmChange z w new = false := by
  simp [alarmChange, Zone.marksDiffer, Zone.reported, hp, hr, ht, he, hm, hd]

/-- A change of the debounce or of the deferral is the zone's alone. -/
theorem State.putZone_of_marks (hp : new.pending = (s.azu.zones[z]).pending)
    (hr : new.repeated = (s.azu.zones[z]).repeated)
    (ht : new.trouble = (s.azu.zones[z]).trouble) (he : new.enable = (s.azu.zones[z]).enable)
    (hm : new.mode = (s.azu.zones[z]).mode) (hd : new.delegation = (s.azu.zones[z]).delegation) :
    s.putZone z new = s.setZone z new := by
  rw [State.putZone_of_force (by simp [Zone.inForce, hp, he, hm]), alarmChange_of_marks hp hr ht he hm hd]
  rfl

/-- Only the zones and the flags of the SLP change. -/
def State.Rezoned (s t : State) : Prop := t = { s with azu := { s.azu with zones := t.azu.zones }, slp := t.slp }

theorem State.Rezoned.refl (s : State) : s.Rezoned s := rfl

theorem State.Rezoned.trans (h : s.Rezoned t) (h' : t.Rezoned u) : s.Rezoned u := by
  unfold State.Rezoned at *
  rw [h', h]

theorem State.Rezoned.confined (h : s.Rezoned t) : t = { s with azu := t.azu, slp := t.slp } := by
  unfold State.Rezoned at h
  rw [h]

theorem State.putZone_rezoned (h : new.inForce = (s.azu.zones[z]).inForce) : s.Rezoned (s.putZone z new) := by
  rw [State.putZone_of_force h]
  split <;> rfl

/-! ## Classes -/

theorem Zone.changeClass_keeps (w : Zone) (c : LoopClass) (blanked : Bool) :
    (w.changeClass c blanked).cls = c ∧ (w.changeClass c blanked).count = 0
      ∧ (w.changeClass c blanked).enable = w.enable ∧ (w.changeClass c blanked).mode = w.mode
      ∧ (w.changeClass c blanked).delegation = w.delegation := by
  cases c <;> simp only [Zone.changeClass, and_self]
  unfold Zone.tripOrDefer Zone.trip
  (repeat' split) <;> simp

/-- A class change takes no pending mark, and with it no zone out of force (R139, R144). -/
theorem Zone.changeClass_stays (w : Zone) (c : LoopClass) (blanked : Bool) (h : w.inForce = true) :
    (w.changeClass c blanked).inForce = true := by
  obtain ⟨-, -, he, hm, -⟩ := w.changeClass_keeps c blanked
  have hp : w.pending = true → (w.changeClass c blanked).pending = true := by
    intro hp
    cases c <;> cases blanked <;> simp [Zone.changeClass, Zone.tripOrDefer, Zone.trip, hp]
  simp only [Zone.inForce, he, hm, Bool.and_eq_true] at h ⊢
  exact ⟨⟨hp h.1.1, h.1.2⟩, h.2⟩

/-- A class other than TRIPPED leaves the pending mark, and with it the zone's force (R139, R140). -/
theorem Zone.changeClass_pending {c : LoopClass} (hc : c ≠ .tripped) (w : Zone) (blanked : Bool) :
    (w.changeClass c blanked).pending = w.pending := by
  cases c with
  | tripped => exact absurd rfl hc
  | _ => rfl

theorem Zone.changeClass_inForce {c : LoopClass} (hc : c ≠ .tripped) (w : Zone) (blanked : Bool) :
    (w.changeClass c blanked).inForce = w.inForce := by
  obtain ⟨-, -, he, hm, -⟩ := w.changeClass_keeps c blanked
  simp only [Zone.inForce, Zone.changeClass_pending hc, he, hm]

/-- A loop that leaves TRIPPED with its zone pending, and each class's trouble (R139, R140). -/
theorem Zone.changeClass_untripped {c : LoopClass} (hc : isBandClass c = true) (hne : c ≠ .tripped) (w : Zone)
    (blanked : Bool) : (w.changeClass c blanked).trouble = decide (c ≠ .normal)
      ∧ (w.cls = .tripped → w.pending = true → (w.changeClass c blanked).restoreNeeded = true) := by
  cases c with
  | tripped => exact absurd rfl hne
  | short | normal | openLoop => exact ⟨rfl, fun h h' => by simp [Zone.changeClass, h, h']⟩
  | _ => cases hc

theorem Zone.changeClass_tripped (w : Zone) :
    (w.changeClass .tripped false).pending = true ∧ (w.changeClass .tripped false).repeated = (w.repeated || w.pending)
      ∧ (w.changeClass .tripped false).trouble = false := by
  cases h : w.pending <;> simp [Zone.changeClass, Zone.tripOrDefer, Zone.trip, h]

theorem Zone.changeClass_deferred (w : Zone) :
    (w.changeClass .tripped true).pending = w.pending ∧ (w.changeClass .tripped true).deferred = .loop :=
  ⟨rfl, rfl⟩

/-! ## The scan cycle -/

theorem mem_allZones (z : ZoneId) : z ∈ allZones := by
  revert z
  decide

theorem allZones_nodup : allZones.Nodup := by decide

/-- The channels of the range, going on from 0 after 15 (R136). -/
theorem mem_scanRange (first last : Nat) (z : ZoneId) : z ∈ scanRange first last
    ↔ if first ≤ last then first ≤ z.val ∧ z.val ≤ last else first ≤ z.val ∨ z.val ≤ last := by
  have hz : z.val ≤ 15 := Nat.le_of_lt_succ z.isLt
  unfold scanRange
  split <;> simp [mem_allZones, hz]

theorem scanRange_nodup (first last : Nat) : (scanRange first last).Nodup := by
  unfold scanRange
  dsimp only
  split
  · exact allZones_nodup.filter _
  · refine List.Nodup.append (allZones_nodup.filter _) (allZones_nodup.filter _) fun z h h' => ?_
    simp only [List.mem_filter, Bool.and_eq_true, decide_eq_true_eq] at h h'
    omega

theorem mem_scanCycle (first last : Nat) (z : ZoneId) :
    z ∈ scanCycle first last ↔ isForcing z = false ∧ (z ∈ scanRange first last ∨ isHoldup z = true) := by
  have hh : isHoldup z = true → isForcing z = false := by
    revert z
    decide
  simp only [scanCycle, List.mem_append, List.mem_filter, mem_allZones, true_and, Bool.not_eq_true', Bool.and_eq_true,
    List.contains_eq_mem, decide_eq_false_iff_not]
  tauto

theorem scanCycle_nodup (first last : Nat) : (scanCycle first last).Nodup := by
  refine List.Nodup.append ((scanRange_nodup first last).filter _) (allZones_nodup.filter _) fun z h h' => ?_
  obtain ⟨-, h'⟩ := List.mem_filter.mp h'
  rw [List.contains_iff_mem.mpr h] at h'
  simp at h'

/-- A loop channel as a new cycle finds it (R138). -/
def Zone.scanned (cycle : List ZoneId) (z : ZoneId) (w : Zone) : Zone :=
  if isForcing z then w
  else if cycle.contains z then if w.cls = .unscanned then w.changeClass .undetermined false else w
  else if w.cls = .unscanned then w
  else { w.changeClass .unscanned false with deferred := .clear }

theorem State.scanChannel_zones (s : State) (cycle : List ZoneId) (z : ZoneId) :
    (s.scanChannel cycle z).azu.zones = s.azu.zones.set z ((s.azu.zones[z]).scanned cycle z) := by
  unfold State.scanChannel Zone.scanned
  dsimp only
  (repeat' split) <;> simp only [State.putZone_zones, zones_set_self]

theorem State.scanChannel_rezoned (s : State) (cycle : List ZoneId) (z : ZoneId) :
    s.Rezoned (s.scanChannel cycle z) := by
  unfold State.scanChannel
  dsimp only
  (repeat' split)
  · exact .refl s
  · exact State.putZone_rezoned (Zone.changeClass_inForce (by decide) _ _)
  · exact .refl s
  · exact .refl s
  · exact State.putZone_rezoned (Zone.changeClass_inForce (c := .unscanned) (by decide) _ false)

theorem foldl_scanChannel_rezoned (cycle l : List ZoneId) (s : State) :
    s.Rezoned (l.foldl (fun s z => s.scanChannel cycle z) s) := by
  induction l generalizing s with
  | nil => exact .refl s
  | cons z l ih => exact (s.scanChannel_rezoned cycle z).trans (ih _)

theorem foldl_scanChannel_zone (cycle : List ZoneId) {l : List ZoneId} (hl : l.Nodup) (s : State) (x : ZoneId) :
    ((l.foldl (fun s z => s.scanChannel cycle z) s).azu.zones[x])
      = if x ∈ l then (s.azu.zones[x]).scanned cycle x else s.azu.zones[x] := by
  induction l generalizing s with
  | nil => rfl
  | cons z l ih =>
    obtain ⟨hz, hl⟩ := List.nodup_cons.mp hl
    rw [List.foldl_cons, ih hl, State.scanChannel_zones, zones_get_set]
    by_cases hzx : z = x
    · subst hzx
      simp [hz]
    · simp [hzx, Ne.symm hzx]

theorem Zone.scanned_keeps (cycle : List ZoneId) (z : ZoneId) (w : Zone) :
    (w.scanned cycle z).pending = w.pending ∧ (w.scanned cycle z).enable = w.enable
      ∧ (w.scanned cycle z).mode = w.mode := by
  unfold Zone.scanned
  (repeat' split) <;> exact ⟨rfl, rfl, rfl⟩

/-- A loop channel of the cycle is scanned, and one outside it is not (R138). -/
theorem Zone.scanned_cls {cycle : List ZoneId} {z : ZoneId} (hf : isForcing z = false) (w : Zone) :
    (w.scanned cycle z).cls = .unscanned ↔ z ∉ cycle := by
  by_cases hz : z ∈ cycle
  · by_cases hc : w.cls = .unscanned <;> simp [Zone.scanned, hf, hz, hc, Zone.changeClass]
  · by_cases hc : w.cls = .unscanned <;> simp [Zone.scanned, hf, hz, hc, Zone.changeClass]

theorem State.formCycle_zone (s : State) (x : ZoneId) : (s.formCycle.azu.zones[x])
    = (s.azu.zones[x]).scanned (scanCycle s.set.scanStart s.set.scanEnd) x := by
  unfold State.formCycle
  dsimp only
  rw [foldl_scanChannel_zone _ allZones_nodup, if_pos (mem_allZones x)]
  rfl

theorem State.formCycle_rezoned (s : State) : State.Rezoned (s.onAzu fun a => { a with
    cycle := scanCycle s.set.scanStart s.set.scanEnd, converted := 0 }) s.formCycle :=
  foldl_scanChannel_rezoned _ _ _

theorem State.formCycle_azu (s : State) : s.formCycle.azu.cycle = scanCycle s.set.scanStart s.set.scanEnd
    ∧ s.formCycle.azu.converted = 0 := by
  rw [s.formCycle_rezoned]
  exact ⟨rfl, rfl⟩

/-! ## The debounce -/

/-- A conversion of the next channel of the cycle, its class in the band of its code (R136, R137). -/
theorem State.convertNext_of_some (hz : s.azu.cycle[s.azu.converted]? = some z) (code : Sample) : s.convertNext code
    = (s.onAzu fun a => { a with converted := a.converted + 1 }).convertLoop z (bandOf code) := by
  have hlen : ¬ s.azu.cycle.length ≤ s.azu.converted := Nat.not_le.mpr (List.getElem?_eq_some_iff.mp hz).1
  simp only [State.convertNext, if_neg hlen, hz]

theorem State.convertLoop_of_cls {band : LoopClass} (hb : band = (s.azu.zones[z]).cls) :
    s.convertLoop z band = s.setZone z { s.azu.zones[z] with count := 0 } :=
  (if_pos hb).trans (State.putZone_of_marks rfl rfl rfl rfl rfl rfl)

theorem State.convertLoop_of_few {band : LoopClass} (hb : band ≠ (s.azu.zones[z]).cls)
    (hrow : (if band = (s.azu.zones[z]).candidate then (s.azu.zones[z]).count + 1 else 1) < 3) :
    s.convertLoop z band = s.setZone z { s.azu.zones[z] with
      candidate := band
      count := if band = (s.azu.zones[z]).candidate then (s.azu.zones[z]).count + 1 else 1 } :=
  ((if_neg hb).trans (if_neg (Nat.not_le.mpr hrow))).trans (State.putZone_of_marks rfl rfl rfl rfl rfl rfl)

theorem State.convertLoop_of_third {band : LoopClass} (hb : band ≠ (s.azu.zones[z]).cls)
    (hrow : 3 ≤ (if band = (s.azu.zones[z]).candidate then (s.azu.zones[z]).count + 1 else 1)) :
    s.convertLoop z band = s.putZone z ((s.azu.zones[z]).changeClass band (s.blanked z)) :=
  ((if_neg hb).trans (if_pos hrow)).trans (if_neg fun h => hb h.symm)

/-- A loop of the cycle that changes class (R137). -/
theorem exec_loopClassChange {c : LoopClass} (hwf : (Instr.loopClassChange z c).wf = true) (hz : z ∈ s.azu.cycle)
    (hne : (s.azu.zones[z]).cls ≠ c) :
    exec (.loopClassChange z c) s = .next (s.putZone z ((s.azu.zones[z]).changeClass c (s.blanked z))) := by
  show execLoopClassChange z c s = _
  rw [execLoopClassChange, if_pos hwf, List.contains_iff_mem.mpr hz, if_pos rfl, State.changeLoop, if_neg hne]

end Sys2Proof.Machine
end

section
/-! PROOF. What a zone's hold does as it takes effect (R83, R100, R111, R119, R155, R156): the sets that it joins, the
lanes that it locks, and what is left of a change that brings a zone into force. -/

open Sys2Proof Sys2Proof.Machine

namespace Sys2Proof.Machine

variable {s t u : State} {z x : ZoneId} {new w : Zone} {l : Lane}

/-! ## The sets -/

theorem addZone_eq_zero {m : ZoneSet} {z : ZoneId} {named : Bool} (h : addZone m z named = 0) : m = 0 := by
  unfold addZone at h
  split at h
  · exact (BitVec.or_eq_zero_iff.mp h).1
  · exact h

theorem addZone_ne_zero (m : ZoneSet) (z : ZoneId) : addZone m z true ≠ 0 :=
  fun h => zoneBit_ne_zero z (BitVec.or_eq_zero_iff.mp h).2

/-- Sets that a zone joined have not become empty (R58, R108, R157). -/
theorem State.releaseHolds_of_grown {old : Ct} {f : Lane → Bool}
    (hd : s.ct.holdDispenser = (old.addHold z f).holdDispenser)
    (hr : s.ct.holdReject = (old.addHold z f).holdReject) (hc : s.ct.holdCapture = (old.addHold z f).holdCapture) :
    s.releaseHolds old = s := by
  have hgrown {m : ZoneSet} {named : Bool} : (m != 0 && decide (addZone m z named = 0)) = false := by
    by_cases hm : addZone m z named = 0
    · simp [addZone_eq_zero hm]
    · simpa using fun _ => hm
  simp only [State.releaseHolds, hd, hr, hc, Ct.addHold, hgrown, Bool.or_false, Bool.false_eq_true, if_false]

/-- The zone and the sets are written, and the quotes lapse when the DISPENSER set changed (R52, R155). -/
def State.joined (s : State) (z : ZoneId) (new : Zone) : State :=
  if holdsDispenser z then ((s.setZone z new).onCt fun ct => ct.addHold z s.fitted).invalidateAllQuotes
  else (s.setZone z new).onCt fun ct => ct.addHold z s.fitted

theorem State.joined_frame (s : State) (z : ZoneId) (new : Zone) :
    (s.joined z new).ct = s.ct.addHold z s.fitted ∧ (s.joined z new).ntc = s.ntc ∧ (s.joined z new).gmu = s.gmu
      ∧ (s.joined z new).ldc = s.ldc ∧ (s.joined z new).ecc = s.ecc ∧ (s.joined z new).slp = s.slp
      ∧ (s.joined z new).set = s.set ∧ (s.joined z new).pins = s.pins ∧ (s.joined z new).dpl.queue = s.dpl.queue
      ∧ (s.joined z new).azu = (s.setZone z new).azu := by
  unfold State.joined
  split <;> exact ⟨rfl, rfl, rfl, rfl, rfl, rfl, rfl, rfl, rfl, rfl⟩

/-- A hold of the DISPENSER or REJECT area stands before the change (R83). -/
def State.notesHeld (s : State) : Bool := s.ct.holdDispenser != 0 || s.ct.holdReject != 0

/-! ## Locks -/

/-- A locked lane is not ready, so that a lock routes no bundle (R77, R100). -/
theorem State.reportLane_of_locked (h : s.locked l = true) : s.reportLane l = s := by
  unfold State.reportLane
  split
  · split
    · next b hb hl =>
      subst hl
      have hr : s.laneReady b.lane = false := by simp [State.laneReady, h]
      simp [State.checkReady, hb, hr]
    · rfl
  · rfl

/-- A lock changes the lane, the window of its motor, and the flag (R100). -/
theorem State.lockLane_quiet (s : State) (l : Lane) (z : ZoneId) : (s.lockLane l z).ct = s.ct
    ∧ (s.lockLane l z).ntc = s.ntc ∧ (s.lockLane l z).pins = s.pins
    ∧ ((s.azu.forcing.get l).opened = false → (s.lockLane l z).azu.forcing = s.azu.forcing) := by
  have hstop (u : State) (hu : (u.azu.forcing.get l).opened = false) :
      (u.stopDrawer l).azu.forcing = u.azu.forcing := by
    simp [State.stopDrawer, State.followForcing, Window.follow, Window.ended, hu]
  unfold State.lockLane
  dsimp only
  split
  · split
    · rw [State.reportLane_of_locked (by simpa [State.locked] using zoneBit_ne_zero z)]
      refine ⟨by simp, by simp, by simp, fun hw => ?_⟩
      rw [(State.setLaneFlag_frame _ _ _).2.2.2.2.2.2.1]
      show (s.haltDrawer l).azu.forcing = _
      unfold State.haltDrawer
      split
      · exact hstop (s.onLdc l _) hw
      · exact hstop (s.onLdc l _) hw
      · rfl
    · exact ⟨rfl, rfl, rfl, fun _ => rfl⟩
  · exact ⟨rfl, rfl, rfl, fun _ => rfl⟩

theorem State.holdLanes_quiet (s : State) (z : ZoneId) :
    (s.holdLanes z).ct = s.ct ∧ (s.holdLanes z).ntc = s.ntc ∧ (s.holdLanes z).pins = s.pins := by
  unfold State.holdLanes
  refine List.foldlRecOn Lane.all _ (motive := fun t : State => t.ct = s.ct ∧ t.ntc = s.ntc ∧ t.pins = s.pins)
    ⟨rfl, rfl, rfl⟩ ?_
  rintro t ⟨hct, hntc, hpins⟩ l -
  split
  · obtain ⟨hc, hn, hp, -⟩ := t.lockLane_quiet l z
    exact ⟨hc.trans hct, hn.trans hntc, hp.trans hpins⟩
  · exact ⟨hct, hntc, hpins⟩

/-! ## A zone comes into force -/

/-- A hold as it takes effect keeps the hold sets and the inputs. -/
theorem State.takeHold_holds (s : State) (z : ZoneId) (already : Bool) :
    (s.takeHold z already).ct.holdDispenser = s.ct.holdDispenser
      ∧ (s.takeHold z already).ct.holdReject = s.ct.holdReject
      ∧ (s.takeHold z already).ct.holdCapture = s.ct.holdCapture
      ∧ (s.takeHold z already).pins = s.pins := by
  have hp := (s.holdLanes_quiet z).2.2
  unfold State.takeHold
  dsimp only
  split <;> simp [hp]

/-- What comes of a zone that one change brings into force: the sets, what its hold does at once, the throats and
ALARM_CHANGE (R144, R153, R155). -/
theorem State.putZone_enters (h0 : (s.azu.zones[z]).inForce = false) (h1 : new.inForce = true) :
    s.putZone z new = if alarmChange z s.azu.zones[z] new
      then (((s.joined z new).takeHold z s.notesHeld).followOpen s.openCondition).setWallFlag .alarmChange
      else ((s.joined z new).takeHold z s.notesHeld).followOpen s.openCondition := by
  have he : s.enterForce [(z, new)] = [z] := by rw [State.enterForce_one, h0, h1]; rfl
  have hl : s.leaveForce [(z, new)] = [] := by rw [State.leaveForce_one, h0, h1]; rfl
  have hw : s.writeZones [(z, new)] = s.joined z new := by
    simp only [State.writeZones, he, hl, List.append_nil, List.any_cons, List.any_nil, Bool.or_false]
    rfl
  obtain ⟨hd, hr, hc, -⟩ := (s.joined z new).takeHold_holds z s.notesHeld
  have hct := (s.joined_frame z new).1
  have hrel := State.releaseHolds_of_grown (z := z) (f := s.fitted) (old := s.ct)
    (s := ((s.joined z new).takeHold z s.notesHeld).followOpen s.openCondition) (by simp [hd, hct]) (by simp [hr, hct])
    (by simp [hc, hct])
  simp only [State.putZone, State.putZones, he, hl, hw, List.foldl_nil, List.foldl_cons, List.any_cons, List.any_nil,
    Bool.or_false]
  rw [show (s.ct.holdDispenser != 0 || s.ct.holdReject != 0) = s.notesHeld from rfl, hrel]

/-- A change that takes no zone out of force brings it in or leaves its force (R144). -/
theorem Zone.force_cases (hn : w.inForce = true → new.inForce = true) :
    new.inForce = w.inForce ∨ (w.inForce = false ∧ new.inForce = true) := by
  cases h0 : w.inForce <;> cases h1 : new.inForce <;> simp_all

/-- A zone in force stays so while it stays pending and enabled (R144). -/
theorem State.putZone_pins (hn : (s.azu.zones[z]).inForce = true → new.inForce = true) :
    (s.putZone z new).pins = s.pins := by
  rcases Zone.force_cases hn with h | ⟨h0, h1⟩
  · rw [State.putZone_rezoned h]
  · have hp := ((s.joined z new).takeHold_holds z s.notesHeld).2.2.2
    have hj := (s.joined_frame z new).2.2.2.2.2.2.2.1
    rw [State.putZone_enters h0 h1]
    split <;> simp [hp, hj]

/-- What a zone's hold does that names neither the CAPTURE area nor a throat's tamper zone leaves the open condition
(R106). -/
theorem State.openCondition_joined (hz : holdsCapture z = false) (h11 : z ≠ 11) :
    (s.joined z new).openCondition = s.openCondition := by
  obtain ⟨hct, -, -, -, hecc, -, hset, hpins, -, hazu⟩ := s.joined_frame z new
  have hforce : (s.joined z new).zoneInForce 11 = s.zoneInForce 11 := by
    show ((s.joined z new).azu.zones[(11 : ZoneId)]).inForce = _
    rw [hazu, State.setZone_zone, if_neg h11]
    rfl
  have hgrant : (s.joined z new).grantOpen .capture = s.grantOpen .capture := by
    rw [State.grantOpen, hazu]
    rfl
  have hhold : (s.ct.addHold z s.fitted).holdCapture = s.ct.holdCapture := by simp [Ct.addHold, addZone, hz]
  simp only [State.openCondition, hct, hecc, hset, hpins, hforce, hgrant, hhold]
  rfl

/-! ## The forcing zones -/

theorem laneOfZone_forcingZone (l : Lane) : laneOfZone l.forcingZone = some l := by
  cases l <;> rfl

theorem isForcing_forcingZone (l : Lane) : isForcing l.forcingZone = true := by
  cases l <;> rfl

/-- A tail that runs out closes the lane's window (R142). -/
def State.shut (s : State) (l : Lane) : State :=
  s.onAzu fun a => { a with forcing := a.forcing.put l ⟨false, .stopped⟩ }

theorem exec_blankingTailExpiry (h : (s.azu.forcing.get l).tail.isRunning = true) :
    exec (.blankingTailExpiry l.forcingZone) s = .next ((s.shut l).judgeWindow l.forcingZone) := by
  have hwf : (Instr.blankingTailExpiry l.forcingZone).wf = true := by cases l <;> rfl
  show execBlankingTailExpiry l.forcingZone s = _
  simp only [execBlankingTailExpiry, if_pos hwf, State.tailOut, laneOfZone_forcingZone, if_pos h]
  rfl

theorem State.judgeWindow_of_clear (h : (s.azu.zones[z]).deferred = .clear) : s.judgeWindow z = s := by
  simp only [State.judgeWindow, h]

/-- A deferred forcing event is taken when its switch still stands there and dropped otherwise (R143). -/
theorem State.judgeWindow_of_forcing {switch : DrawerSwitch} {closed : Bool}
    (h : (s.azu.zones[l.forcingZone]).deferred = .forcing switch closed) : s.judgeWindow l.forcingZone
      = s.putZone l.forcingZone (if s.switchAt l switch = closed
          then { s.azu.zones[l.forcingZone] with deferred := .clear }.trip true
          else { s.azu.zones[l.forcingZone] with deferred := .clear }) := by
  simp only [State.judgeWindow, State.stillStands, h, laneOfZone_forcingZone, isForcing_forcingZone, decide_eq_true_eq]

theorem State.judgeWindow_of_dropped {switch : DrawerSwitch} {closed : Bool}
    (h : (s.azu.zones[l.forcingZone]).deferred = .forcing switch closed) (hp : s.switchAt l switch ≠ closed) :
    s.judgeWindow l.forcingZone
      = s.setZone l.forcingZone { s.azu.zones[l.forcingZone] with deferred := .clear } := by
  rw [State.judgeWindow_of_forcing h, if_neg hp]
  exact State.putZone_of_marks rfl rfl rfl rfl rfl rfl

theorem State.judgeWindow_of_standing {switch : DrawerSwitch} {closed : Bool}
    (h : (s.azu.zones[l.forcingZone]).deferred = .forcing switch closed) (hp : s.switchAt l switch = closed) :
    s.judgeWindow l.forcingZone = s.putZone l.forcingZone
      (({ s.azu.zones[l.forcingZone] with deferred := .clear } : Zone).trip true) := by
  rw [State.judgeWindow_of_forcing h, if_pos hp]

theorem Zone.trip_marks (w : Zone) (forcing : Bool) : (w.trip forcing).pending = true
    ∧ (w.trip forcing).restoreNeeded = forcing ∧ (w.trip forcing).deferred = w.deferred
    ∧ (w.inForce = true → (w.trip forcing).inForce = true) := by
  cases h : w.pending <;> simp [Zone.trip, Zone.inForce, h]

/-- A forcing zone holds its lane alone (R155). -/
theorem State.takeHold_forcing (s : State) (l : Lane) (already : Bool) :
    s.takeHold l.forcingZone already = s.lockLane l l.forcingZone := by
  cases l <;> rfl

/-- A forcing zone's trip with its window closed leaves the window (R142). -/
theorem State.putZone_forcing (hw : (s.azu.forcing.get l).opened = false)
    (hn : (s.azu.zones[l.forcingZone]).inForce = true → new.inForce = true) :
    (s.putZone l.forcingZone new).azu.forcing = s.azu.forcing := by
  rcases Zone.force_cases hn with h | ⟨h0, h1⟩
  · rw [State.putZone_of_force h]
    split <;> rfl
  · have hazu : (s.joined l.forcingZone new).azu.forcing = s.azu.forcing := by
      rw [(s.joined_frame l.forcingZone new).2.2.2.2.2.2.2.2.2]
      rfl
    obtain ⟨hct, -, hpins, hforcing⟩ := (s.joined l.forcingZone new).lockLane_quiet l l.forcingZone
    have hopen : ((s.joined l.forcingZone new).lockLane l l.forcingZone).openCondition = s.openCondition := by
      rw [← State.openCondition_joined (s := s) (z := l.forcingZone) (new := new) (by cases l <;> rfl)
        (by cases l <;> decide)]
      simp only [State.openCondition, State.zoneInForce, State.grantOpen, hct, hpins, State.lockLane_frame]
    rw [State.putZone_enters h0 h1, State.takeHold_forcing, State.followOpen_of_same hopen]
    have := hforcing (by rw [hazu]; exact hw)
    split
    · exact this.trans hazu
    · exact this.trans hazu

end Sys2Proof.Machine
end

section
/-! PROOF. What a hold on the notes does to custody (R83, R156): the bundle is retired FAILED, the vault is doubted, and
the records of the CAPTURE area stay as they are. -/

open Sys2Proof Sys2Proof.Machine

namespace Sys2Proof.Machine

variable {s t : State} {c c' c'' : Ct} {h k : Handle} {b : Bundle}

/-! ## Generations -/

theorem Ct.Settles.gens (hs : c.Settles c') (hg : c.generationsLegal = true) : c'.generationsLegal = true := by
  induction hs with
  | refl => exact hg
  | trans _ _ ih ih' => exact ih' (ih hg)
  | write => exact Ct.generationsLegal_write hg _ _
  | retire =>
    refine Ct.generationsLegal_retire ?_ _
    exact hg
  | collect => exact Ct.generationsLegal_retire hg _
  | deposit => exact Ct.generationsLegal_create hg _

/-! ## The records of the CAPTURE area -/

/-- A bin or an envelope. -/
def Record.inCapture : Record → Bool
  | .bin _ | .envelope _ => true
  | _ => false

/-- The bins and the envelopes stay as they are. -/
def Ct.Bystands (c c' : Ct) : Prop := ∀ k r, r.inCapture = true → c.find k = some r → c'.find k = some r

theorem Ct.Bystands.refl (c : Ct) : c.Bystands c := fun _ _ _ => id

theorem Ct.Bystands.trans (h : c.Bystands c') (h' : c'.Bystands c'') : c.Bystands c'' :=
  fun k r hr hf => h' k r hr (h k r hr hf)

theorem Ct.bystands_write {x : Record} (hf : c.find h = some x) (hx : x.inCapture = false) (r : Record) :
    c.Bystands (c.write h r) := by
  intro k y hy hk
  rw [Ct.find_write _ hf, if_neg fun he => ?_, hk]
  rw [he, hf] at hk
  cases hk
  rw [hx] at hy
  cases hy

theorem Ct.bystands_retire {x : Record} (hf : c.find h = some x) (hx : x.inCapture = false) :
    c.Bystands (c.retire h) := by
  intro k y hy hk
  rw [Ct.find_retire _ hf, if_neg fun he => ?_, hk]
  rw [he, hf] at hk
  cases hk
  rw [hx] at hy
  cases hy

theorem foldl_bystands {α : Type} (l : List α) {f : State → α → State} (hf : ∀ (s : State) a, s.ct.Bystands (f s a).ct)
    (s : State) : s.ct.Bystands (l.foldl f s).ct := by
  induction l generalizing s with
  | nil => exact .refl _
  | cons a l ih => exact (hf s a).trans (ih _)

theorem State.putStock_bystands (s : State) (h : Handle) (new : Stock) : s.ct.Bystands (s.putStock h new).ct := by
  cases hs : s.ct.stock? h with
  | none => rw [State.putStock_of_none hs]; exact .refl _
  | some old => rw [State.putStock_ct hs]; exact Ct.bystands_write (Ct.stock?_eq_some.mp hs) rfl _

theorem State.tallyStock_bystands (s : State) (h : Handle) (f : Stock → Stock) :
    s.ct.Bystands (s.tallyStock h f).ct := by
  unfold State.tallyStock
  split
  · exact .refl _
  · exact s.putStock_bystands h _

theorem State.retireBundle_bystands (s : State) (h : Handle) (e : Ending) : s.ct.Bystands (s.retireBundle h e).ct := by
  cases hb : s.ct.bundle? h with
  | none => rw [State.retireBundle_of_none hb]; exact .refl _
  | some b =>
    rw [State.retireBundle_of_some hb]
    exact Ct.bystands_retire (c := { s.ct with last := s.ct.last.put b.lane (some (s.outcome h b e)) })
      (Ct.bundle?_eq_some.mp hb) rfl

theorem State.releaseParts_bystands (s : State) (parts : List Part) : s.ct.Bystands (s.releaseParts parts).ct :=
  foldl_bystands parts (fun s p => s.tallyStock_bystands p.stock _) s

theorem State.cancelQueued_bystands (s : State) (h : Handle) : s.ct.Bystands (s.cancelQueued h).ct := by
  cases hb : s.ct.bundle? h with
  | none => rw [State.cancelQueued_of_none hb]; exact .refl _
  | some b =>
    rw [State.cancelQueued_of_some hb]
    have hr : s.ct.Bystands (s.unreserved h b).ct := State.releaseParts_bystands (s.onDpl _) b.parts
    exact hr.trans (State.retireBundle_bystands _ h _)

theorem State.cancelDrawing_bystands (s : State) (h : Handle) : s.ct.Bystands (s.cancelDrawing h).ct := by
  refine foldl_bystands s.dpl.queue (fun s k => ?_) s
  split
  · split
    · exact s.cancelQueued_bystands k
    · exact .refl _
  · exact .refl _

theorem State.doubtStock_bystands (s : State) (h : Handle) (d : DoubtCause) : s.ct.Bystands (s.doubtStock h d).ct := by
  unfold State.doubtStock State.changeStock
  split
  · exact .refl _
  · dsimp only
    split
    · exact (s.putStock_bystands h _).trans (State.cancelDrawing_bystands _ h)
    · exact s.putStock_bystands h _

theorem State.onVault_bystands (s : State) (f : Vault → Vault) : s.ct.Bystands (s.onVault f).ct := by
  unfold State.onVault
  split
  · exact .refl _
  · next d v hv =>
    obtain ⟨⟨j, r⟩, hmem, hr⟩ := List.exists_of_findSome?_eq_some hv
    cases r with
    | vault w =>
      cases hr
      rw [State.onCt_ct]
      cases hf : s.ct.find d with
      | none => rw [Ct.write_of_none _ hf]; exact .refl _
      | some x => exact Ct.bystands_write hf (by rw [← Ct.eq_of_mem_live hmem hf]; rfl) _
    | _ => cases hr

theorem State.failing_bystands (s : State) (b : Bundle) (d : DoubtCause) (vault : Bool) :
    s.ct.Bystands (s.failing b d vault).ct := by
  have hm : s.ct.Bystands (s.moveStacked b.parts Stock.toRejected).ct :=
    foldl_bystands b.parts (fun s p => s.tallyStock_bystands p.stock _) s
  have hl := foldl_bystands s.ntc.uncounted (f := fun s k => s.tallyStock k Stock.chargeLost)
    (fun s k => s.tallyStock_bystands k _) ((s.moveStacked b.parts Stock.toRejected).releaseParts b.parts)
  have hc : s.ct.Bystands (s.charged b).ct :=
    ((hm.trans (State.releaseParts_bystands _ b.parts)).trans hl).trans (State.onVault_bystands _ _)
  have hd : s.ct.Bystands ((s.charged b).doubtPlan b d).ct :=
    hc.trans (foldl_bystands b.parts (fun s p => s.doubtStock_bystands p.stock d) _)
  unfold State.failing
  split
  · exact hd.trans (State.onVault_bystands _ _)
  · exact hd

/-! ## The stop -/

/-- A stop of the note transport, in custody, with a bundle in work (R80, R83). -/
theorem State.stopTransport_ct_of_some (hb : s.currentBundle = some (h, b)) (d : DoubtCause) (r : FailReason) :
    (s.stopTransport d r false).ct = ((s.failing b d false).retireBundle h (.failed r)).ct := by
  simp [State.stopTransport, hb, State.failBundle_eq]

theorem State.stopTransport_ct_of_none (hb : s.currentBundle = none) (d : DoubtCause) (r : FailReason) :
    (s.stopTransport d r false).ct = s.ct := by
  simp [State.stopTransport, hb]

/-- A bundle that was lost in the transport, whatever else is in its lane (R25, R80). -/
structure Ct.Lost (c : Ct) (h : Handle) (b : Bundle) (r : FailReason) : Prop where
  spent : c.Spent h
  last : ∃ q, c.last.get b.lane = some ⟨h, .failed r, b.amount, 0, q⟩
  doubted : ∀ p ∈ b.parts, c.DoubtedAt p.stock

theorem Ct.Lost.of_settles {r : FailReason} (hl : c.Lost h b r) (hs : c.Settles c') (hlast : c'.last = c.last) :
    c'.Lost h b r :=
  ⟨hs.spent hl.spent, by rw [hlast]; exact hl.last, fun p hp => hs.doubtedAt (hl.doubted p hp)⟩

theorem Ct.Lost.hasFailed {r : FailReason} (hl : s.ct.Lost h b r) : s.hasFailed h b r :=
  ⟨hl.spent.find, hl.last, hl.doubted⟩

theorem State.stopTransport_lost (hb : s.currentBundle = some (h, b)) (hq : h ∉ s.dpl.queue) (d : DoubtCause)
    (r : FailReason) : (s.stopTransport d r false).ct.Lost h b r := by
  have hbk : (s.failing b d false).ct.bundle? h = some b :=
    (s.failing_bypasses b d false hq).2.trans (State.currentBundle_eq_some.mp hb).2
  have hr := State.retireBundle_settles (s.failing b d false) h (.failed r)
  rw [State.stopTransport_ct_of_some hb]
  refine ⟨?_, ?_, fun p hp => hr.ct.doubtedAt (s.failing_doubtedAt b d false p hp)⟩
  · rw [State.retireBundle_of_some hbk]
    exact Ct.spent_retire (c := { (s.failing b d false).ct with last := _ }) (Ct.bundle?_eq_some.mp hbk)
  · rw [State.retireBundle_of_some hbk, Ct.retire_last]
    exact ⟨_, PerLane.get_put_same _ _ _⟩

theorem State.stopTransport_custody (s : State) (d : DoubtCause) (r : FailReason) :
    s.ct.Settles (s.stopTransport d r false).ct ∧ s.ct.Bystands (s.stopTransport d r false).ct := by
  cases hb : s.currentBundle with
  | none =>
    rw [State.stopTransport_ct_of_none hb]
    exact ⟨.refl _, .refl _⟩
  | some p =>
    obtain ⟨h, b⟩ := p
    rw [State.stopTransport_ct_of_some hb]
    exact ⟨(s.failing_settles b d false).ct.trans (State.retireBundle_settles _ h _).ct,
      (s.failing_bystands b d false).trans (State.retireBundle_bystands _ h _)⟩

/-- A hold on the notes settles custody and leaves the records of the CAPTURE area (R83, R156). -/
theorem State.holdNotes_custody (s : State) (z : ZoneId) (already : Bool) :
    s.ct.Settles (s.holdNotes z already).ct ∧ s.ct.Bystands (s.holdNotes z already).ct := by
  have hstop : s.ct.Settles (s.noteDoorStop already).ct ∧ s.ct.Bystands (s.noteDoorStop already).ct := by
    unfold State.noteDoorStop
    (repeat' split)
    · exact ⟨.refl _, .refl _⟩
    · exact s.stopTransport_custody _ _
    · exact s.stopTransport_custody _ _
    · exact s.stopTransport_custody _ _
    · exact s.stopTransport_custody _ _
    · exact ⟨.refl _, .refl _⟩
  have hvault (u : State) : u.ct.Settles (u.worsenVault (.doubtful .door)).ct
      ∧ u.ct.Bystands (u.worsenVault (.doubtful .door)).ct := ⟨(u.onVault_settles _).ct, u.onVault_bystands _⟩
  unfold State.holdNotes
  dsimp only
  split
  · split
    · exact ⟨hstop.1.trans (hvault _).1, hstop.2.trans (hvault _).2⟩
    · exact hvault s
  · split
    · exact hstop
    · exact ⟨.refl _, .refl _⟩

/-! ## What a hold does to the note transport -/

theorem State.stopTransport_run (s : State) (d : DoubtCause) (r : FailReason) (vault : Bool) :
    (s.stopTransport d r vault).gmu.note.run = false := by
  have hr (u : State) : (u.runEnd .note).gmu.note.run = false := by
    unfold State.runEnd
    split
    · rfl
    · next h => simpa [Gmu.get] using h
  have hh (u : State) : u.haltNote.gmu.note.run = false := by simp [State.haltNote, hr]
  unfold State.stopTransport
  simp [hh]

/-- The note transport is at work: it measures, waits or dumps, or a leader runs or could (R83). -/
def State.noteAtWork (s : State) : Prop :=
  s.ntc.phase ∈ [NoteState.picking, .stackedWait, .diverting]
    ∨ (s.ntc.phase = .leader ∧ (s.ntc.leader.started = true ∨ s.ntc.current ≠ none
      ∨ (s.ct.holdDispenser = 0 ∧ s.ct.holdReject = 0)))

theorem State.noteAtWork.phase (hw : s.noteAtWork) :
    s.ntc.phase ∈ [NoteState.leader, .picking, .stackedWait, .diverting] := by
  rcases hw with hp | ⟨hp, -⟩
  · exact List.mem_cons_of_mem _ hp
  · rw [hp]
    exact List.mem_cons_self

/-- A transport at work is no restart leader that the holds keep waiting (R65, R155). -/
theorem State.noteAtWork.begun (hw : s.noteAtWork) (hh : s.notesHeld = true) : s.ntc.restartWaits = false := by
  rcases hw with hp | ⟨hp, hl | hc | ⟨hd, hr⟩⟩
  · simp only [List.mem_cons, List.not_mem_nil, or_false] at hp
    rcases hp with hp | hp | hp <;> simp [Ntc.restartWaits, hp]
  · simp [Ntc.restartWaits, hl]
  · simp [Ntc.restartWaits, Option.isNone_eq_false_iff.mpr (Option.isSome_iff_ne_none.mpr hc)]
  · simp [State.notesHeld, hd, hr] at hh

theorem State.noteDoorStop_stops {already : Bool}
    (hp : s.ntc.phase ∈ [NoteState.leader, .picking, .stackedWait, .diverting])
    (ha : already = true → s.ntc.restartWaits = false) :
      s.noteDoorStop already = s.stopTransport .door .door false := by
  have hc : (already && s.ntc.restartWaits) = false := by
    cases already with
    | false => rfl
    | true => exact ha rfl
  simp only [List.mem_cons, List.not_mem_nil, or_false] at hp
  rcases hp with hp | hp | hp | hp <;> simp [State.noteDoorStop, hc, hp]

theorem State.noteDoorStop_of_rest (hp : s.ntc.phase ∈ [NoteState.idle, .routing, .jammed]) (already : Bool) :
    s.noteDoorStop already = s := by
  simp only [List.mem_cons, List.not_mem_nil, or_false] at hp
  rcases hp with hp | hp | hp <;> simp [State.noteDoorStop, hp]

end Sys2Proof.Machine
end

section
/-! PROOF. What a hold on the CAPTURE area does (R111, R156): the bins and their envelopes are doubted once, and the
envelope on its way is returned, dropped or left. -/

open Sys2Proof Sys2Proof.Machine

namespace Sys2Proof.Machine

variable {s : State} {c : Ct} {h k : Handle} {x : WallFlag} {e : CurrentEnv}

/-! ## The records -/

theorem Ct.generationsLegal_mapRecords (hg : c.generationsLegal = true) (f : Record → Record) :
    (c.mapRecords f).generationsLegal = true := by
  rw [Ct.generationsLegal_iff] at hg ⊢
  intro sl hsl
  simp only [Ct.mapRecords, Vector.toList_map, List.mem_map] at hsl
  obtain ⟨sl, hmem, rfl⟩ := hsl
  exact hg sl hmem

theorem Ct.live_mapRecords (c : Ct) (f : Record → Record) :
    (c.mapRecords f).live = c.live.map fun p => (p.1, f p.2) := by
  simp only [Ct.live, Ct.mapRecords, Vector.toList_map, List.zipIdx_map, List.filterMap_map, List.map_filterMap]
  refine List.filterMap_congr fun p _ => ?_
  cases hr : p.1.record <;> simp [hr]

theorem Ct.vault?_mapRecords {f : Record → Record} (hf : ∀ r, (f r).vault? = r.vault?) :
    (c.mapRecords f).vault? = c.vault? := by
  rw [Ct.vault?_eq, Ct.vault?_eq, Ct.live_mapRecords, List.findSome?_map]
  congr 1
  funext p
  simp [hf]

theorem Record.captureDoubt_vault? (r : Record) : r.captureDoubt.vault? = r.vault? := by
  cases r with
  | envelope v =>
    unfold Record.captureDoubt
    dsimp only
    split <;> rfl
  | _ => rfl

theorem Record.captureDoubt_stock? (r : Record) : r.captureDoubt.stock? = r.stock? := by
  cases r with
  | envelope v =>
    unfold Record.captureDoubt
    dsimp only
    split <;> rfl
  | _ => rfl

theorem Ct.stock?_captureDoubt (c : Ct) (h : Handle) : (c.mapRecords Record.captureDoubt).stock? h = c.stock? h := by
  rw [Ct.stock?_eq, Ct.stock?_eq, Ct.find_mapRecords]
  cases c.find h <;> simp [Record.captureDoubt_stock?]

theorem Record.captureDoubt_envelope (v : Envelope) : Record.captureDoubt (.envelope v) = .envelope
    (if v.place = .collected then v else { v with quality := v.quality.worse (.doubtful .door) }) := by
  unfold Record.captureDoubt
  cases hp : v.place <;> simp [hp]

/-- Writing what a handle names changes nothing. -/
theorem Ct.write_self {r : Record} (hf : c.find h = some r) : c.write h r = c := by
  obtain ⟨sl, hsl, hg, -, hr⟩ := (c.find_eq_some h r).mp hf
  have hs : c.slots.setIfInBounds (handleSlot h) ⟨handleGen h, some r⟩ = c.slots := by
    ext i hi : 1
    rw [Vector.getElem_setIfInBounds]
    split
    · next he =>
      subst he
      rw [Vector.getElem?_eq_getElem hi] at hsl
      rw [Option.some.inj hsl, ← hg, ← hr]
    · rfl
  unfold Ct.write
  rw [hf]
  dsimp only
  rw [hs]

/-! ## Doubts that stand already -/

/-- Every live bin is DOUBTFUL. -/
def Ct.BinsDoubted (c : Ct) : Prop := ∀ h v, c.find h = some (.bin v) → v.quality.isDoubtful = true

theorem Ct.binsDoubted_captureDoubt (c : Ct) : (c.mapRecords Record.captureDoubt).BinsDoubted := by
  intro h v hv
  rw [Ct.find_mapRecords] at hv
  cases hf : c.find h with
  | none => rw [hf] at hv; cases hv
  | some r =>
    rw [hf, Option.map_some] at hv
    have hr := Option.some.inj hv
    cases r with
    | bin w =>
      cases hr
      exact Quality.isDoubtful_worse_doubtful _ _
    | envelope w => rw [Record.captureDoubt_envelope] at hr; cases hr
    | _ => cases hr

theorem Quality.worse_of_doubtful {q : Quality} (h : q.isDoubtful = true) (d : DoubtCause) :
    q.worse (.doubtful d) = q := by
  cases q with
  | doubtful => rfl
  | _ => cases h

/-- A DOUBTFUL bin keeps its first cause (R14). -/
theorem State.doubtActiveBin_of_doubted (hg : s.ct.generationsLegal = true) (hd : s.ct.BinsDoubted) (d : DoubtCause) :
    (s.doubtActiveBin d).ct = s.ct := by
  unfold State.doubtActiveBin State.doubtBin State.onBin
  split
  · rfl
  · split
    · rfl
    · next h v hv =>
      have hf := Ct.find_binAt hg hv
      dsimp only [State.onCt_ct]
      rw [Quality.worse_of_doubtful (hd h v hf)]
      exact Ct.write_self hf

theorem State.dropLeader_ct (hg : s.ct.generationsLegal = true) (hd : s.ct.BinsDoubted) : s.dropLeader.ct = s.ct := by
  have hj : (s.haltEnv.doubtActiveBin .jam).ct = s.ct := by
    rw [State.doubtActiveBin_of_doubted (by simpa using hg) (by simpa using hd)]
    simp
  unfold State.dropLeader State.finishEnvClear
  split
  · split
    · simpa using hj
    · simp
  · dsimp only
    split <;> simp [State.backToOverdue, State.backToWaiting]

theorem State.reverseEnv_ct (s : State) : s.reverseEnv.ct = s.ct := by
  unfold State.reverseEnv State.startReverse State.completeReturn
  dsimp only
  (repeat' split) <;> simp

theorem State.recheckDestination_ct (hg : s.ct.generationsLegal = true) (hd : s.ct.BinsDoubted) (held : Bool) :
    (s.recheckDestination held).ct = s.ct := by
  unfold State.recheckDestination
  (repeat' split) <;> simp [State.dropLeader_ct hg hd, State.reverseEnv_ct, State.onCurrent]

/-- A CAPTURE hold doubts the bins and the envelopes in them, and nothing else of custody (R156). -/
theorem State.holdEnvelopes_ct (hg : s.ct.generationsLegal = true) (z : ZoneId) : (s.holdEnvelopes z).ct
    = if holdsCapture z then s.ct.mapRecords Record.captureDoubt else s.ct := by
  unfold State.holdEnvelopes
  split
  · have hg' := Ct.generationsLegal_mapRecords hg Record.captureDoubt
    exact State.recheckDestination_ct (s := s.onCt fun ct => ct.mapRecords Record.captureDoubt) hg'
      s.ct.binsDoubted_captureDoubt true
  · rfl

/-! ## What the envelope transport leaves to the note transport -/

theorem State.arbitrate_note (s : State) : s.arbitrate.gmu.note = s.gmu.note := by
  unfold State.arbitrate State.takeThroat State.enterEnvLeader State.startEnvLeader State.startEnvMotor
  dsimp only
  (repeat' split) <;> simp [State.onThroat, State.runStart, Gmu.put]

theorem State.followOpen_note (s : State) (before : Bool) : (s.followOpen before).gmu.note = s.gmu.note := by
  unfold State.followOpen
  (repeat' split) <;> simp [State.arbitrate_note]

theorem State.haltEnv_note (s : State) : s.haltEnv.gmu.note = s.gmu.note := by
  simp only [State.haltEnv, State.onEcc_gmu, State.runEnd]
  split <;> simp [Gmu.put]

theorem State.dropLeader_note (s : State) : s.dropLeader.gmu.note = s.gmu.note := by
  unfold State.dropLeader State.finishEnvClear
  dsimp only
  (repeat' split) <;>
    simp [State.arbitrate_note, State.followOpen_note, State.haltEnv_note, State.backToOverdue, State.backToWaiting]

theorem State.reverseEnv_note (s : State) : s.reverseEnv.gmu.note = s.gmu.note := by
  unfold State.reverseEnv State.startReverse State.completeReturn
  dsimp only
  (repeat' split) <;> simp [State.arbitrate_note, State.haltEnv_note, State.setMeasuring, Gmu.put]

theorem State.recheckDestination_note (s : State) (held : Bool) :
    (s.recheckDestination held).gmu.note = s.gmu.note := by
  unfold State.recheckDestination
  (repeat' split) <;> simp [State.dropLeader_note, State.reverseEnv_note, State.onCurrent]

theorem State.holdEnvelopes_note (s : State) (z : ZoneId) : (s.holdEnvelopes z).gmu.note = s.gmu.note := by
  unfold State.holdEnvelopes
  split <;> simp [State.recheckDestination_note]

theorem State.reverseEnv_wallFlag (s : State) (x : WallFlag) : s.reverseEnv.wallFlag x = s.wallFlag x := by
  unfold State.reverseEnv State.startReverse State.completeReturn
  dsimp only
  (repeat' split) <;> simp <;> simp [State.wallFlag]

theorem State.recheckDestination_raised (h : s.wallFlag x = true) (held : Bool) :
    (s.recheckDestination held).wallFlag x = true := by
  unfold State.recheckDestination
  (repeat' split) <;> simp [h, State.dropLeader_raised h, State.reverseEnv_wallFlag, State.onCurrent]

theorem State.holdEnvelopes_raised (h : s.wallFlag x = true) (z : ZoneId) : (s.holdEnvelopes z).wallFlag x = true := by
  unfold State.holdEnvelopes
  split
  · exact State.recheckDestination_raised (by simpa using h) true
  · exact h

end Sys2Proof.Machine
end

section
/-! PROOF. The envelope on its way under a CAPTURE hold, the pause of Z12, and what brings a zone into force (R82, R111,
R119, R139, R144, R146). -/

open Sys2Proof Sys2Proof.Machine

namespace Sys2Proof.Machine

variable {s t : State} {z : ZoneId} {new : Zone} {x : WallFlag} {e : CurrentEnv}

/-! ## The envelope on its way -/

/-- Where the open condition does not hold, an OPEN throat closes and every other stays as it is (R106). -/
theorem State.followOpen_shut (h : s.openCondition = false) (before : Bool) : ∃ y,
    s.followOpen before = (s.onEcc fun e => { e with throats := y })
      ∧ ∀ u, (s.ecc.throats.get u).state ≠ .opened → y.get u = s.ecc.throats.get u := by
  have hoffer (u : ThroatUnit) (here : Bool) (hu : u.state ≠ .opened) : u.offer false here = u := by
    unfold ThroatUnit.offer
    cases hs : u.state <;> simp_all
  unfold State.followOpen
  rw [h]
  split
  · exact ⟨s.ecc.throats, rfl, fun _ _ => rfl⟩
  · refine ⟨(s.ecc.throats.put .t1 (s.ecc.throats.t1.offer false s.pins.throat.t1)).put .t2
      (s.ecc.throats.t2.offer false s.pins.throat.t2), ?_, fun u hu => ?_⟩
    · rw [if_neg Bool.false_ne_true, State.examineThroats, h]
      rfl
    · cases u
      · exact hoffer _ _ hu
      · exact hoffer _ _ hu

/-- The transport reverses, the throat not reached yet (R115). -/
theorem State.startReverse_of_away (hc : s.ecc.current = some e) (ht : s.pins.throat.get e.throat = false) :
    s.startReverse.ecc.state = .reversing ∧ s.startReverse.ecc.feed = .reverse ∧ s.startReverse.ecc.motor = true
      ∧ s.startReverse.ecc.returnTimer = .running 3000 ∧ s.startReverse.ecc.current = some e
      ∧ (s.startReverse.ecc.throats.get e.throat).state = .returning := by
  cases hm : s.ecc.motor <;>
    simp [State.startReverse, hc, ht, hm, State.setMeasuring, State.rerunEnvMotor, State.onThroat, Config.returnLimit]

/-- With the CAPTURE area held there is no destination (R111). -/
theorem State.destination_of_held (hh : s.ct.holdCapture ≠ 0) (e : CurrentEnv) : s.destination e = none := by
  have ha (b : BinId) (only : Bool) : s.binAvailable b only = false := by
    unfold State.binAvailable
    split
    · simpa using fun _ => hh
    · rfl
  have hr (r : BinRole) : s.binWithRole r = none := by simp [State.binWithRole, ha]
  have hc : s.chooseBin e.recapture = none := by simp [State.chooseBin, hr]
  unfold State.destination
  split <;> simp [ha, hc]

/-- A CAPTURE hold returns an envelope that is measured or on its way to the gate (R111). -/
theorem State.recheckDestination_returns (hh : s.ct.holdCapture ≠ 0) (hc : s.ecc.current = some e)
    (hw : s.pins.warning = false) (hst : s.ecc.state = .measuring ∨ (s.ecc.state = .forward ∧ e.number = none)) :
    s.recheckDestination true = s.startReverse := by
  have hr : s.recheckDestination true = s.reverseEnv := by
    rcases hst with hst | ⟨hst, hn⟩
    · simp [State.recheckDestination, Ecc.phase, hst, hc]
    · simp [State.recheckDestination, Ecc.phase, hst, hc, hn, State.destination_of_held hh]
  have hp : s.ecc.state ≠ .paused := by rcases hst with hst | ⟨hst, -⟩ <;> simp [hst]
  rw [hr, State.reverseEnv, if_neg hp, hw]
  rfl

theorem State.recheckDestination_drops (hc : s.ecc.current = some e) (hst : s.ecc.state = .leader) :
    s.recheckDestination true = s.dropLeader := by
  simp [State.recheckDestination, Ecc.phase, Ecc.restartWaits, hst, hc]

/-- A leader dropped with its throat waiting, or overdue again (R111). -/
theorem State.dropLeader_of_some (hc : s.ecc.current = some e) :
    s.dropLeader.ecc.state = .idle ∧ s.dropLeader.ecc.current = none ∧ s.dropLeader.ecc.inFlight = false
      ∧ s.dropLeader.ecc.motor = false ∧ s.dropLeader.gmu.envelope.run = false
      ∧ (s.dropLeader.ecc.throats.get e.throat).state = (if e.recapture then .returnWait else .waiting)
      ∧ (e.recapture = true → (s.dropLeader.ecc.throats.get e.throat).overdue = true)
      ∧ (s.dropLeader.ecc.throats.get e.throat).kept = (s.ecc.throats.get e.throat).kept := by
  have hrun : s.haltEnv.gmu.envelope.run = false := by
    have hr (u : State) : (u.runEnd .envelope).gmu.envelope.run = false := by
      unfold State.runEnd
      split
      · rfl
      · next h => simpa [Gmu.get] using h
    simp [State.haltEnv, hr]
  have hthroats : s.haltEnv.ecc.throats = s.ecc.throats := by simp [State.haltEnv, State.stopEnvMotor]
  cases hr : e.recapture <;>
    simp [State.dropLeader, hc, hr, State.backToOverdue, State.backToWaiting, State.onThroat, State.enterEnvIdle, hrun,
      hthroats]

/-- An envelope past the gate goes on (R111). -/
theorem State.recheckDestination_leaves (hc : s.ecc.current = some e) (hn : e.number.isSome = true)
    (hl : s.ecc.phase ≠ .leader) (hm : s.ecc.phase ≠ .measuring) (held : Bool) : s.recheckDestination held = s := by
  unfold State.recheckDestination
  rw [hc]
  cases hp : s.ecc.phase <;> simp_all

/-! ## The pause -/

theorem State.pauseNote_ntc (s : State) : s.pauseNote.ntc
    = if s.ntc.state ∈ [NoteState.leader, .picking, .stackedWait, .diverting] then
        { s.ntc with
          state := .paused, saved := some s.ntc.state, motor := false, dump := false
          stallTimer := s.ntc.stallTimer.freeze, pickTimer := s.ntc.pickTimer.freeze
          exitTimer := s.ntc.exitTimer.freeze, waitTimer := s.ntc.waitTimer.freeze
          dumpTimer := s.ntc.dumpTimer.freeze }
      else s.ntc := by
  unfold State.pauseNote
  cases h : s.ntc.state <;> simp [State.suspendNote, h]

theorem State.pauseEnv_ecc (s : State) : s.pauseEnv.ecc
    = if s.ecc.state ∈ [EnvState.leader, .measuring, .forward, .reversing, .recapture] then
        { s.ecc with
          state := .paused, saved := some s.ecc.state, motor := false, feed := .stopped
          stallTimer := s.ecc.stallTimer.freeze, intakeTimer := s.ecc.intakeTimer.freeze
          forwardTimer := s.ecc.forwardTimer.freeze, returnTimer := s.ecc.returnTimer.freeze
          recaptureTimer := s.ecc.recaptureTimer.freeze }
      else s.ecc := by
  unfold State.pauseEnv
  cases h : s.ecc.state <;> simp [State.suspendEnv, h]

/-- The two transports pause, and nothing else but the vibration zone's window follows (R82, R119). -/
theorem State.pause_frame (s : State) :
    s.pauseNote.pauseEnv.ct = s.ct ∧ s.pauseNote.pauseEnv.ldc = s.ldc ∧ s.pauseNote.pauseEnv.gmu = s.gmu
      ∧ s.pauseNote.pauseEnv.pins = s.pins ∧ s.pauseNote.pauseEnv.ntc = s.pauseNote.ntc
      ∧ s.pauseNote.pauseEnv.ecc = s.pauseEnv.ecc ∧ s.pauseNote.pauseEnv.set = s.set
      ∧ s.pauseNote.pauseEnv.azu.zones = s.azu.zones ∧ s.pauseNote.pauseEnv.azu.grants = s.azu.grants := by
  have hecc (u v : State) (h : u.ecc = v.ecc) : u.pauseEnv.ecc = v.pauseEnv.ecc := by
    rw [State.pauseEnv_ecc, State.pauseEnv_ecc, h]
  exact ⟨by simp, by simp, by simp, by simp, by simp, hecc _ _ (by simp), by simp, by simp, by simp⟩

theorem State.takeHold_vibration (s : State) (already : Bool) : s.takeHold 12 already = s.pauseNote.pauseEnv := rfl

theorem State.openCondition_pause (s : State) : s.pauseNote.pauseEnv.openCondition = s.openCondition := by
  obtain ⟨hct, -, -, hpins, -, hecc, hset, hzones, hgrants⟩ := s.pause_frame
  have hj : (s.pauseEnv.ecc.state != .jammed) = (s.ecc.state != .jammed) := by
    rw [State.pauseEnv_ecc]
    cases h : s.ecc.state <;> simp [h] <;> decide
  simp only [State.openCondition, State.zoneInForce, State.grantOpen, hct, hpins, hecc, hset, hzones, hgrants, hj]

/-! ## What brings a zone into force -/

theorem zonesOf_zoneBit (z : ZoneId) : zonesOf (zoneBit z) = [z] := by
  revert z
  decide

theorem State.enableZones_one (hz : isHoldup z = false) :
    s.enableZones (zoneBit z) true = s.putZone z { s.azu.zones[z] with enable := true } := by
  simp only [State.enableZones, zonesOf_zoneBit, State.putZone]
  rw [show [z].filter (fun z => !isHoldup z) = [z] by simp [hz]]
  rfl

/-- A zone as its hold has taken effect and the throats have followed (R155). -/
def State.broughtIn (s : State) (z : ZoneId) (new : Zone) : State :=
  ((s.joined z new).takeHold z s.notesHeld).followOpen s.openCondition

/-- What is left after that: flags and a response. -/
def State.Reported (s t : State) : Prop :=
  t = { s with slp := t.slp } ∧ (s.wallFlag .transportJam = true → t.wallFlag .transportJam = true)

theorem State.Reported.respond {u : State} (h : s.Reported u) (code : Nat) (r : Reply) :
    s.Reported (u.respond code r) := by
  obtain ⟨heq, hflag⟩ := h
  refine ⟨?_, hflag⟩
  conv_lhs => rw [heq]
  rfl

theorem State.putZone_reported (h0 : (s.azu.zones[z]).inForce = false) (h1 : new.inForce = true) :
    (s.broughtIn z new).Reported (s.putZone z new) := by
  rw [State.putZone_enters h0 h1]
  split
  · exact ⟨rfl, fun h => State.setWallFlag_raised h _⟩
  · exact ⟨rfl, id⟩

/-- Both ways of coming into force are one change of one zone (R139, R146). -/
theorem State.bringsIntoForce_exec {c : Instr} (h : s.bringsIntoForce z c) :
    ∃ new t, exec c s = .next t ∧ (s.broughtIn z new).Reported t := by
  obtain ⟨hm, ⟨rfl, hz, hf, hc, hb, he, hp⟩ | ⟨auth, op, r, rfl, ha, hh, he, hp⟩⟩ := h
  · have hwf : (Instr.loopClassChange z .tripped).wf = true := by
      have hch : ∀ z : ZoneId, isForcing z = false → (Instr.loopClassChange z .tripped).wf = true := by decide
      exact hch z hf
    obtain ⟨-, -, hen, hmode, -⟩ := (s.azu.zones[z]).changeClass_keeps .tripped (s.blanked z)
    refine ⟨_, _, exec_loopClassChange hwf hz hc, State.putZone_reported (by simp only [Zone.inForce, hp]; rfl) ?_⟩
    have hpend := (s.azu.zones[z]).changeClass_tripped.1
    rw [← hb] at hpend
    simp only [Zone.inForce, hen, hmode, hpend, he, hm]
    rfl
  · have hexec : exec (.setZoneEnable auth op (zoneBit z)) s
        = .next ((s.enableZones (zoneBit z) true).respond 0x61
          (.ok (.enables (s.enableZones (zoneBit z) true).azu.enableMask))) := by
      show Host.Outcome.next (s.inTurn _ (s.request 0x61 auth op (some (zoneBit z)) (State.enableOwner true))) = _
      rw [State.inTurn_of_free ha.1, State.request_of_admits ha rfl]
      rfl
    have hrep : (s.broughtIn z { s.azu.zones[z] with enable := true }).Reported (s.enableZones (zoneBit z) true) := by
      rw [State.enableZones_one hh]
      refine State.putZone_reported ?_ ?_
      · simp only [Zone.inForce, he, Bool.and_false, Bool.false_and]
      · simp only [Zone.inForce, hp, hm]
        rfl
    exact ⟨_, _, hexec, hrep.respond _ _⟩

end Sys2Proof.Machine
end

section
/-! PROOF. The scanner, the windows and what brings a zone into force (O58): the hold's effects one after the other, on
the lanes, the notes and the envelopes (R83, R111, R155, R156). -/

open Sys2Proof Sys2Proof.Machine

namespace Sys2Proof.Machine

variable {s t : State} {z : ZoneId} {new : Zone} {x : WallFlag} {e : CurrentEnv} {h k : Handle} {b : Bundle}

/-! ## The lanes and the notes -/

/-- The locks of a zone that comes into force, and what its hold does to the notes (R83, R155). -/
def State.notedDoor (s : State) (z : ZoneId) (new : Zone) : State :=
  ((s.joined z new).holdLanes z).holdNotes z s.notesHeld

theorem State.joinedLanes_frame (s : State) (z : ZoneId) (new : Zone) :
    ((s.joined z new).holdLanes z).ct = s.ct.addHold z s.fitted ∧ ((s.joined z new).holdLanes z).ntc = s.ntc
      ∧ ((s.joined z new).holdLanes z).pins = s.pins ∧ ((s.joined z new).holdLanes z).ecc = s.ecc
      ∧ ((s.joined z new).holdLanes z).dpl.queue = s.dpl.queue := by
  obtain ⟨hct, hntc, -, -, hecc, -, -, hpins, hq, -⟩ := s.joined_frame z new
  obtain ⟨hct', hntc', hpins'⟩ := (s.joined z new).holdLanes_quiet z
  exact ⟨hct'.trans hct, hntc'.trans hntc, hpins'.trans hpins, by simpa using hecc, by simpa using hq⟩

theorem State.notedDoor_frame (s : State) (z : ZoneId) (new : Zone) :
    (s.notedDoor z new).ecc = s.ecc ∧ (s.notedDoor z new).pins = s.pins
      ∧ (s.notedDoor z new).ct.holdCapture = (s.ct.addHold z s.fitted).holdCapture := by
  obtain ⟨hct, -, hpins, hecc, -⟩ := s.joinedLanes_frame z new
  have hnotes (t : State) : (t.holdNotes z s.notesHeld).ecc = t.ecc ∧ (t.holdNotes z s.notesHeld).pins = t.pins
      ∧ (t.holdNotes z s.notesHeld).ct.holdCapture = t.ct.holdCapture := ⟨by simp, by simp, by simp⟩
  obtain ⟨he, hp, hh⟩ := hnotes ((s.joined z new).holdLanes z)
  exact ⟨he.trans hecc, hp.trans hpins, hh.trans (congrArg _ hct)⟩

theorem State.notedDoor_gens (hg : s.ct.generationsLegal = true) : (s.notedDoor z new).ct.generationsLegal = true :=
  (State.holdNotes_custody _ z s.notesHeld).1.gens (by rw [(s.joinedLanes_frame z new).1]; exact hg)

theorem State.notedDoor_bystands (s : State) (z : ZoneId) (new : Zone) : s.ct.Bystands (s.notedDoor z new).ct := by
  have hb := (State.holdNotes_custody ((s.joined z new).holdLanes z) z s.notesHeld).2
  rw [(s.joinedLanes_frame z new).1] at hb
  exact fun k r hr hf => hb k r hr hf

/-- A hold on the notes is the stop of their transport, and a doubt of the vault when the REJECT area is held (R83). -/
theorem State.holdNotes_eq (hz : holdsDispenser z = true ∨ holdsReject z = true) (already : Bool) :
    s.holdNotes z already = if holdsReject z then (s.noteDoorStop already).worsenVault (.doubtful .door)
      else s.noteDoorStop already := by
  have hc : (holdsDispenser z || holdsReject z) = true := by simpa using hz
  simp only [State.holdNotes, hc, if_true]

theorem State.notedDoor_of_work (hz : holdsDispenser z = true ∨ holdsReject z = true) (hw : s.noteAtWork) :
    (s.notedDoor z new).ntc.jammedEmpty ∧ (s.notedDoor z new).wallFlag .transportJam = true
      ∧ (s.notedDoor z new).gmu.note.run = false
      ∧ ∀ h b, s.currentBundle = some (h, b) → h ∉ s.dpl.queue → (s.notedDoor z new).ct.Lost h b .door := by
  obtain ⟨hct, hntc, -, -, hq⟩ := s.joinedLanes_frame z new
  let locked := (s.joined z new).holdLanes z
  have hstop : locked.noteDoorStop s.notesHeld = locked.stopTransport .door .door false :=
    State.noteDoorStop_stops (by rw [hntc]; exact hw.phase) fun hh => by rw [hntc]; exact hw.begun hh
  obtain ⟨hjam, hflag⟩ := locked.stopTransport_jammed .door .door false
  have hrun := locked.stopTransport_run .door .door false
  have hlost (h : Handle) (b : Bundle) (hb : s.currentBundle = some (h, b)) (hn : h ∉ s.dpl.queue) :
      (locked.stopTransport .door .door false).ct.Lost h b .door := by
    obtain ⟨hcur, hbk⟩ := State.currentBundle_eq_some.mp hb
    exact State.stopTransport_lost (State.currentBundle_eq_some.mpr ⟨hntc ▸ hcur, by rw [hct]; exact hbk⟩)
      (by rw [hq]; exact hn) .door .door
  rw [State.notedDoor, State.holdNotes_eq hz, hstop]
  split
  · refine ⟨by simpa [State.worsenVault] using hjam, by simpa [State.wallFlag, State.worsenVault] using hflag,
      by simpa [State.worsenVault] using hrun, fun h b hb hn => ?_⟩
    exact (hlost h b hb hn).of_settles (State.onVault_settles _ _).ct (by simp [State.worsenVault])
  · exact ⟨hjam, hflag, hrun, hlost⟩

theorem State.notedDoor_of_rest (hz : holdsDispenser z = true ∨ holdsReject z = true)
    (hp : s.ntc.phase ∈ [NoteState.idle, .routing, .jammed]) : (s.notedDoor z new).ntc = s.ntc := by
  have hntc := (s.joinedLanes_frame z new).2.1
  rw [State.notedDoor, State.holdNotes_eq hz, State.noteDoorStop_of_rest (by rw [hntc]; exact hp)]
  split
  · simpa [State.worsenVault] using hntc
  · exact hntc

theorem State.notedDoor_vaultDoubtful (hz : holdsReject z = true) (hg : s.ct.generationsLegal = true) :
    (s.notedDoor z new).vaultDoubtful := by
  have hstop := State.holdNotes_custody (z := 8) ((s.joined z new).holdLanes z) s.notesHeld
  rw [State.notedDoor, State.holdNotes_eq (.inr hz), if_pos hz]
  refine State.worsenVault_vaultDoubtful (hstop.1.gens ?_) .door
  rw [(s.joinedLanes_frame z new).1]
  exact hg

/-! ## The envelopes -/

theorem ne_vibration (hz : holdsDispenser z = true ∨ holdsReject z = true ∨ holdsCapture z = true) : z.val ≠ 12 := by
  intro h
  simp [holdsDispenser, holdsReject, holdsCapture, h] at hz

theorem State.takeHold_of_areas (hz : z.val ≠ 12) : (s.joined z new).takeHold z s.notesHeld
    = (s.notedDoor z new).holdEnvelopes z := if_neg hz

/-- In custody, what comes of a zone in force is the notes' part and the CAPTURE area's doubts (R156). -/
theorem State.broughtIn_ct (hz : z.val ≠ 12) (hg : s.ct.generationsLegal = true) : (s.broughtIn z new).ct
    = if holdsCapture z then (s.notedDoor z new).ct.mapRecords Record.captureDoubt else (s.notedDoor z new).ct := by
  rw [State.broughtIn, State.followOpen_ct, State.takeHold_of_areas hz, State.holdEnvelopes_ct
    (State.notedDoor_gens hg)]

theorem State.broughtIn_note (hz : z.val ≠ 12) : (s.broughtIn z new).ntc = (s.notedDoor z new).ntc
    ∧ (s.broughtIn z new).gmu.note = (s.notedDoor z new).gmu.note
    ∧ ((s.notedDoor z new).wallFlag x = true → (s.broughtIn z new).wallFlag x = true) := by
  rw [State.broughtIn, State.takeHold_of_areas hz, State.followOpen_wallFlag, State.followOpen_note,
    State.holdEnvelopes_note]
  exact ⟨by simp, rfl, fun h => State.holdEnvelopes_raised h z⟩

theorem State.broughtIn_failed (hz : z.val ≠ 12) (hg : s.ct.generationsLegal = true) {r : FailReason}
    (hl : (s.notedDoor z new).ct.Lost h b r) : (s.broughtIn z new).hasFailed h b r := by
  obtain ⟨hgone, hlast, hdoubt⟩ := hl.hasFailed
  have hct := State.broughtIn_ct (new := new) hz hg
  unfold State.hasFailed
  rw [hct]
  split
  · refine ⟨by rw [Ct.find_mapRecords, hgone]; rfl, hlast, fun p hp st hst => hdoubt p hp st ?_⟩
    rwa [Ct.stock?_captureDoubt] at hst
  · exact ⟨hgone, hlast, hdoubt⟩

theorem State.broughtIn_vaultDoubtful (hz : holdsReject z = true) (hg : s.ct.generationsLegal = true) :
    (s.broughtIn z new).vaultDoubtful := by
  have hd := State.notedDoor_vaultDoubtful (new := new) hz hg
  have hct := State.broughtIn_ct (new := new) (ne_vibration (.inr (.inl hz))) hg
  have hv : (s.broughtIn z new).ct.vault? = (s.notedDoor z new).ct.vault? := by
    rw [hct]
    split
    · exact Ct.vault?_mapRecords Record.captureDoubt_vault?
    · rfl
  intro d v hvault
  exact hd d v (hv ▸ hvault)

theorem State.broughtIn_record (hz : holdsCapture z = true) (hg : s.ct.generationsLegal = true) {r : Record}
    (hr : r.inCapture = true) (hf : s.ct.find k = some r) : (s.broughtIn z new).ct.find k = some r.captureDoubt := by
  rw [State.broughtIn_ct (ne_vibration (.inr (.inr hz))) hg, if_pos hz, Ct.find_mapRecords,
    s.notedDoor_bystands z new k r hr hf]
  rfl

/-- The records of the CAPTURE area as a hold finds them: doubted, and the area held (R156). -/
def State.doubtedEnvelopes (s : State) (z : ZoneId) (new : Zone) : State :=
  (s.notedDoor z new).onCt fun ct => ct.mapRecords Record.captureDoubt

theorem State.doubtedEnvelopes_frame (hz : holdsCapture z = true) : (s.doubtedEnvelopes z new).ecc = s.ecc
    ∧ (s.doubtedEnvelopes z new).pins = s.pins ∧ (s.doubtedEnvelopes z new).ct.holdCapture ≠ 0 := by
  obtain ⟨hecc, hpins, hc⟩ := s.notedDoor_frame z new
  refine ⟨hecc, hpins, ?_⟩
  have hh : (s.doubtedEnvelopes z new).ct.holdCapture = (s.notedDoor z new).ct.holdCapture := by
    simp [State.doubtedEnvelopes]
  rw [hh, hc]
  simp only [Ct.addHold, hz]
  exact addZone_ne_zero _ z

/-- With the CAPTURE area held the throats close, and the envelope transport stands as the hold's check of the
destination leaves it (R106, R111). -/
theorem State.broughtIn_envelope (hz : holdsCapture z = true) : ∃ y,
    (s.broughtIn z new).ecc = { ((s.doubtedEnvelopes z new).recheckDestination true).ecc with throats := y }
      ∧ (s.broughtIn z new).gmu = ((s.doubtedEnvelopes z new).recheckDestination true).gmu
      ∧ ∀ u, (((s.doubtedEnvelopes z new).recheckDestination true).ecc.throats.get u).state ≠ .opened →
        y.get u = ((s.doubtedEnvelopes z new).recheckDestination true).ecc.throats.get u := by
  obtain ⟨-, -, hh⟩ := State.doubtedEnvelopes_frame (s := s) (new := new) hz
  have hopen : ((s.doubtedEnvelopes z new).recheckDestination true).openCondition = false := by
    simpa [State.openCondition] using fun _ _ h0 => absurd h0 hh
  have hb : s.broughtIn z new = ((s.doubtedEnvelopes z new).recheckDestination true).followOpen s.openCondition := by
    rw [State.broughtIn, State.takeHold_of_areas (ne_vibration (.inr (.inr hz))), State.holdEnvelopes, if_pos hz]
    rfl
  obtain ⟨y, hy, hthroats⟩ := State.followOpen_shut hopen s.openCondition
  exact ⟨y, by rw [hb, hy]; rfl, by rw [hb, hy]; rfl, hthroats⟩

theorem State.broughtIn_returns (hz : holdsCapture z = true) (hc : s.ecc.current = some e) (hw : s.pins.warning = false)
    (ht : s.pins.throat.get e.throat = false)
    (hst : s.ecc.state = .measuring ∨ (s.ecc.state = .forward ∧ e.number = none)) :
    (s.broughtIn z new).ecc.state = .reversing ∧ (s.broughtIn z new).ecc.feed = .reverse
      ∧ (s.broughtIn z new).ecc.motor = true ∧ (s.broughtIn z new).ecc.returnTimer = .running 3000
      ∧ (s.broughtIn z new).ecc.current = some e
      ∧ ((s.broughtIn z new).ecc.throats.get e.throat).state = .returning := by
  obtain ⟨hecc, hpins, hh⟩ := State.doubtedEnvelopes_frame (s := s) (new := new) hz
  obtain ⟨y, hy, -, hthroats⟩ := State.broughtIn_envelope (s := s) (new := new) hz
  rw [State.recheckDestination_returns hh (by rw [hecc]; exact hc) (by rw [hpins]; exact hw)
    (by rw [hecc]; exact hst)] at hy hthroats
  obtain ⟨hstate, hfeed, hmotor, htimer, hcur, hunit⟩ :=
    State.startReverse_of_away (s := s.doubtedEnvelopes z new) (by rw [hecc]; exact hc) (by rw [hpins]; exact ht)
  rw [hy]
  exact ⟨hstate, hfeed, hmotor, htimer, hcur, by rw [hthroats _ (by rw [hunit]; decide), hunit]⟩

theorem State.broughtIn_drops (hz : holdsCapture z = true) (hc : s.ecc.current = some e) (hst : s.ecc.state = .leader) :
    (s.broughtIn z new).ecc.state = .idle ∧ (s.broughtIn z new).ecc.current = none
      ∧ (s.broughtIn z new).ecc.inFlight = false ∧ (s.broughtIn z new).ecc.motor = false
      ∧ (s.broughtIn z new).gmu.envelope.run = false
      ∧ ((s.broughtIn z new).ecc.throats.get e.throat).state = (if e.recapture then .returnWait else .waiting)
      ∧ (e.recapture = true → ((s.broughtIn z new).ecc.throats.get e.throat).overdue = true)
      ∧ ((s.broughtIn z new).ecc.throats.get e.throat).kept = (s.ecc.throats.get e.throat).kept := by
  obtain ⟨hecc, -, -⟩ := State.doubtedEnvelopes_frame (s := s) (new := new) hz
  obtain ⟨y, hy, hgmu, hthroats⟩ := State.broughtIn_envelope (s := s) (new := new) hz
  rw [State.recheckDestination_drops (by rw [hecc]; exact hc) (by rw [hecc]; exact hst)] at hy hgmu hthroats
  obtain ⟨hstate, hcur, hfly, hmotor, hrun, hunit, hover, hkept⟩ :=
    State.dropLeader_of_some (s := s.doubtedEnvelopes z new) (by rw [hecc]; exact hc)
  have hsame := hthroats e.throat (by rw [hunit]; split <;> decide)
  rw [hy, hgmu]
  dsimp only
  rw [hsame]
  exact ⟨hstate, hcur, hfly, hmotor, hrun, hunit, hover, by rw [hkept, hecc]⟩

theorem State.broughtIn_leaves (hz : holdsCapture z = true) (hc : s.ecc.current = some e) (hn : e.number.isSome = true)
    (hl : s.ecc.phase ≠ .leader) (hm : s.ecc.phase ≠ .measuring) :
    (s.broughtIn z new).ecc.state = s.ecc.state ∧ (s.broughtIn z new).ecc.current = some e
      ∧ (s.broughtIn z new).ecc.feed = s.ecc.feed ∧ (s.broughtIn z new).ecc.motor = s.ecc.motor := by
  obtain ⟨hecc, -, -⟩ := State.doubtedEnvelopes_frame (s := s) (new := new) hz
  obtain ⟨y, hy, -, -⟩ := State.broughtIn_envelope (s := s) (new := new) hz
  rw [State.recheckDestination_leaves (by rw [hecc]; exact hc) hn (by rw [hecc]; exact hl) (by rw [hecc]; exact hm)]
    at hy
  rw [hy, hecc]
  exact ⟨rfl, hc, rfl, rfl⟩

/-! ## The vibration zone -/

/-- Z12 in force is the pause of both transports (R82, R119). -/
theorem State.broughtIn_vibration (s : State) (new : Zone) :
    s.broughtIn 12 new = (s.joined 12 new).pauseNote.pauseEnv := by
  rw [State.broughtIn, State.takeHold_vibration, State.followOpen_of_same]
  rw [State.openCondition_pause, State.openCondition_joined rfl (by decide)]

/-- Z12 names no area (R155). -/
theorem Ct.addHold_vibration (c : Ct) (f : Lane → Bool) : c.addHold 12 f = c := by
  have hlane (l : Lane) : holdsLane 12 l = false := by cases l <;> rfl
  simp [Ct.addHold, addZone, holdsDispenser, holdsReject, holdsCapture, hlane]
  rfl

theorem State.broughtIn_pauses (s : State) (new : Zone) :
    (s.broughtIn 12 new).ct = s.ct ∧ (s.broughtIn 12 new).ldc = s.ldc ∧ (s.broughtIn 12 new).gmu = s.gmu
      ∧ (s.broughtIn 12 new).pins = s.pins ∧ (s.broughtIn 12 new).ntc = s.pauseNote.ntc
      ∧ (s.broughtIn 12 new).ecc = s.pauseEnv.ecc := by
  obtain ⟨hct, hntc, hgmu, hldc, hecc, -, -, hpins, -⟩ := s.joined_frame 12 new
  obtain ⟨hct', hldc', hgmu', hpins', hntc', hecc', -⟩ := (s.joined 12 new).pause_frame
  rw [State.broughtIn_vibration, hct', hldc', hgmu', hpins', hntc', hecc', State.pauseNote_ntc, State.pauseNote_ntc,
    State.pauseEnv_ecc, State.pauseEnv_ecc, hct, hntc, hgmu, hldc, hecc, hpins, Ct.addHold_vibration]
  exact ⟨rfl, rfl, rfl, rfl, rfl, rfl⟩

/-- The imprinter stops with its transport (R119). -/
theorem State.pauseEnv_imprinterOn (hi : s.ecc.state ≠ .idle) (hj : s.ecc.state ≠ .jammed)
    (ht : t.ecc = s.pauseEnv.ecc) :
    t.imprinterOn = false := by
  have hp : t.ecc.state = .paused := by
    rw [ht, State.pauseEnv_ecc]
    cases h : s.ecc.state <;> simp_all
  simp [State.imprinterOn, hp]

end Sys2Proof.Machine
end

section
/-! PROOF. The scanner, the windows and what brings a zone into force (O58): the statement. -/

open Sys2Proof Sys2Proof.Machine
/-- Settles O58: each change of a zone is one `putZone`, and what brings a zone into force leaves `State.broughtIn`. -/
theorem zonesFollowTheirLoops : Obligations.ZonesFollowTheirLoops := by
  refine ⟨fun s => ⟨s.formCycle, rfl, ?_⟩, fun s code z hz => ?_, fun s z c hwf hz hne => ?_, fun s l htail => ?_, ?_⟩
  · obtain ⟨hcycle, hconv⟩ := s.formCycle_azu
    refine ⟨hcycle ▸ scanCycle_nodup _ _, hconv, fun z => ?_, fun z hz => ?_, fun z hf hz => ?_, fun z => ?_,
      s.formCycle_rezoned.confined⟩
    · rw [hcycle, mem_scanCycle, mem_scanRange]
    · rw [hcycle] at hz
      rw [State.formCycle_zone]
      exact fun h => (Zone.scanned_cls ((mem_scanCycle _ _ z).mp hz).1 _).mp h hz
    · rw [hcycle] at hz
      rw [State.formCycle_zone]
      exact (Zone.scanned_cls hf _).mpr hz
    · rw [State.formCycle_zone]
      exact Zone.scanned_keeps _ _ _
  · have hexec : exec (.loopConversion code) s = .next (s.convertNext code) := rfl
    dsimp only
    rw [hexec, State.convertNext_of_some hz]
    refine ⟨fun hb => ?_, fun hb hrow => ?_, fun hb hrow => ⟨_, rfl, ?_⟩⟩
    · exact congrArg _ (State.convertLoop_of_cls (s := s.onAzu _) hb)
    · exact congrArg _ (State.convertLoop_of_few (s := s.onAzu _) hb hrow)
    · obtain ⟨hcls, hcount, -⟩ := (s.azu.zones[z]).changeClass_keeps (bandOf code)
        ((s.onAzu fun a => { a with converted := a.converted + 1 }).blanked z)
      rw [State.convertLoop_of_third (s := s.onAzu _) hb hrow]
      refine ⟨?_, ?_, fun x hx => ?_⟩
      · rw [State.putZone_zone, if_pos rfl]
        exact hcls
      · rw [State.putZone_zone, if_pos rfl]
        exact hcount
      · rw [State.putZone_zone, if_neg hx.symm]
        rfl
  · obtain ⟨hcls, -, hen, hmode, hdel⟩ := (s.azu.zones[z]).changeClass_keeps c (s.blanked z)
    have hband : isBandClass c = true := by
      simp only [Instr.wf, Bool.and_eq_true] at hwf
      exact hwf.2
    have hat : (s.putZone z ((s.azu.zones[z]).changeClass c (s.blanked z))).azu.zones[z]
        = (s.azu.zones[z]).changeClass c (s.blanked z) := by
      rw [State.putZone_zone, if_pos rfl]
    refine ⟨_, exec_loopClassChange hwf hz hne, fun x hx => by rw [State.putZone_zone, if_neg hx.symm], ?_⟩
    rw [hat]
    refine ⟨hcls, hen, hmode, hdel, fun hc hb => ?_, fun hc hb => ?_, fun hc => ?_, fun hc => ?_, by simp,
      State.putZone_pins (Zone.changeClass_stays _ c _)⟩
    · rw [hc, hb]
      exact Zone.changeClass_tripped _
    · rw [hc, hb]
      exact Zone.changeClass_deferred _
    · exact ⟨Zone.changeClass_pending hc _ _, Zone.changeClass_untripped hband hc _ _⟩
    · exact (State.putZone_rezoned (Zone.changeClass_inForce hc _ _)).confined
  · dsimp only
    rw [exec_blankingTailExpiry htail]
    refine ⟨fun hd => ?_, fun switch pos hd => ⟨fun hp => ?_, fun hp => ⟨_, rfl, ?_⟩⟩⟩
    · rw [State.judgeWindow_of_clear (s := s.shut l) hd]
      rfl
    · exact congrArg _ (State.judgeWindow_of_dropped (s := s.shut l) hd hp)
    · rw [State.judgeWindow_of_standing (s := s.shut l) hd hp]
      obtain ⟨hpend, hneed, hdef, hstay⟩ :=
        ({ (s.shut l).azu.zones[l.forcingZone] with deferred := .clear } : Zone).trip_marks true
      have hwin : (s.shut l).azu.forcing.get l = ⟨false, .stopped⟩ := PerLane.get_put_same _ _ _
      rw [State.putZone_zone, if_pos rfl, State.putZone_forcing (s := s.shut l) (by rw [hwin]) hstay]
      refine ⟨hpend, hneed, hdef, hwin, fun x hx => ?_⟩
      rw [State.putZone_zone, if_neg hx.symm]
      rfl
  · intro s z c hin hg
    obtain ⟨new, t, hexec, heq, hflag⟩ := State.bringsIntoForce_exec hin
    refine ⟨t, hexec, fun hz => ?_, fun hz => ?_, fun h12 => ?_⟩ <;> rw [heq]
    · have hne : z.val ≠ 12 := ne_vibration (hz.elim .inl fun h => .inr (.inl h))
      obtain ⟨hntc, hrun, hraise⟩ := State.broughtIn_note (s := s) (new := new) (x := .transportJam) hne
      refine ⟨fun hw => ?_, fun hp => ?_, fun hr => ?_⟩
      · obtain ⟨hjam, hraised, hstopped, hlost⟩ := State.notedDoor_of_work (new := new) hz hw
        refine ⟨?_, hflag (hraise hraised), ?_, fun h b hb hn => ?_⟩
        · exact hntc ▸ hjam
        · exact (congrArg _ hrun).trans hstopped
        · exact State.broughtIn_failed hne hg (hlost h b hb hn)
      · exact hntc.trans (State.notedDoor_of_rest hz hp)
      · exact State.broughtIn_vaultDoubtful hr hg
    · refine ⟨fun k v hk => State.broughtIn_record hz hg rfl hk, fun k e hk => ?_,
        fun e hc hw ht hst => State.broughtIn_returns hz hc hw ht hst, fun e hc hst => State.broughtIn_drops hz hc hst,
        fun e n hc hn hl hm => State.broughtIn_leaves hz hc (by rw [hn]; rfl) hl hm⟩
      rw [← Record.captureDoubt_envelope]
      exact State.broughtIn_record hz hg rfl hk
    · obtain rfl : z = 12 := Fin.ext h12
      obtain ⟨hct, hldc, hgmu, hpins, hntc, hecc⟩ := s.broughtIn_pauses new
      exact ⟨hct, hldc, hgmu, hpins, hntc.trans s.pauseNote_ntc, hecc.trans s.pauseEnv_ecc,
        fun hi hj => State.pauseEnv_imprinterOn hi hj hecc⟩
end
